-- ==== Sys2Proof/Word.lean ====
section
/-! DEFINITION. The words of the CZA-240: bytes of packets and records, 24-bit samples, words of the
sample memory, and the wrapping counters and sequences (00_scope.md, "Terms and abbreviations" and
"Conventions"). -/

namespace Sys2Proof

/-- One byte of a packet, a frame, a record or the configuration memory. -/
abbrev Byte := BitVec 8

/-- One 24-bit two's complement audio value (00_scope.md, "Sample"). -/
abbrev Sample := BitVec 24

/-- One sample for each side at one instant: left, then right. A mono value stands on both sides. -/
abbrev SampleSet := Sample × Sample

/-- One word of the sample memory (R64). -/
abbrev MemWord := BitVec 32

/-- A sequence of 0 to 65,535 that wraps (R25, R173, R190). -/
abbrev Seq16 := BitVec 16

/-- A count of 0 to 4,294,967,295 that wraps (R110, R130, R164, R173). -/
abbrev Count32 := BitVec 32

end Sys2Proof
end

