-- ==== Sys2Proof/Config.lean ====
section
/-! DEFINITION. What the spec fixes once for every CZA-240 (capacities and times), and the free values:
values that the spec says exist and does not state. A free value is an opaque constant, so that no
proof can lean on what it is. -/

namespace Sys2Proof.Config

/-- FREE VALUE (log 3). The bytes of an ANSWER's result data where the spec lists the fields and gives
no byte layout for them (the status records, and the OK data whose widths no rule states). The
argument is the answer's own number (`Packet.fresh`), so that a packet sent again after a collision
carries the same bytes (R5). -/
opaque unstatedResultBytes : Nat → List Byte

/-- FREE VALUE (log 4). The result with which a DROP_CALLER key is refused where its channel is not
ON_AIR (R147 names no result). The argument is the fresh-value counter. -/
opaque unstatedRefusalCode : Nat → Nat

/-- FREE VALUE (log 5). The line number taken from an OK answer to CALL_TAKE that carries no result
data (R136 says every OK answer carries it; R145 states nothing for one that does not). -/
opaque unstatedAnswerLine : Nat → Nat

/-- Gain 1 (section 3.2): "Unity is 16384". -/
abbrev unity : Nat := 16384

/-- Sample sets in a block (00_scope.md, "Block"). -/
abbrev blockSets : Nat := 48

/-- Words in a page of the sample memory (R64). -/
abbrev pageWords : Nat := 4096

/-- Blocks of the LISTEN window (R200). -/
abbrev listenWindow : Nat := 500

/-- Capacities of the transmit queues, by class (section 1.2). -/
def queueCapacity : Nat → Nat
  | 0 => 4
  | 1 => 8
  | 2 => 8
  | _ => 4

end Sys2Proof.Config
end

