-- ==== Sys2Proof/Syntax.lean ====
section
/-! DEFINITION. The commands of the CZA-240: one constructor for each row of spec/opcode_table.json.

The table gives its rows no operands; an operand here is what the rule of the row says the event
carries. A packet row carries the source and destination of the bus header and the payload bytes
(section 1.3). A request row carries the source, the destination, the tag and the argument bytes of
its REQUEST (section 1.4). A row that is one event of a block boundary carries nothing: what happens
is decided by the state (log 1). -/

namespace Sys2Proof

/-- The levels at the input pins and the samples at the audio inputs at one sample set instant
(00_scope.md, "Ports" and "Pin summary"; log 2). Lists are in the order of the pins; a line, key or
contact is pressed, present or closed where its entry is `true`. -/
structure Inputs where
  /-- LOCAL1 to LOCAL4 (section 3.1). -/
  locals : List Sample
  /-- The incoming sample of caller lines 1 to 4 (section 7.1). -/
  lines : List Sample
  /-- Ring contacts of lines 1 to 4. -/
  ring : List Bool
  /-- Loop contacts of lines 1 to 4. -/
  loop : List Bool
  /-- Key inputs 1 to 8 (R193). -/
  keys : List Bool
  /-- Contact inputs 1 to 4, read in SITE role (R190). -/
  contacts : List Bool
deriving DecidableEq, Repr

/-- One command: one row of the opcode table. -/
inductive Instr where
  /-- PIN_RESET (R200). -/
  | pinReset
  /-- CONFIG_READ_DONE (R199): the bytes of the configuration memory from byte 0. -/
  | configReadDone (mem : List Byte)
  /-- BLOCK_BOUNDARY (R88). -/
  | blockBoundary
  /-- LISTEN_WINDOW_END (R200). -/
  | listenWindowEnd
  /-- DEFERRAL_EXPIRY (R1): gap units of idle line that have passed since the last line event. -/
  | deferralExpiry (gaps : Nat)
  /-- SEND_COMPLETE (R2). -/
  | sendComplete
  /-- SEND_COLLISION (R2). -/
  | sendCollision
  /-- PACKET_DISCARDED (R6): every byte received between carrier appearing and falling away. -/
  | packetDiscarded (bytes : List Byte)
  /-- BLOCK (R31). -/
  | block (src dst : Nat) (payload : List Byte)
  /-- CLAIM (R9). -/
  | claim (src dst : Nat) (payload : List Byte)
  /-- ROLLCALL (R16). -/
  | rollcall (src dst : Nat) (payload : List Byte)
  /-- ANSWER (R13). -/
  | answer (src dst : Nat) (payload : List Byte)
  /-- ALERT (R153). -/
  | alert (src dst : Nat) (payload : List Byte)
  /-- CLIPSEG (R72). -/
  | clipseg (src dst : Nat) (payload : List Byte)
  /-- UNKNOWN_REQUEST (R10). -/
  | unknownRequest (src dst : Nat) (code tag : Byte) (args : List Byte)
  /-- CUE_ADD (R84). -/
  | cueAdd (src dst : Nat) (tag : Byte) (args : List Byte)
  /-- CUE_REMOVE (R85). -/
  | cueRemove (src dst : Nat) (tag : Byte) (args : List Byte)
  /-- CUE_CLEAR (R86). -/
  | cueClear (src dst : Nat) (tag : Byte) (args : List Byte)
  /-- PLAY (R90). -/
  | play (src dst : Nat) (tag : Byte) (args : List Byte)
  /-- STOP (R98). -/
  | stop (src dst : Nat) (tag : Byte) (args : List Byte)
  /-- SCENE_WRITE (R48). -/
  | sceneWrite (src dst : Nat) (tag : Byte) (args : List Byte)
  /-- SCENE_SWAP (R49). -/
  | sceneSwap (src dst : Nat) (tag : Byte) (args : List Byte)
  /-- CLIP_OPEN (R70). -/
  | clipOpen (src dst : Nat) (tag : Byte) (args : List Byte)
  /-- CLIP_DELETE (R78). -/
  | clipDelete (src dst : Nat) (tag : Byte) (args : List Byte)
  /-- CLAIM_SET (R108). -/
  | claimSet (src dst : Nat) (tag : Byte) (args : List Byte)
  /-- CALL_ANSWER (R131). -/
  | callAnswer (src dst : Nat) (tag : Byte) (args : List Byte)
  /-- CALL_SCREEN (R134). -/
  | callScreen (src dst : Nat) (tag : Byte) (args : List Byte)
  /-- CALL_TAKE (R136). -/
  | callTake (src dst : Nat) (tag : Byte) (args : List Byte)
  /-- CALL_HOLD (R140). -/
  | callHold (src dst : Nat) (tag : Byte) (args : List Byte)
  /-- CALL_DROP (R141). -/
  | callDrop (src dst : Nat) (tag : Byte) (args : List Byte)
  /-- ALERT_END_LOCAL (R162). -/
  | alertEndLocal (src dst : Nat) (tag : Byte) (args : List Byte)
  /-- SITE_CLIP_SEND (R176). -/
  | siteClipSend (src dst : Nat) (tag : Byte) (args : List Byte)
  /-- STATUS_QUERY with record kind STATION (R22). -/
  | statusQueryStation (src dst : Nat) (tag index : Byte)
  /-- STATUS_QUERY with record kind SLOT (R40). -/
  | statusQuerySlot (src dst : Nat) (tag index : Byte)
  /-- STATUS_QUERY with record kind CLIP (R80). -/
  | statusQueryClip (src dst : Nat) (tag index : Byte)
  /-- STATUS_QUERY with record kind CUELIST (R103). -/
  | statusQueryCueList (src dst : Nat) (tag index : Byte)
  /-- STATUS_QUERY with record kind PLAYER (R104). -/
  | statusQueryPlayer (src dst : Nat) (tag index : Byte)
  /-- STATUS_QUERY with record kind LINES (R148). -/
  | statusQueryLines (src dst : Nat) (tag index : Byte)
  /-- STATUS_QUERY with record kind AIRVIEW (R127). -/
  | statusQueryAirView (src dst : Nat) (tag index : Byte)
  /-- STATUS_QUERY with record kind ALERTHIST (R165). -/
  | statusQueryAlertHist (src dst : Nat) (tag index : Byte)
  /-- STATUS_QUERY with record kind LINK (R180). -/
  | statusQueryLink (src dst : Nat) (tag index : Byte)
  /-- RESTART (R198). -/
  | restart (src dst : Nat) (tag : Byte) (args : List Byte)
  /-- RESTART_DEADLINE (R198). -/
  | restartDeadline
  /-- ROLLCALL_DUE (R15). -/
  | rollcallDue
  /-- REQUEST_TIMEOUT (R14). -/
  | requestTimeout
  /-- PRESENCE_EXPIRY (R17). -/
  | presenceExpiry
  /-- SLOT_TIMEOUT (R37). -/
  | slotTimeout
  /-- SCENE_SWAP_END (R49). -/
  | sceneSwapEnd
  /-- FADER_RAMP_DONE (R50). -/
  | faderRampDone
  /-- CALLER_RELEASE_DONE (R52). -/
  | callerReleaseDone
  /-- METER_WINDOW_CLOSE (R58). -/
  | meterWindowClose
  /-- LOAD_TIMEOUT (R76). -/
  | loadTimeout
  /-- FADE_OUT_START (R93). -/
  | fadeOutStart
  /-- SEGUE_DUE (R94). -/
  | segueDue
  /-- ITEM_NATURAL_END (R96). -/
  | itemNaturalEnd
  /-- SEGUE_COUNTDOWN_DONE (R95). -/
  | segueCountdownDone
  /-- OUTGOING_EXPIRY (R117). -/
  | outgoingExpiry
  /-- RING_START (R130). -/
  | ringStart
  /-- GIVE_UP (R130). -/
  | giveUp
  /-- HANG_UP (R132). -/
  | hangUp
  /-- TAKE_WATCH_EXPIRY (R138). -/
  | takeWatchExpiry
  /-- CALLER_WATCH_EXPIRY (R145). -/
  | callerWatchExpiry
  /-- ALERT_LINE_RECORD (R151): the characters of a complete record, all with a good stop bit. -/
  | alertLineRecord (bytes : List Byte)
  /-- ALERT_LINE_GAP_TIMEOUT (R150). -/
  | alertLineGapTimeout
  /-- ALERT_ACTIVATION (R159). -/
  | alertActivation
  /-- ALERT_CLIP_DONE (R160). -/
  | alertClipDone
  /-- ALERT_FADE_DONE (R160). -/
  | alertFadeDone
  /-- ALERT_CAP_DUE (R160). -/
  | alertCapDue
  /-- LEG_DROP (R170). -/
  | legDrop
  /-- RESERVE_PLAYER_START (R169). -/
  | reservePlayerStart
  /-- LINK_FRAME_MADE (R173). -/
  | linkFrameMade
  /-- LINK_FRAME_SENT (R175). -/
  | linkFrameSent
  /-- TRANSFER_NO_REPORT (R178). -/
  | transferNoReport
  /-- RETURN_LOST (R179). -/
  | returnLost
  /-- RETURN_FRAME (R179): the bytes of the return frame, sync first. -/
  | returnFrame (bytes : List Byte)
  /-- SITE_LINK_FRAME (R182): the bytes of a complete link frame, sync first. -/
  | siteLinkFrame (bytes : List Byte)
  /-- SITE_FRAME_STALL (R182). -/
  | siteFrameStall
  /-- SITE_FRAME_BOUNDARY (R184). -/
  | siteFrameBoundary
  /-- SITE_CONCEAL (R185). -/
  | siteConceal
  /-- SITE_RESERVE_ENTRY (R185). -/
  | siteReserveEntry
  /-- SITE_RESERVE_PLAYER_START (R187). -/
  | siteReservePlayerStart
  /-- SITE_CONTACT_CHANGE (R191). -/
  | siteContactChange
  /-- CLAIM_KEY (R109). -/
  | claimKey
  /-- PLAY_NEXT (R194). -/
  | playNext
  /-- STOP_ALL (R194). -/
  | stopAll
  /-- TAKE_NEXT_CALLER (R144). -/
  | takeNextCaller
  /-- DROP_CALLER (R147). -/
  | dropCaller
  /-- KEY_SCENE_SWAP (R49). -/
  | keySceneSwap
  /-- ANSWER_NEXT_LINE (R194). -/
  | answerNextLine
  /-- VOICE_OPEN (R53). -/
  | voiceOpen
  /-- VOICE_OPEN_RELEASE (R193). -/
  | voiceOpenRelease
  /-- SAMPLE_SET_INSTANT (R42). -/
  | sampleSetInstant (inputs : Inputs)
  /-- CARRIER_APPEARS (R1): gap units of idle line that have passed since the last line event. -/
  | carrierAppears (gaps : Nat)
  /-- ALERT_LINE_BYTE (R150): one character and whether its stop bit is 1. -/
  | alertLineByte (b : Byte) (stopBit : Bool)
  /-- SITE_LINK_BYTE (R182). -/
  | siteLinkByte (b : Byte)
deriving DecidableEq, Repr

end Sys2Proof
end

