-- ==== Sys2Proof/Decode.lean ====
section
/-! DEFINITION. The decoder of the opcode table's bits: the table gives no row any bits. -/

namespace Sys2Proof

/-- The command that a word spells by the bits of spec/opcode_table.json: none, whatever the word. -/
def decodeTableWord (_nbits _w : Nat) : Option Instr := none

end Sys2Proof
end

