-- ==== Sys2Proof/Machine/State.lean ====
section
/-! DEFINITION. The state of the CZA-240 as plain data, one structure for each functional block of
00_scope.md ("Functional blocks"), the machine's outcomes, and the state after a pin reset. Each
chapter's own "Values after reset" table gives the reset values (R23, R41, R63, R82, R106, R129,
R149, R167, R181, R192, R201). -/

namespace Sys2Proof.Machine

/-! ## Configuration (chapter 11) -/

/-- The station states (section 1.6). -/
inductive StationState where
  | config | listen | run | duplicate | unconfigured
deriving DecidableEq, Repr

/-- The role set (00_scope.md, "Roles"). -/
structure Roles where
  studio : Bool
  phone : Bool
  link : Bool
  alert : Bool
  site : Bool
deriving DecidableEq, Repr

/-- One scene: a channel gain for each of the eight inputs and a duck depth (section 3.4). -/
structure Bank where
  gains : List Nat
  duckDepth : Nat
deriving DecidableEq, Repr

/-- Key functions (section 11.5). -/
inductive KeyFn where
  | none | claimStudio | claimAuto | playNext | stopAll | takeNextCaller | dropCaller1
  | dropCaller2 | sceneSwap | answerNextLine | voiceOpen
deriving DecidableEq, Repr

/-- Tally functions (section 11.5). -/
inductive TallyFn where
  | none | onAir | next | alert | callerWaiting | callerOnAir | silence | linkFault | busFault
deriving DecidableEq, Repr

/-- The configuration record's values in use (section 11.5), after the clamping of the owners' rules. -/
structure Settings where
  number : Nat
  roles : Roles
  memPages : Nat
  restartCode : Byte
  alertCode : Nat
  areaCodes : List Nat
  areaHash : List Byte
  testAlerts : Bool
  /-- Tone clips of classes 1 to 4; 255 for none. -/
  toneClips : List Nat
  reserveClip : Nat
  /-- 0 for none. -/
  phoneStation : Nat
  autoAnswer : Bool
  startDepth : Nat
  highMark : Nat
  silenceThreshold : Nat
  silenceTime : Nat
  overloadThreshold : Nat
  reserveDelay : Nat
  linkId : Nat
  siteId : Nat
  voiceFlags : List Bool
  bank0 : Bank
  bank1 : Bank
  keyFns : List KeyFn
  tallyFns : List TallyFn
deriving DecidableEq, Repr

/-- The levels at the input pins, as last brought by a sample set instant (log 2). -/
structure Pins where
  ring : List Bool
  loop : List Bool
  keys : List Bool
  contacts : List Bool
deriving DecidableEq, Repr

/-! ## Ramps and meter points (chapter 3) -/

/-- A ramp (section 3.3): start, target, length and position in sample sets. `running` is set from
the giving of a target with a length until its end has been reported (R50); `pending` is a target
and a length in blocks taken between two boundaries, which the next boundary applies (R46). -/
structure Ramp where
  start : Nat
  target : Nat
  len : Nat
  pos : Nat
  running : Bool
  pending : Option (Nat × Nat)
deriving DecidableEq, Repr

/-- A meter point (section 3.9). `waiting` holds from a start or restart to the next boundary, at
which its window begins (R57). -/
structure MeterPoint where
  running : Bool
  waiting : Bool
  pos : Nat
  peak : Nat
  clips : Nat
  lastPeak : Nat
  lastClips : Nat
  silent : Bool
  silentRun : Nat
  soundRun : Nat
  overload : Bool
  clipTotal : Nat
  overTotal : Nat
deriving DecidableEq, Repr

/-- The meter points of a station, in the order of the table of section 3.9. -/
structure Meters where
  studio : MeterPoint
  slots : List MeterPoint
  holderInput : MeterPoint
  linkOutput : MeterPoint
  siteOutput : MeterPoint
  incoming : MeterPoint
deriving DecidableEq, Repr

/-! ## Streams and receive slots (chapter 2) -/

/-- Activity states of an outgoing index (section 2.1). -/
inductive OutState where
  | inactive | active | ending
deriving DecidableEq, Repr

/-- One index of the outgoing stream set. `start` is the line number of a start request not yet carried
out: of an INACTIVE index it waits for the next block boundary, of an ENDING one for the boundary after that
of the END block. `next` is a line number that the next BLOCK made takes, and `again` says that the END
block of an ENDING index with a start kept has been made (R24). -/
structure OutIndex where
  state : OutState
  seq : Seq16
  line : Nat
  start : Option Nat
  next : Option Nat
  again : Bool
deriving DecidableEq, Repr

/-- Purposes of a listen entry (section 2.2). -/
inductive Purpose where
  | follow | watch | caller | mixminus | onair | item
deriving DecidableEq, Repr

/-- The block that added a listen entry (section 2.2). -/
inductive RequesterBlock where
  | airUnit | takePath | phoneUnit | cueEngine
deriving DecidableEq, Repr

/-- One entry of the listen table; entry i uses slot i (R27). -/
structure ListenEntry where
  valid : Bool
  station : Nat
  index : Nat
  purpose : Purpose
  requester : RequesterBlock
deriving DecidableEq, Repr

/-- Slot states (section 2.3). -/
inductive SlotState where
  | free | filling | running | refilling | ended
deriving DecidableEq, Repr

/-- One block held in a receive slot. -/
structure HeldBlock where
  seq : Seq16
  channels : Nat
  endFlag : Bool
  audio : List SampleSet
deriving DecidableEq, Repr

/-- What a slot gives out at a boundary; sample sets not listed are 0. -/
structure GivenOut where
  channels : Nat
  audio : List SampleSet
deriving DecidableEq, Repr

/-- A slot's totals, 16 bits each and saturating (section 2.3). -/
structure SlotTotals where
  lost : Nat
  stale : Nat
  drops : Nat
  resyncs : Nat
  runaways : Nat
  slips : Nat
  underruns : Nat
deriving DecidableEq, Repr

/-- A receive slot (section 2.3): the blocks held are listed oldest first, the count is their number,
and the write position is the read position plus the count, modulo 16. -/
structure Slot where
  state : SlotState
  blocks : List HeldBlock
  readPos : Nat
  lastSeq : Option Seq16
  lastSupplied : Option HeldBlock
  noArrival : Nat
  overflowRun : Nat
  totals : SlotTotals
  out : GivenOut
deriving DecidableEq, Repr

/-- Why a slot ended (R37). -/
inductive EndReason where
  | endFlag | timeout
deriving DecidableEq, Repr

/-- The report of a slot's ending, as it goes to the requester block of the entry (R37). -/
structure SlotReport where
  entry : Nat
  reason : EndReason
deriving DecidableEq, Repr

/-- The stream unit. -/
structure Streams where
  outgoing : List OutIndex
  listen : List ListenEntry
  slots : List Slot
deriving DecidableEq, Repr

/-! ## The programme mixer (chapter 3) -/

/-- Caller channel states (R51). -/
inductive CallerState where
  | inactive | active | releasing
deriving DecidableEq, Repr

/-- The source of a caller channel (R51). -/
inductive CallerSource where
  | none
  | entry (n : Nat)
  | line (n : Nat)
deriving DecidableEq, Repr

/-- An activation or release that the next boundary carries out (R51, R52). -/
inductive CallerRequest where
  | activate (src : CallerSource)
  | release
deriving DecidableEq, Repr

/-- A caller channel record of the mixer (R51). -/
structure Caller where
  state : CallerState
  source : CallerSource
  fader : Ramp
  pending : Option CallerRequest
deriving DecidableEq, Repr

/-- A scene swap in progress (R49): its length, the blocks its ramps have still to run, and whether
the boundary that gives the ramps their targets has come. -/
structure Swap where
  len : Nat
  remaining : Nat
  started : Bool
deriving DecidableEq, Repr

/-- The mixer, with the samples last put out on converter data outputs 1 and 2 (R42). -/
structure Mixer where
  bank0 : Bank
  bank1 : Bank
  live : Nat
  swap : Option Swap
  gains : List Ramp
  faderA : Ramp
  faderB : Ramp
  caller1 : Caller
  caller2 : Caller
  duckOn : Bool
  duck : Ramp
  mmClips1 : Nat
  mmClips2 : Nat
  programme : SampleSet
  mixMinus1 : Sample
  mixMinus2 : Sample
deriving DecidableEq, Repr

/-! ## The clip store (chapter 4) -/

/-- Clip states (R66). -/
inductive ClipState where
  | empty | loading | ready
deriving DecidableEq, Repr

/-- Last failure of a clip (section 4.2). -/
inductive LoadFailure where
  | none | gap | overrun | short | crc | timeout
deriving DecidableEq, Repr

/-- One entry of the clip directory (section 4.2). -/
structure ClipEntry where
  state : ClipState
  channels : Nat
  length : Nat
  firstPage : Nat
  pageCount : Nat
  serial : Nat
  expectedCrc : BitVec 32
  received : Nat
  useCount : Nat
  lastFailure : LoadFailure
deriving DecidableEq, Repr

/-- A free extent (section 4.3). -/
structure Extent where
  first : Nat
  count : Nat
deriving DecidableEq, Repr

/-- A load context in use (R71). -/
structure LoadContext where
  clip : Nat
  opener : Nat
  tag : Byte
  serial : Nat
  crc : BitVec 32
  idleAge : Nat
deriving DecidableEq, Repr

/-- The clip store counters (R81). -/
structure StoreCounters where
  completed : Nat
  failed : Nat
  abandoned : Nat
  noSpace : Nat
  malformed : Nat
  stray : Nat
  duplicate : Nat
deriving DecidableEq, Repr

/-- The clip store. The site clip store of chapter 10 has the same directory and free-extent list. -/
structure Store where
  pages : Nat
  dir : List ClipEntry
  free : List Extent
  loads : List LoadContext
  counters : StoreCounters
deriving DecidableEq, Repr

/-! ## Cue list and players (chapter 5) -/

/-- What an item plays (section 5.1). -/
inductive CueSource where
  | clip (n : Nat)
  | stream (station index : Nat)
deriving DecidableEq, Repr

/-- A cue list entry (section 5.1); an empty label is an absent one. -/
structure CueEntry where
  id : Nat
  source : CueSource
  startOffset : Nat
  segue : Int
  fadeIn : Nat
  fadeOut : Nat
  level : Nat
  auto : Bool
  pausable : Bool
  label : List Byte
deriving DecidableEq, Repr

/-- Player states (section 5.2). -/
inductive PlayerState where
  | idle | armed | playing | paused | stopping
deriving DecidableEq, Repr

/-- Last end reasons (R104). -/
inductive EndKind where
  | complete | stopped | streamEnded | noSlot
deriving DecidableEq, Repr

/-- A fader target that step 5 of the boundary gives (R88). -/
inductive FaderOrder where
  | start | pause | resume
deriving DecidableEq, Repr

/-- A player record. `held` is set while a PAUSED player's down-ramp is over (its position saved, for
a clip item); `slotEnded` is the stream unit's report of R37, taken at step 2; `wake` marks a resume
under a HOLDING report; `order` is the fader target due at step 5. -/
structure Player where
  state : PlayerState
  item : Option CueEntry
  blocks : Nat
  segueBlock : Nat
  readPos : Nat
  entry : Option Nat
  count : Nat
  segueTaken : Bool
  fadeOutBegun : Bool
  resumeRamp : Bool
  saved : Option Nat
  held : Bool
  pending : Bool
  wake : Bool
  slotEnded : Bool
  order : Option FaderOrder
  lastEnd : Option (EndKind × Nat)
deriving DecidableEq, Repr

/-- The station's standing on the air (R100). -/
inductive Standing where
  | holding | preempted | offAir
deriving DecidableEq, Repr

/-- The cue engine counters (R105). -/
structure CueCounters where
  started : Nat
  completed : Nat
  stopped : Nat
  streamEnds : Nat
  noSlot : Nat
  seguesTaken : Nat
  seguesMissed : Nat
deriving DecidableEq, Repr

/-- The cue engine. `countdown` is the segue countdown's count, or none while stopped, which stands for the
count 0 of R104 and R106: one that a PLAY start or a STOP of both players stops above 0 gives up its count,
the model's choice (log 17). It is held while `heldFlag` is set (R95). `armStart` is the pending start of R90,
order 3; `standing` is a report of the air unit not yet carried out (R100); `streamStarts` counts the starts
of R97 due at step 4. -/
structure Cue where
  list : List CueEntry
  a : Player
  b : Player
  countdown : Option Nat
  heldFlag : Bool
  preferB : Bool
  armStart : Bool
  standing : Option Standing
  streamStarts : Nat
  counters : CueCounters
deriving DecidableEq, Repr

/-! ## Air precedence (chapter 6) -/

/-- Kind of a claims table entry (R110). -/
inductive ClaimKind where
  | peer | own | alert
deriving DecidableEq, Repr

/-- State of a claim held (R110). -/
inductive ClaimState where
  | waiting | holding | stacked | silent | unreachable
deriving DecidableEq, Repr

/-- Why no listen entry was added (R28). -/
inductive AddFailure where
  | full | inUse
deriving DecidableEq, Repr

/-- A claim held in an entry (R110). -/
structure Claim where
  kind : ClaimKind
  level : Nat
  arrival : Count32
  state : ClaimState
  reason : Option AddFailure
  alertId : Nat
deriving DecidableEq, Repr

/-- An entry of the claims table (R110). -/
structure ClaimEntry where
  claim : Option Claim
  lastSerial : Option Byte
  listen : Option Nat
deriving DecidableEq, Repr

/-- Holder kinds (R113). -/
inductive HolderKind where
  | none | reserve | peer | own | alert
deriving DecidableEq, Repr

/-- The holder record (R113). -/
structure Holder where
  kind : HolderKind
  station : Nat
  level : Nat
  arrival : Count32
  alertId : Nat
  entry : Option Nat
deriving DecidableEq, Repr

/-- A record of the resume stack (R113); the marker is LOCAL where `isOwn` is set, else PEER. -/
structure StackRecord where
  station : Nat
  level : Nat
  arrival : Count32
  isOwn : Bool
deriving DecidableEq, Repr

/-- A member of the outgoing set (R117). -/
structure OutMember where
  entry : Nat
  count : Nat
deriving DecidableEq, Repr

/-- The air unit counters (R128). -/
structure AirCounters where
  preemptions : Nat
  resumptions : Nat
  takesByWaiting : Nat
  reserveFallbacks : Nat
  silenceMarkings : Nat
  recoveries : Nat
  unreachable : Nat
  stackDiscards : Nat
  absentSource : Nat
  stale : Nat
deriving DecidableEq, Repr

/-- The air unit. Entry i of `claims` is that of station i + 1. The stack is listed top first. -/
structure Air where
  ownLevel : Nat
  ownSerial : Byte
  claims : List ClaimEntry
  alertClaim : ClaimEntry
  arrivals : Count32
  holder : Holder
  stack : List StackRecord
  outgoing : List OutMember
  ownView : Bool
  standing : Standing
  waiting : Bool
  alertOnAir : Bool
  counters : AirCounters
deriving DecidableEq, Repr

/-! ## Phone-in lines (chapter 7) -/

/-- Line states (section 7.1). -/
inductive LineState where
  | idle | ringing | queued | held | onAir
deriving DecidableEq, Repr

/-- A studio at the other side of a call: a station of the bus, or this chip's own (LOCAL). -/
inductive Party where
  | station (n : Nat)
  | own
deriving DecidableEq, Repr

/-- Last clear reasons (section 7.1). -/
inductive ClearReason where
  | none | gaveUp | hungUp | dropped
deriving DecidableEq, Repr

/-- A take-watch or caller-watch (R138, R145). -/
structure Watch where
  age : Nat
  met : Bool
deriving DecidableEq, Repr

/-- A line record (section 7.1), with its seize indication. `holdLater` stands from a return to HELD to
the next block boundary, from which the caller is heard on hold (R139). -/
structure LineRecord where
  state : LineState
  seized : Bool
  rangAt : Option Count32
  ringAbsent : Nat
  answeredAt : Option Count32
  loopAbsent : Nat
  screened : Bool
  label : List Byte
  studio : Option Party
  mmIndex : Option Nat
  mmEntry : Option Nat
  watch : Option Watch
  holdLater : Bool
  lastClear : ClearReason
deriving DecidableEq, Repr

/-- Phone unit counters: the first thirteen of the table of R148. -/
structure PhoneCounters where
  rings : Nat
  giveUps : Nat
  answers : Nat
  autoAnswers : Nat
  hangUps : Nat
  drops : Nat
  takes : Nat
  takesRefused : Nat
  holds : Nat
  takeWatchExpiries : Nat
  mixMinusLosses : Nat
  studioLosses : Nat
  holdFeedRefusals : Nat
deriving DecidableEq, Repr

/-- The phone unit, with the samples last put out to the four lines (R135). -/
structure Phone where
  lines : List LineRecord
  queue : List Nat
  holdEntry : Option Nat
  blockCount : Count32
  outgoing : List Sample
  counters : PhoneCounters
deriving DecidableEq, Repr

/-- Take record states (section 7.7). -/
inductive TakeState where
  | free | taking | onAir | releasing
deriving DecidableEq, Repr

/-- A take record (section 7.7). `drops` are the tags of the drops that the channel has asked for and
that are still pending; the record's tag is the last of them (R147, log 19). -/
structure TakeRecord where
  state : TakeState
  phone : Option Party
  line : Option Nat
  entry : Option Nat
  tag : Option Byte
  drops : List Byte
  watch : Option Watch
deriving DecidableEq, Repr

/-- Take path counters: the last seven of the table of R148. -/
structure TakeCounters where
  sent : Nat
  refusedByPhone : Nat
  timeouts : Nat
  abandoned : Nat
  callerWatchExpiries : Nat
  releases : Nat
  keyRefused : Nat
deriving DecidableEq, Repr

/-- The take path: the take records of caller channels 1 and 2. -/
structure TakePath where
  ch1 : TakeRecord
  ch2 : TakeRecord
  counters : TakeCounters
deriving DecidableEq, Repr

/-! ## Emergency alerts (chapter 8) -/

/-- An alert record (section 8.1). -/
structure AlertRecord where
  start : Bool
  id : Nat
  cls : Nat
  area : Nat
  code : Nat
  complement : Nat
  duration : Nat
  clip : Nat
  repeats : Nat
deriving DecidableEq, Repr

/-- A queued alert (section 8.4). -/
structure QueuedAlert where
  record : AlertRecord
  issuer : Nat
  hasMessage : Bool
deriving DecidableEq, Repr

/-- The ending of the active alert (section 8.5). -/
inductive Ending where
  | none | byEnd | local_ | cap
deriving DecidableEq, Repr

/-- The active alert record (section 8.5); NO_MESSAGE is set where `hasMessage` is not. -/
structure ActiveAlert where
  record : AlertRecord
  issuer : Nat
  hasMessage : Bool
  noTone : Bool
  count : Nat
  capBlock : Nat
  ending : Ending
deriving DecidableEq, Repr

/-- Phases of the alert player (section 8.5). -/
inductive PlayPhase where
  | idle | tone | message | done
deriving DecidableEq, Repr

/-- The alert player. `clip` is the clip it holds a reference to; `startNext` holds from a
supersession to the next boundary, after which it starts (R163). -/
structure AlertPlayer where
  phase : PlayPhase
  clip : Option Nat
  readPos : Nat
  repetition : Nat
  blocksLeft : Nat
  fader : Ramp
  startNext : Bool
  out : SampleSet
deriving DecidableEq, Repr

/-- Outcomes of the history (section 8.7). -/
inductive AlertOutcome where
  | rejected | testSeen | dropped | notAired | aired | endedEarly | cancelled | superseded
deriving DecidableEq, Repr

/-- Flags of a history entry (section 8.7). -/
structure HistFlags where
  noTone : Bool
  noMessage : Bool
  noAudio : Bool
  capped : Bool
  localEnd : Bool
  endRecord : Bool
deriving DecidableEq, Repr

/-- A history entry (section 8.7). -/
structure HistEntry where
  id : Nat
  cls : Nat
  area : Nat
  issuer : Nat
  outcome : AlertOutcome
  flags : HistFlags
  stamp : Count32
deriving DecidableEq, Repr

/-- The alert unit counters (R166). -/
structure AlertCounters where
  skipped : Nat
  lineFormat : Nat
  lineCrc : Nat
  good : Nat
  relays : Nat
  packetFormat : Nat
  packets : Nat
  rejected : Nat
  outOfArea : Nat
  duplicates : Nat
  testsSeen : Nat
  queued : Nat
  evictions : Nat
  drops : Nat
  activations : Nat
  notAired : Nat
  aired : Nat
  capped : Nat
  endedEarly : Nat
  cancelled : Nat
  endsWithoutEffect : Nat
  superseded : Nat
  lostToRestart : Nat
deriving DecidableEq, Repr

/-- The alert unit. The receiver is gathering exactly where `gathered` is not empty; `gap` is 0 while it hunts,
the model's choice (log 15). The history is
a ring of 16 places with a write position and an entry count (R164). -/
structure AlertUnit where
  gathered : List Byte
  gap : Nat
  queue : List QueuedAlert
  active : Option ActiveAlert
  player : AlertPlayer
  ring : List (Option HistEntry)
  writePos : Nat
  entryCount : Nat
  blockCount : Count32
  counters : AlertCounters
deriving DecidableEq, Repr

/-! ## Programme link (chapter 9) -/

/-- Sources of a selector leg (section 9.1). A PEER source names its listen entry, and the station
for the mode argument of R174. -/
inductive Source where
  | peer (entry station : Nat)
  | own
  | alert
  | reserve
deriving DecidableEq, Repr

/-- A leg of the link selector. -/
structure Leg where
  source : Source
  gain : Ramp
deriving DecidableEq, Repr

/-- Link frame modes (section 9.3). -/
inductive ModeKind where
  | programme | alert | reserve | silence
deriving DecidableEq, Repr

/-- A mode with its argument (R174). -/
structure Mode where
  kind : ModeKind
  arg : Nat
deriving DecidableEq, Repr

/-- A reserve player (R169, R187). -/
structure ReservePlayer where
  playing : Bool
  pos : Nat
deriving DecidableEq, Repr

/-- A link frame (section 9.3); `attachKind` is 0 none, 1 OPEN, 2 DATA; `crc` is its CRC-32, computed when it is
made (R173). -/
structure LinkFrame where
  linkId : Nat
  siteId : Nat
  seq : Seq16
  blockSeq : Count32
  mode : Mode
  modeStart : Bool
  modeEnd : Bool
  attach : Bool
  last : Bool
  attachKind : Nat
  attachOffset : Nat
  attachment : List Byte
  audio : List SampleSet
  crc : BitVec 32
deriving DecidableEq, Repr

/-- Transfer phases (section 9.4). -/
inductive TransferPhase where
  | none | sending | waiting
deriving DecidableEq, Repr

/-- Transfer results (section 9.4). -/
inductive TransferResult where
  | done | refused | fault | returnLost | noReport
deriving DecidableEq, Repr

/-- The last result of a transfer, with its site clip, serial and the offset reached. -/
structure LastTransfer where
  result : TransferResult
  siteClip : Nat
  serial : Byte
  offset : Nat
deriving DecidableEq, Repr

/-- The site-transfer context (section 9.4). -/
structure Transfer where
  phase : TransferPhase
  localClip : Nat
  siteClip : Nat
  serial : Byte
  total : Nat
  nextOffset : Nat
  waitAge : Nat
  openSent : Bool
  lastResult : Option LastTransfer
deriving DecidableEq, Repr

/-- A return frame's fields (section 9.5); `siteMode` is 1 to 3 and `transferState` 0 to 4; `crc` is its CRC-32. -/
structure ReturnFrame where
  linkId : Nat
  siteId : Nat
  seq : Seq16
  siteMode : Nat
  lastGood : Seq16
  crcErrors : Nat
  lost : Nat
  contacts : List Bool
  transferState : Nat
  transferSerial : Byte
  transferOffset : Nat
  peak : Nat
  crc : BitVec 32
deriving DecidableEq, Repr

/-- The link unit counters (R180). -/
structure LinkCounters where
  sourceChanges : Nat
  modeChanges : Nat
  framesMade : Nat
  framesSent : Nat
  framesDropped : Nat
  deadAirOnsets : Nat
  started : Nat
  done : Nat
  refused : Nat
  fault : Nat
  lostReturn : Nat
  noReport : Nat
  returnFrames : Nat
  returnErrors : Nat
  returnLosses : Nat
deriving DecidableEq, Repr

/-- The link unit. `handed` is the source last handed over by the air unit and `pending` one not yet
taken (R170); `frameMode` is the mode of the frame in progress and `prevMode` that of the previous
frame made (R174); `frameAudio` gathers the four blocks of the frame in progress (R173); `portTail`
is a frame still on the port when a soft restart emptied the buffer (R181). -/
structure Link where
  incoming : Leg
  outgoing : Option Leg
  reserve : ReservePlayer
  alertId : Nat
  handed : Source
  pending : Option Source
  phase : Nat
  seq : Seq16
  blockSeq : Count32
  frameMode : Mode
  prevMode : Option Mode
  frameAudio : List SampleSet
  buffer : List LinkFrame
  portTail : Option LinkFrame
  transfer : Transfer
  lastReturn : Option ReturnFrame
  returnAge : Nat
  returnLost : Bool
  deadAir : Bool
  out : SampleSet
  counters : LinkCounters
deriving DecidableEq, Repr

/-! ## Transmitter site (chapter 10) -/

/-- The frame receiver (R182): hunting, with whether the last byte was 5Ah, or gathering the bytes
from byte 2 on. -/
inductive Receiver where
  | hunting (saw5A : Bool)
  | gathering (bytes : List Byte)
deriving DecidableEq, Repr

/-- A link frame held in the link buffer. -/
structure BufferedFrame where
  seq : Seq16
  audio : List SampleSet
deriving DecidableEq, Repr

/-- Link buffer states (section 10.2). -/
inductive BufferState where
  | filling | running | refilling
deriving DecidableEq, Repr

/-- The link buffer (section 10.2); `given` is the audio given out for the present four blocks. -/
structure LinkBuffer where
  state : BufferState
  frames : List BufferedFrame
  lastSeq : Option Seq16
  lastOut : Option (List SampleSet)
  given : List SampleSet
deriving DecidableEq, Repr

/-- Site modes (section 10.3). -/
inductive SiteMode where
  | following | concealing | reserve
deriving DecidableEq, Repr

/-- Reasons of RESERVE (section 10.3). -/
inductive ReserveReason where
  | linkLoss | silence
deriving DecidableEq, Repr

/-- Transfer states of the site (section 10.4). -/
inductive SiteTransferState where
  | none | receiving | done | refused | fault
deriving DecidableEq, Repr

/-- The site's transfer context (section 10.4). -/
structure SiteTransfer where
  state : SiteTransferState
  clip : Nat
  serial : Byte
  received : Nat
  total : Nat
  crc : BitVec 32
deriving DecidableEq, Repr

/-- The site unit. `stall` counts the block boundaries since a byte while gathering (R182). -/
structure Site where
  receiver : Receiver
  stall : Nat
  buffer : LinkBuffer
  phase : Nat
  mode : SiteMode
  reason : ReserveReason
  noFrame : Nat
  reserveCount : Nat
  goodRun : Nat
  linkLeg : Ramp
  reserveLeg : Ramp
  reserve : ReservePlayer
  store : Store
  transfer : SiteTransfer
  crcErrors : Nat
  lost : Nat
  accepted : Nat
  returnSeq : Seq16
  lastGood : Seq16
  contacts : List Bool
  lastSent : Option ReturnFrame
  out : SampleSet
deriving DecidableEq, Repr

/-! ## Local lines (chapter 11) -/

/-- A key debouncer (R193). -/
structure KeyState where
  accepted : Bool
  stable : Nat
deriving DecidableEq, Repr

/-- What a refused key action was refused with (R194): a result code, or a timeout. -/
inductive KeyResult where
  | code (n : Nat)
  | timeout
deriving DecidableEq, Repr

/-- The last refusal (R194): the key number 1 to 8, its function and the result. -/
structure RefusedKey where
  key : Nat
  fn : KeyFn
  result : KeyResult
deriving DecidableEq, Repr

/-- The last alert outcome (R195). -/
structure ShownAlert where
  id : Nat
  cls : Nat
  outcome : AlertOutcome
deriving DecidableEq, Repr

/-- The local lines. `pressed` lists the keys pressed at the boundary in progress whose function has
not acted yet; `voiceHeld` marks the VOICE_OPEN keys reported held to the mixer. -/
structure Lines where
  keys : List KeyState
  voiceHeld : List Bool
  pressed : List Nat
  outputs : List Bool
  staging : List Bool
  lastRefusal : Option RefusedKey
  lastAlert : Option ShownAlert
  refusals : Nat
deriving DecidableEq, Repr

/-! ## The studio bus (chapter 1) -/

/-- An announced holder (section 1.5). -/
inductive Announced where
  | station (n : Nat)
  | alert (id : Nat)
  | reserve
  | silence
deriving DecidableEq, Repr

/-- The fault summary of a roll call (section 1.5). -/
structure FaultSummary where
  silent : Bool
  runaway : Bool
  clipFault : Bool
deriving DecidableEq, Repr

/-- The LINK group of a roll call. -/
structure RollLink where
  holder : Announced
  level : Nat
  lost : Bool
deriving DecidableEq, Repr

/-- The PHONE group of a roll call. -/
structure RollPhone where
  lines : List LineState
  queue : List Nat
deriving DecidableEq, Repr

/-- The STUDIO group of a roll call: phone station and line of each caller channel, or none. -/
structure RollStudio where
  caller1 : Option (Nat × Nat)
  caller2 : Option (Nat × Nat)
deriving DecidableEq, Repr

/-- The content of a ROLLCALL (section 1.5). -/
structure Rollcall where
  station : Nat
  roles : Roles
  level : Nat
  serial : Byte
  faults : FaultSummary
  link : Option RollLink
  phone : Option RollPhone
  studio : Option RollStudio
deriving DecidableEq, Repr

/-- A presence table entry (R16). -/
structure Presence where
  present : Bool
  age : Nat
  roles : Roles
  level : Nat
  serial : Byte
  faults : FaultSummary
  link : Option RollLink
  phone : Option RollPhone
  studio : Option RollStudio
deriving DecidableEq, Repr

/-- The block to which the outcome of a request is handed (section 1.4), with the caller channel and
the key that asked. -/
inductive Originator where
  | take (ch key : Nat)
  | drop (ch key : Nat)
  | answerKey (key : Nat)
deriving DecidableEq, Repr

/-- A pending entry of the requester table (section 1.4). -/
structure Requester where
  tag : Byte
  code : Nat
  target : Nat
  age : Nat
  origin : Originator
deriving DecidableEq, Repr

/-- The bus counters, in the order of the table of R21. -/
structure BusCounters where
  sent : Nat
  accepted : Nat
  crcErrors : Nat
  formatErrors : Nat
  unknownKinds : Nat
  ownSource : Nat
  collisions : Nat
  class0Evictions : Nat
  class1Drops : Nat
  class2Drops : Nat
  class3Drops : Nat
  unknownRequests : Nat
  unmatchedAnswers : Nat
  keyActionsDropped : Nat
  restartRefusals : Nat
deriving DecidableEq, Repr

/-! ## Status records (the contents that each chapter's "What the outside sees" lists) -/

/-- The STATION record (R22, R197). -/
structure StationRecord where
  station : StationState
  number : Nat
  roles : Roles
  queueCounts : List Nat
  consecutive : Nat
  linkStation : Option Nat
  presentBits : List Bool
  presence : List (Nat × Presence)
  pendingRequests : Nat
  counters : BusCounters
  keys : List KeyState
  tallies : List (TallyFn × Bool)
  staging : List Bool
  lastRefusal : Option RefusedKey
  lastAlert : Option ShownAlert
  keyRefusals : Nat
deriving DecidableEq, Repr

/-- The SLOT record (R40). -/
structure SlotRecord where
  entry : ListenEntry
  state : SlotState
  count : Nat
  lastSeq : Option Seq16
  noArrival : Nat
  overflowRun : Nat
  totals : SlotTotals
  startDepth : Nat
  highMark : Nat
  outgoing : List OutIndex
deriving DecidableEq, Repr

/-- The CLIP record (R80). -/
structure ClipRecord where
  entry : ClipEntry
  load : Option LoadContext
  pages : Nat
  freeTotal : Nat
  extents : Nat
  largest : Option Extent
  loadsInUse : Nat
  loading : List Nat
  counters : StoreCounters
deriving DecidableEq, Repr

/-- The CUELIST record (R103). -/
structure CueListRecord where
  count : Nat
  entries : List CueEntry
deriving DecidableEq, Repr

/-- A ramp as a record shows it: present value and target. -/
structure RampView where
  value : Nat
  target : Nat
deriving DecidableEq, Repr

/-- A meter point as a record shows it (R62). -/
structure MeterView where
  silent : Bool
  lastPeak : Nat
  lastClips : Nat
  overload : Bool
  silentRun : Nat
  soundRun : Nat
  clipTotal : Nat
  overTotal : Nat
deriving DecidableEq, Repr

/-- The mixer section of the PLAYER record (R62). -/
structure MixerSection where
  live : Nat
  swap : Option (Nat × Nat)
  bank0 : Bank
  bank1 : Bank
  gains : List RampView
  playerFaders : List RampView
  callerFaders : List RampView
  callers : List (CallerState × CallerSource)
  duckOn : Bool
  duck : RampView
  mmClips : List Nat
  voiceFlags : List Bool
  meters : List MeterView
  silenceThreshold : Nat
  silenceTime : Nat
  overloadThreshold : Nat
deriving DecidableEq, Repr

/-- The PLAYER record (R104). -/
structure PlayerRecord where
  player : Player
  countdown : Option Nat
  heldFlag : Bool
  preferB : Bool
  counters : CueCounters
  mixer : MixerSection
deriving DecidableEq, Repr

/-- The hold feed as a record shows it (R148). -/
inductive HoldFeed where
  | none
  | direct
  | entry (n : Nat)
deriving DecidableEq, Repr

/-- The LINES record (R148). -/
structure LinesRecord where
  blockCount : Count32
  autoAnswer : Bool
  lines : List LineRecord
  ring : List Bool
  loop : List Bool
  queue : List Nat
  holdFeed : HoldFeed
  takes : List TakeRecord
  phoneCounters : PhoneCounters
  takeCounters : TakeCounters
deriving DecidableEq, Repr

/-- A claims table entry as the AIRVIEW record lists it (R127); station 0 stands for ALERT. -/
structure ClaimRow where
  station : Nat
  kind : ClaimKind
  entry : ClaimEntry
deriving DecidableEq, Repr

/-- The AIRVIEW record (R127); the stack is listed bottom first. -/
structure AirViewRecord where
  level : Nat
  serial : Byte
  ownView : Bool
  linkStation : Option Nat
  standing : Standing
  waiting : Bool
  alertOnAir : Bool
  announced : Option (Announced × Nat)
  holder : Holder
  stack : List StackRecord
  arrivals : Count32
  claims : List ClaimRow
  outgoing : List OutMember
  counters : AirCounters
deriving DecidableEq, Repr

/-- The ALERTHIST record (R165); history entries are listed newest first. -/
structure AlertHistRecord where
  blockCount : Count32
  active : Option ActiveAlert
  phase : PlayPhase
  repetition : Nat
  blocksLeft : Nat
  fader : Nat
  queue : List QueuedAlert
  entryCount : Nat
  entries : List HistEntry
  areaCodes : List Nat
  areaHash : List Byte
  testAlerts : Bool
  gathering : Bool
  gathered : List Byte
  counters : AlertCounters
deriving DecidableEq, Repr

/-- A selector leg as the LINK record shows it (R180). -/
structure LegView where
  source : Source
  value : Nat
  target : Nat
  blocksToRun : Nat
deriving DecidableEq, Repr

/-- The LINK record (R180). -/
structure LinkRecord where
  linkId : Nat
  siteId : Nat
  phase : Nat
  seq : Seq16
  blockSeq : Count32
  incoming : LegView
  outgoing : Option LegView
  selectorMode : Mode
  frameMode : Mode
  reservePlaying : Bool
  reserveClip : Nat
  reservePos : Nat
  framesHeld : Nat
  transfer : Transfer
  returnLost : Bool
  returnAge : Nat
  lastReturn : Option ReturnFrame
  deadAir : Bool
  linkOutput : MeterView
  holderInput : MeterView
  counters : LinkCounters
deriving DecidableEq, Repr

/-! ## Packets -/

/-- Result codes of an ANSWER (section 1.3). -/
inductive Result where
  | ok | busy | full | notFound | inUse | noSpace | badField | wrongRole | takenElsewhere
  | notReady | unknownKind
deriving DecidableEq, Repr

/-- Result data of an ANSWER, as its owner's rule lists it. -/
inductive ResultData where
  | none
  | cueAdded (id count : Nat)
  | cueCleared (n : Nat)
  | players (ps : List (Bool × Nat))
  | swapped (bank len : Nat)
  | opened (clip serial : Nat)
  | complete (clip serial : Nat)
  | loadFailed (clip serial : Nat) (reason : LoadFailure)
  | noSpace (needed largest : Nat)
  | claimHeld (level : Nat) (serial : Byte)
  | lineAnswered (line : Nat)
  | taken (line : Nat) (screened : Bool) (label : List Byte)
  | alertEnded (id cls : Nat)
  | transferStarted (serial : Byte) (total : Nat)
  | station (index : Nat) (r : StationRecord)
  | slot (index : Nat) (r : SlotRecord)
  | clip (index : Nat) (r : ClipRecord)
  | cueList (index : Nat) (r : CueListRecord)
  | player (index : Nat) (r : PlayerRecord)
  | lines (index : Nat) (r : LinesRecord)
  | airView (index : Nat) (r : AirViewRecord)
  | alertHist (index : Nat) (r : AlertHistRecord)
  | link (index : Nat) (r : LinkRecord)
deriving DecidableEq, Repr

/-- What a packet of the station carries (section 1.3). -/
inductive PacketBody where
  | block (index channels : Nat) (seq : Seq16) (endFlag : Bool) (line : Nat) (audio : List SampleSet)
  | claim (level : Nat) (serial : Byte)
  | rollcall (r : Rollcall)
  | request (code : Nat) (tag : Byte) (args : List Byte)
  | answer (code : Nat) (tag : Byte) (result : Result) (data : ResultData)
  | alert (r : AlertRecord)
deriving DecidableEq, Repr

/-- A packet held in a transmit queue: destination and content. `restartOk` marks the OK answer whose
sending brings the pending soft restart (R198); `fresh` is the packet's own number, to which its free
bytes belong (log 3). -/
structure Packet where
  dst : Nat
  body : PacketBody
  restartOk : Bool
  fresh : Nat
deriving DecidableEq, Repr

/-- What the station does with the line: no idle seen yet or carrier present, idle, or sending the
head packet of a class with the bytes it puts on the line (R1, R2, R5). -/
inductive LineUse where
  | busy
  | idle
  | sending (cls : Nat) (wire : List Byte)
deriving DecidableEq, Repr

/-- The bus unit. `drainAtEnd` holds from a soft restart taken while a packet of the station is on the
line to the end of that sending, at which the queues are emptied (R23). -/
structure Bus where
  line : LineUse
  idleCount : Nat
  q0 : List Packet
  q1 : List Packet
  q2 : List Packet
  q3 : List Packet
  consecutive : Nat
  presence : List Presence
  linkStation : Option Nat
  rollCountdown : Option Nat
  runawaySeen : Bool
  clipFaultSeen : Bool
  requesters : List Requester
  tagCounter : Byte
  drainAtEnd : Bool
  counters : BusCounters
deriving DecidableEq, Repr

/-! ## The machine -/

/-- The audio of the block in progress, one entry for each sample set instant since the last boundary:
the programme, the mix-minus feeds, the line inputs, the selector output (R25, R173). -/
structure BlockAudio where
  index : Nat
  programme : List SampleSet
  mixMinus1 : List Sample
  mixMinus2 : List Sample
  lines : List (List Sample)
  selector : List SampleSet
deriving DecidableEq, Repr

/-- The stages of a block boundary, in no order here; `Machine/Boundary.lean` gives the order (log 1).
A stage named after a row of the opcode table is that row's event. -/
inductive Stage where
  | tallyApply | keySample | voiceOpenRelease | voiceOpen | outgoingAges | outgoingExpiry | requesterAges
  | requestTimeout | presenceAges | presenceExpiry | makeBlocks | slotAges | slotTimeout | slotRead
  | loadAges | loadTimeout | meterAdvance | meterWindowClose | phoneCounts | ringStart | giveUp
  | hangUp | takeWatch | takeWatchExpiry | callerWatch | callerWatchExpiry | cueReports | cueCounts
  | itemNaturalEnd | streamItemEnds | faderRampDone | cueArm | cueResume | segueDue
  | countdownLower | segueCountdownDone | playStarts | faderTargets | fadeOutStart
  | callerReleaseDone | swapCount | sceneSwapEnd | mixerTargets | alertCounts | alertLineGapTimeout
  | alertClipDone | alertFadeDone | alertCapDue | alertStartNext | alertActivation | legDrop
  | sourceChange | reserveStop | reservePlayerStart | linkPhase | linkFrameMade | returnLost
  | transferNoReport | claimKey | playNext | stopAll | takeNextCaller | dropCaller | keySceneSwap
  | answerNextLine | rollCount | rollcallDue | windowCount | listenWindowEnd | restartCount
  | restartDeadline | closeBoundary
  | siteStall | siteFrameStall | siteContactChange | siteLegs | siteReserveStop
  | siteReservePlayerStart | sitePhase | siteFrameBoundary | siteConceal | siteReserveEntry
deriving DecidableEq, Repr

/-- The part: everything but the sample memory's words and the command queue. -/
structure Node where
  station : StationState
  /-- The configuration record read was bad, and its role set is SITE (R192, log 22). -/
  badSite : Bool
  cfg : Settings
  pins : Pins
  windowCount : Nat
  /-- Block boundaries since the acceptance of a pending soft restart (R198). -/
  restart : Option Nat
  /-- The model's own counter of free values (log 3). -/
  fresh : Nat
  bus : Bus
  streams : Streams
  mixer : Mixer
  meters : Meters
  store : Store
  cue : Cue
  air : Air
  phone : Phone
  take : TakePath
  alert : AlertUnit
  link : Link
  site : Site
  lines : Lines
  audio : BlockAudio
deriving DecidableEq, Repr

/-- The sample memory: word numbers strictly rising, no word 0 (log 6). -/
abbrev Memory := List (Nat × MemWord)

/-- The machine: the queue of waiting commands, the stages still to come of a block boundary in
progress (log 1), the sample memory, and the part. -/
structure State where
  pending : List Instr
  agenda : List Stage
  mem : Memory
  node : Node
deriving DecidableEq, Repr

/-- Reasons a step can stop with a fault. The spec names none: no command stops the part, and the
type is empty. -/
inductive Fault where
deriving DecidableEq, Repr

/-- Reasons for having no meaning. -/
inductive Refusal where
  /-- Raised by `exec` alone, for a command that has no meaning yet; safe (nothing is claimed of it). -/
  | notModelled (mnemonic : String)
deriving DecidableEq, Repr

/-! ## Values after a pin reset -/

/-- A ramp standing at a value. -/
def Ramp.settled (v : Nat) : Ramp :=
  { start := v, target := v, len := 0, pos := 0, running := false, pending := none }

def Roles.empty : Roles :=
  { studio := false, phone := false, link := false, alert := false, site := false }

def Bank.reset : Bank := { gains := List.replicate 8 0, duckDepth := 0 }

/-- The configuration before a record has been found good (log 7): no number, no role, the owners'
default values. -/
def Settings.reset : Settings :=
  { number := 0, roles := Roles.empty, memPages := 0, restartCode := 0, alertCode := 0,
    areaCodes := List.replicate 4 0, areaHash := List.replicate 32 0, testAlerts := false,
    toneClips := List.replicate 4 255, reserveClip := 0, phoneStation := 0, autoAnswer := false,
    startDepth := 3, highMark := 10, silenceThreshold := 0, silenceTime := 2000,
    overloadThreshold := 8388608, reserveDelay := 1250, linkId := 0, siteId := 0,
    voiceFlags := List.replicate 4 false, bank0 := Bank.reset, bank1 := Bank.reset,
    keyFns := List.replicate 8 .none, tallyFns := List.replicate 8 .none }

def Pins.reset : Pins :=
  { ring := List.replicate 4 false, loop := List.replicate 4 false, keys := List.replicate 8 false,
    contacts := List.replicate 4 false }

def MeterPoint.reset : MeterPoint :=
  { running := false, waiting := false, pos := 0, peak := 0, clips := 0, lastPeak := 0, lastClips := 0,
    silent := false, silentRun := 0, soundRun := 0, overload := false, clipTotal := 0, overTotal := 0 }

def Meters.reset : Meters :=
  { studio := .reset, slots := List.replicate 8 .reset, holderInput := .reset, linkOutput := .reset,
    siteOutput := .reset, incoming := .reset }

def OutIndex.reset : OutIndex :=
  { state := .inactive, seq := 0, line := 1, start := none, next := none, again := false }

/-- A listen entry after a reset: not valid (R41). R41 gives its other fields no value: 0 and FOLLOW (log
14). -/
def ListenEntry.reset : ListenEntry :=
  { valid := false, station := 0, index := 0, purpose := .follow, requester := .airUnit }

def SlotTotals.zero : SlotTotals :=
  { lost := 0, stale := 0, drops := 0, resyncs := 0, runaways := 0, slips := 0, underruns := 0 }

/-- Silence: 48 sample sets of value 0 (section 2.3). -/
def GivenOut.silence : GivenOut := { channels := 1, audio := [] }

def Slot.reset : Slot :=
  { state := .free, blocks := [], readPos := 0, lastSeq := none, lastSupplied := none, noArrival := 0,
    overflowRun := 0, totals := .zero, out := .silence }

/-- R41. -/
def Streams.reset : Streams :=
  { outgoing := List.replicate 8 .reset, listen := List.replicate 8 .reset,
    slots := List.replicate 8 .reset }

def Caller.reset : Caller :=
  { state := .inactive, source := .none, fader := .settled 0, pending := none }

/-- R63, before the scene defaults are known. -/
def Mixer.reset : Mixer :=
  { bank0 := .reset, bank1 := .reset, live := 0, swap := none, gains := List.replicate 8 (.settled 0),
    faderA := .settled 0, faderB := .settled 0, caller1 := .reset, caller2 := .reset, duckOn := false,
    duck := .settled Config.unity, mmClips1 := 0, mmClips2 := 0, programme := (0, 0), mixMinus1 := 0,
    mixMinus2 := 0 }

def ClipEntry.reset : ClipEntry :=
  { state := .empty, channels := 0, length := 0, firstPage := 0, pageCount := 0, serial := 0,
    expectedCrc := 0, received := 0, useCount := 0, lastFailure := .none }

def StoreCounters.zero : StoreCounters :=
  { completed := 0, failed := 0, abandoned := 0, noSpace := 0, malformed := 0, stray := 0,
    duplicate := 0 }

/-- The free-extent list of an empty store of the given size (R82, R192). -/
def Store.emptyFree (pages : Nat) : List Extent :=
  if pages = 0 then [] else [{ first := 0, count := pages }]

/-- R82 and R192 for a memory of the given number of pages. -/
def Store.ofPages (pages : Nat) : Store :=
  { pages := pages, dir := List.replicate 256 .reset, free := Store.emptyFree pages, loads := [],
    counters := .zero }

/-- A player IDLE after a pin reset (R106). R106 gives no value for what belongs to an item: the item's
blocks, segue block, reading position, count and flags stand at 0 and false here, as at a player that holds
none, and at an ARMED one until it starts (log 17). -/
def Player.reset : Player :=
  { state := .idle, item := none, blocks := 0, segueBlock := 0, readPos := 0, entry := none, count := 0,
    segueTaken := false, fadeOutBegun := false, resumeRamp := false, saved := none, held := false,
    pending := false, wake := false, slotEnded := false, order := none, lastEnd := none }

def CueCounters.zero : CueCounters :=
  { started := 0, completed := 0, stopped := 0, streamEnds := 0, noSlot := 0, seguesTaken := 0,
    seguesMissed := 0 }

/-- R106. -/
def Cue.reset : Cue :=
  { list := [], a := .reset, b := .reset, countdown := none, heldFlag := false, preferB := false,
    armStart := false, standing := none, streamStarts := 0, counters := .zero }

def ClaimEntry.empty : ClaimEntry := { claim := none, lastSerial := none, listen := none }

def Holder.ofKind (k : HolderKind) : Holder :=
  { kind := k, station := 0, level := 0, arrival := 0, alertId := 0, entry := none }

def AirCounters.zero : AirCounters :=
  { preemptions := 0, resumptions := 0, takesByWaiting := 0, reserveFallbacks := 0,
    silenceMarkings := 0, recoveries := 0, unreachable := 0, stackDiscards := 0, absentSource := 0,
    stale := 0 }

/-- R129. -/
def Air.reset : Air :=
  { ownLevel := 0, ownSerial := 0, claims := List.replicate 30 .empty, alertClaim := .empty,
    arrivals := 0, holder := .ofKind .none, stack := [], outgoing := [], ownView := true,
    standing := .offAir, waiting := false, alertOnAir := false, counters := .zero }

def LineRecord.reset : LineRecord :=
  { state := .idle, seized := false, rangAt := none, ringAbsent := 0, answeredAt := none,
    loopAbsent := 0, screened := false, label := [], studio := none, mmIndex := none, mmEntry := none,
    watch := none, holdLater := false, lastClear := .none }

def PhoneCounters.zero : PhoneCounters :=
  { rings := 0, giveUps := 0, answers := 0, autoAnswers := 0, hangUps := 0, drops := 0, takes := 0,
    takesRefused := 0, holds := 0, takeWatchExpiries := 0, mixMinusLosses := 0, studioLosses := 0,
    holdFeedRefusals := 0 }

/-- R149. -/
def Phone.reset : Phone :=
  { lines := List.replicate 4 .reset, queue := [], holdEntry := none, blockCount := 0,
    outgoing := List.replicate 4 0, counters := .zero }

def TakeRecord.reset : TakeRecord :=
  { state := .free, phone := none, line := none, entry := none, tag := none, drops := [], watch := none }

def TakeCounters.zero : TakeCounters :=
  { sent := 0, refusedByPhone := 0, timeouts := 0, abandoned := 0, callerWatchExpiries := 0,
    releases := 0, keyRefused := 0 }

/-- R149. -/
def TakePath.reset : TakePath := { ch1 := .reset, ch2 := .reset, counters := .zero }

def AlertPlayer.reset : AlertPlayer :=
  { phase := .idle, clip := none, readPos := 0, repetition := 0, blocksLeft := 0, fader := .settled 0,
    startNext := false, out := (0, 0) }

def AlertCounters.zero : AlertCounters :=
  { skipped := 0, lineFormat := 0, lineCrc := 0, good := 0, relays := 0, packetFormat := 0, packets := 0,
    rejected := 0, outOfArea := 0, duplicates := 0, testsSeen := 0, queued := 0, evictions := 0,
    drops := 0, activations := 0, notAired := 0, aired := 0, capped := 0, endedEarly := 0,
    cancelled := 0, endsWithoutEffect := 0, superseded := 0, lostToRestart := 0 }

/-- R167; the gap count, to which R167 gives no value, is 0, the model's choice (log 15). -/
def AlertUnit.reset : AlertUnit :=
  { gathered := [], gap := 0, queue := [], active := none, player := .reset,
    ring := List.replicate 16 none, writePos := 0, entryCount := 0, blockCount := 0,
    counters := .zero }

/-- The site-transfer context (R181); the local and site clips, the total, the next offset and the wait age,
to which R181 gives no value, are 0, the model's choice (log 21). -/
def Transfer.reset : Transfer :=
  { phase := .none, localClip := 0, siteClip := 0, serial := 0, total := 0, nextOffset := 0,
    waitAge := 0, openSent := false, lastResult := none }

def LinkCounters.zero : LinkCounters :=
  { sourceChanges := 0, modeChanges := 0, framesMade := 0, framesSent := 0, framesDropped := 0,
    deadAirOnsets := 0, started := 0, done := 0, refused := 0, fault := 0, lostReturn := 0,
    noReport := 0, returnFrames := 0, returnErrors := 0, returnLosses := 0 }

/-- R181. -/
def Link.reset : Link :=
  { incoming := { source := .reserve, gain := .settled Config.unity }, outgoing := none,
    reserve := { playing := false, pos := 0 }, alertId := 0, handed := .reserve, pending := none,
    phase := 0, seq := 0, blockSeq := 0, frameMode := { kind := .silence, arg := 0 }, prevMode := none,
    frameAudio := [], buffer := [], portTail := none, transfer := .reset, lastReturn := none,
    returnAge := 125, returnLost := true, deadAir := false, out := (0, 0), counters := .zero }

/-- The link buffer (R192). R184 says what it gives out at site frame boundaries alone: until the first of them,
the LINK leg plays, and the incoming point sees, silence, the model's choice (log 22). -/
def LinkBuffer.reset : LinkBuffer :=
  { state := .filling, frames := [], lastSeq := none, lastOut := none, given := [] }

def SiteTransfer.reset : SiteTransfer :=
  { state := .none, clip := 0, serial := 0, received := 0, total := 0, crc := 0 }

/-- R192. -/
def Site.reset : Site :=
  { receiver := .hunting false, stall := 0, buffer := .reset, phase := 0, mode := .reserve,
    reason := .linkLoss, noFrame := 50, reserveCount := 0, goodRun := 0, linkLeg := .settled 0,
    reserveLeg := .settled Config.unity, reserve := { playing := false, pos := 0 },
    store := .ofPages 0, transfer := .reset, crcErrors := 0, lost := 0, accepted := 0, returnSeq := 0,
    lastGood := 0, contacts := List.replicate 4 false, lastSent := none, out := (0, 0) }

def KeyState.reset : KeyState := { accepted := false, stable := 0 }

/-- R201. -/
def Lines.reset : Lines :=
  { keys := List.replicate 8 .reset, voiceHeld := List.replicate 8 false, pressed := [],
    outputs := List.replicate 8 false, staging := List.replicate 8 false, lastRefusal := none,
    lastAlert := none, refusals := 0 }

def FaultSummary.clear : FaultSummary := { silent := false, runaway := false, clipFault := false }

/-- An absent presence entry: age 400, fields cleared (R17, R23). -/
def Presence.absent : Presence :=
  { present := false, age := 400, roles := Roles.empty, level := 0, serial := 0, faults := .clear,
    link := none, phone := none, studio := none }

def BusCounters.zero : BusCounters :=
  { sent := 0, accepted := 0, crcErrors := 0, formatErrors := 0, unknownKinds := 0, ownSource := 0,
    collisions := 0, class0Evictions := 0, class1Drops := 0, class2Drops := 0, class3Drops := 0,
    unknownRequests := 0, unmatchedAnswers := 0, keyActionsDropped := 0, restartRefusals := 0 }

/-- R23. -/
def Bus.reset : Bus :=
  { line := .busy, idleCount := 0, q0 := [], q1 := [], q2 := [], q3 := [], consecutive := 0,
    presence := List.replicate 30 .absent, linkStation := none, rollCountdown := none,
    runawaySeen := false, clipFaultSeen := false, requesters := [], tagCounter := 0,
    drainAtEnd := false, counters := .zero }

def BlockAudio.empty : BlockAudio :=
  { index := 0, programme := [], mixMinus1 := [], mixMinus2 := [], lines := List.replicate 4 [],
    selector := [] }

/-- The part right after a pin reset: every block at its pin-reset values and the station state CONFIG
(R200). -/
def Node.reset : Node :=
  { station := .config, badSite := false, cfg := .reset, pins := .reset, windowCount := 0, restart := none,
    fresh := 0, bus := .reset, streams := .reset, mixer := .reset, meters := .reset, store := .ofPages 0,
    cue := .reset, air := .reset, phone := .reset, take := .reset, alert := .reset, link := .reset,
    site := .reset, lines := .reset, audio := .empty }

/-- The machine right after a pin reset (R200): nothing waiting, no boundary in progress, no word of
the sample memory written. -/
def State.reset : State :=
  { pending := [], agenda := [], mem := [], node := .reset }

end Sys2Proof.Machine
end

