-- ==== Sys2Proof/Machine/Bits.lean ====
section
/-! DEFINITION. Byte order, the CRC-32, sample conversion and rounding: the one place where each is
decided (00_scope.md, "Conventions"; R44, R55). -/

namespace Sys2Proof.Machine

/-- The number that bytes carry, most significant byte first ("Multi-byte fields"). -/
def beNat (bs : List Byte) : Nat := bs.foldl (fun a b => a * 256 + b.toNat) 0

/-- A number in `w` bytes, most significant byte first. -/
def beBytes (n : Nat) : Nat → List Byte
  | 0 => []
  | w + 1 => beBytes (n / 256) w ++ [BitVec.ofNat 8 n]

/-- Byte `i` of a record as a number; 0 beyond its end. -/
def byteAt (bs : List Byte) (i : Nat) : Nat := (bs.getD i 0).toNat

/-- The `w` bytes of a record from byte `i` on, as a number. -/
def fieldAt (bs : List Byte) (i w : Nat) : Nat := beNat ((bs.drop i).take w)

/-- Bit `k` of a byte value, from the least significant. -/
def bitAt (n k : Nat) : Bool := n.testBit k

/-- A byte from its bits, least significant first. -/
def byteOfBits : List Bool → Nat
  | [] => 0
  | b :: bs => (if b then 1 else 0) + 2 * byteOfBits bs

/-- One bit of the CRC-32: polynomial 04C11DB7h with the data taken least significant bit first, so
that the register stands bit-reversed and the polynomial reads EDB88320h (log 8). -/
def crcBit (r : BitVec 32) : BitVec 32 :=
  if r.getLsbD 0 then (r >>> 1) ^^^ 0xEDB88320#32 else r >>> 1

/-- One byte of the CRC-32. -/
def crcByte (r : BitVec 32) (b : Byte) : BitVec 32 :=
  crcBit (crcBit (crcBit (crcBit (crcBit (crcBit (crcBit (crcBit (r ^^^ b.setWidth 32))))))))

/-- The running register of R71, advanced over bytes. -/
def crcUpdate (r : BitVec 32) (bs : List Byte) : BitVec 32 := bs.foldl crcByte r

/-- The initial value FFFFFFFFh ("CRC-32"). -/
def crcInit : BitVec 32 := 0xFFFFFFFF#32

/-- The CRC-32 of bytes: the register complemented. -/
def crc32 (bs : List Byte) : BitVec 32 := ~~~(crcUpdate crcInit bs)

/-- The CRC-32 as a packet or record carries it, most significant byte first. -/
def crcBytes (bs : List Byte) : List Byte := beBytes (crc32 bs).toNat 4

/-- A sample from its three bytes. -/
def sampleOfBytes (a b c : Byte) : Sample := a ++ b ++ c

/-- The three bytes of a sample, most significant first ("Audio"). -/
def sampleBytes (x : Sample) : List Byte :=
  [x.extractLsb' 16 8, x.extractLsb' 8 8, x.extractLsb' 0 8]

/-- Samples of 3 bytes each, in order; a tail of fewer than three bytes is no sample. -/
def samplesOf : List Byte → List Sample
  | a :: b :: c :: rest => sampleOfBytes a b c :: samplesOf rest
  | _ => []

/-- Sample sets of one channel (the sample on both sides) or two (left, then right). -/
def setsOf (channels : Nat) (xs : List Sample) : List SampleSet :=
  if channels = 1 then xs.map (fun x => (x, x)) else pairs xs
where
  /-- Left and right in turn. -/
  pairs : List Sample → List SampleSet
    | l :: r :: rest => (l, r) :: pairs rest
    | _ => []

/-- The bytes of sample sets, left only where there is one channel. -/
def setsBytes (channels : Nat) (xs : List SampleSet) : List Byte :=
  xs.flatMap (fun p => if channels = 1 then sampleBytes p.1 else sampleBytes p.1 ++ sampleBytes p.2)

/-- The largest sample, +8,388,607. -/
abbrev sampleMax : Int := 8388607

/-- The smallest sample, −8,388,608. -/
abbrev sampleMin : Int := -8388608

/-- Saturation (R55). -/
def saturate (x : Int) : Sample :=
  BitVec.ofInt 24 (if sampleMax < x then sampleMax else if x < sampleMin then sampleMin else x)

/-- Whether saturation changes a value (R55). -/
def clamps (x : Int) : Bool := decide (sampleMax < x) || decide (x < sampleMin)

/-- The rounding of R55: floor of (acc + 8192) / 16384, toward −∞. -/
def roundMix (acc : Int) : Int := (acc + 8192).fdiv 16384

/-- The rounding of R56: floor of (monosum + 16384) / 32768. -/
def roundMinus (sum : Int) : Int := (sum + 16384).fdiv 32768

/-- The mono value of a stereo sample set (R38): floor of (left + right) / 2. -/
def monoOf (p : SampleSet) : Sample := BitVec.ofInt 24 ((p.1.toInt + p.2.toInt).fdiv 2)

/-- The magnitude of a sample (R58): that of −8,388,608 is 8,388,608. -/
def magnitude (x : Sample) : Nat := x.toInt.natAbs

/-- A sample at +8,388,607 or −8,388,608 (section 3.9). -/
def atFullScale (x : Sample) : Bool := decide (x.toInt = sampleMax) || decide (x.toInt = sampleMin)

/-- Scaling of one gain by another (R44): the product plus 8192, divided by 16384, floored, clamped. -/
def scaleGain (a b : Nat) : Nat := min ((a * b + 8192) / 16384) 65535

/-- ceil(a / b) for a positive b. -/
def ceilDiv (a b : Nat) : Nat := (a + b - 1) / b

/-- An entry of a list replaced by its image; a number beyond the list's end changes nothing. -/
def modifyAt {α : Type} (l : List α) (i : Nat) (f : α → α) : List α := l.modify i f

/-- A block's 48 sample sets from what was gathered (log 2): padded with 0, cut at 48. -/
def block48 {α : Type} (z : α) (xs : List α) : List α :=
  (xs ++ List.replicate (Config.blockSets - xs.length) z).take Config.blockSets

/-- The first n entries of a list, with z where it is shorter. -/
def fitList {α : Type} (n : Nat) (z : α) (xs : List α) : List α := (xs ++ List.replicate n z).take n

/-- Whether a 32-bit count a is the earlier of two (R110). -/
def earlier (a b : Count32) : Bool :=
  let d := (b - a).toNat
  decide (1 ≤ d) && decide (d ≤ 2147483647)

end Sys2Proof.Machine
end

