-- ==== Sys2Proof/Machine/Memory.lean ====
section
/-! DEFINITION. The sample memory (R64): words of 32 bits under their word numbers, in one canonical
form: numbers strictly rising, and no word listed that equals what an unlisted word reads as (log 6). -/

namespace Sys2Proof.Machine

/-- What a word that nothing has written reads as (DESIGN CHOICE, log 6). -/
abbrev Memory.unwritten : MemWord := 0

/-- The word at a word number. -/
def Memory.read : Memory → Nat → MemWord
  | [], _ => Memory.unwritten
  | (a, w) :: rest, n => if a = n then w else Memory.read rest n

/-- A word written at a word number, keeping the canonical form. -/
def Memory.write : Memory → Nat → MemWord → Memory
  | [], n, w => if w = Memory.unwritten then [] else [(n, w)]
  | (a, v) :: rest, n, w =>
    if n < a then (if w = Memory.unwritten then (a, v) :: rest else (n, w) :: (a, v) :: rest)
    else if n = a then (if w = Memory.unwritten then rest else (n, w) :: rest)
    else (a, v) :: Memory.write rest n w

/-- Every listed word number is above `lo`, they rise strictly, and no listed word is 0. -/
def Memory.wfAbove : Nat → Memory → Bool
  | _, [] => true
  | lo, (a, w) :: rest => decide (lo < a) && decide (w ≠ Memory.unwritten) && Memory.wfAbove a rest

/-- The canonical form. -/
def Memory.wf : Memory → Bool
  | [] => true
  | (a, w) :: rest => decide (w ≠ Memory.unwritten) && Memory.wfAbove a rest

/-- Words written one after another from a word number on. -/
def Memory.writeAll : Memory → Nat → List MemWord → Memory
  | m, _, [] => m
  | m, n, w :: ws => Memory.writeAll (m.write n w) (n + 1) ws

/-- A sample as a word: sign-extended from 24 to 32 bits (R64). -/
def wordOfSample (x : Sample) : MemWord := x.signExtend 32

/-- The sample that a word carries. -/
def sampleOfWord (w : MemWord) : Sample := w.setWidth 24

/-- The word of sample set k, channel ch, of a clip of c channels (R64). -/
def clipWord (firstPage channels k ch : Nat) : Nat := firstPage * Config.pageWords + k * channels + ch

/-- Sample set k of a clip, with a mono clip's sample on both sides; 0 beyond its length (R79, R87). -/
def readClip (m : Memory) (e : ClipEntry) (k : Nat) : SampleSet :=
  if k < e.length then
    let l := sampleOfWord (m.read (clipWord e.firstPage e.channels k 0))
    let r := if e.channels = 2 then sampleOfWord (m.read (clipWord e.firstPage e.channels k 1)) else l
    (l, r)
  else (0, 0)

/-- The bytes of a clip as a CLIPSEG load would have carried them (R79): `n` bytes from byte `off`.
Byte b belongs to word b / 3 of the clip. -/
def clipBytes (m : Memory) (e : ClipEntry) (off n : Nat) : List Byte :=
  (List.range n).map (fun i =>
    let b := off + i
    (sampleBytes (sampleOfWord (m.read (e.firstPage * Config.pageWords + b / 3)))).getD (b % 3) 0)

end Sys2Proof.Machine
end

