-- ==== Sys2Proof/Machine/Flags.lean ====
section
/-! DEFINITION. Counters and the role and fault flags that several blocks read (R21 and the counter
tables of each chapter; R15; R172). -/

namespace Sys2Proof.Machine

/-- A 16-bit counter advanced by n; it saturates at 65,535. -/
def satAdd (c n : Nat) : Nat := min (c + n) 65535

/-- A 16-bit counter advanced by 1. -/
def satInc (c : Nat) : Nat := satAdd c 1

/-- The station works on the bus: LISTEN, RUN or DUPLICATE, and not a SITE chip (R200). -/
def Node.onBus (n : Node) : Bool :=
  !n.cfg.roles.site &&
    (decide (n.station = .listen) || decide (n.station = .run) || decide (n.station = .duplicate))

/-- The station is in RUN and not a SITE chip. -/
def Node.inRun (n : Node) : Bool := !n.cfg.roles.site && decide (n.station = .run)

/-- Claims are evaluated and alerts activated: RUN or DUPLICATE (R114, R159). -/
def Node.judging (n : Node) : Bool :=
  !n.cfg.roles.site && (decide (n.station = .run) || decide (n.station = .duplicate))

/-- The site unit works (R200). -/
def Node.siteWorks (n : Node) : Bool := n.cfg.roles.site && decide (n.station = .run)

/-- The link-fault indication (R172, R179). -/
def Node.linkFault (n : Node) : Bool := n.link.deadAir || n.link.returnLost

end Sys2Proof.Machine
end

