-- ==== Sys2Proof/Machine/Meters.lean ====
section
/-! DEFINITION. Meter points (section 3.9, R57 to R61). -/

namespace Sys2Proof.Machine

/-- Start or restart (R57): SOUND, runs 0, last window cleared, the window to begin at the next
boundary; the totals stay. -/
def MeterPoint.begin (m : MeterPoint) : MeterPoint :=
  { m with
    running := true, waiting := true, pos := 0, peak := 0, clips := 0, lastPeak := 0, lastClips := 0,
    silent := false, silentRun := 0, soundRun := 0, overload := false }

/-- A stopped point keeps its values (R57). -/
def MeterPoint.stop (m : MeterPoint) : MeterPoint := { m with running := false, waiting := false }

/-- The samples of one instant, with the number of them counted as clipped (R58). -/
def MeterPoint.take (m : MeterPoint) (xs : List Sample) (clipped : Nat) : MeterPoint :=
  if m.running && !m.waiting then
    { m with peak := xs.foldl (fun p x => max p (magnitude x)) m.peak, clips := m.clips + clipped }
  else m

/-- The samples of one instant at a point that counts full-scale samples (section 3.9). -/
def MeterPoint.takeCounted (m : MeterPoint) (xs : List Sample) : MeterPoint :=
  m.take xs (xs.countP atFullScale)

/-- A block boundary: a waiting point begins its window, a running one counts a block (R57, R58). -/
def MeterPoint.boundary (m : MeterPoint) : MeterPoint :=
  if m.running then
    if m.waiting then { m with waiting := false, pos := 0, peak := 0, clips := 0 }
    else { m with pos := m.pos + 1 }
  else m

/-- The tenth block of the window has ended (R58). -/
def MeterPoint.windowDone (m : MeterPoint) : Bool := m.running && !m.waiting && decide (10 ≤ m.pos)

/-- Whether the window in progress is silent by the threshold (R59). -/
def MeterPoint.windowSilent (m : MeterPoint) (cfg : Settings) : Bool :=
  decide (m.peak < cfg.silenceThreshold)

/-- Whether the window in progress is overloaded (R61). -/
def MeterPoint.windowOver (m : MeterPoint) (cfg : Settings) : Bool :=
  decide (cfg.overloadThreshold < 8388608) && decide (0 < m.clips) &&
    decide (cfg.overloadThreshold ≤ m.peak)

/-- The state and runs after a closed window (R59). -/
def MeterPoint.judge (m : MeterPoint) (cfg : Settings) : MeterPoint :=
  match m.silent, m.windowSilent cfg with
  | false, true =>
    if cfg.silenceTime ≤ m.silentRun + 1 then
      { m with silentRun := m.silentRun + 1, silent := true, soundRun := 0 }
    else { m with silentRun := m.silentRun + 1 }
  | false, false => { m with silentRun := 0 }
  | true, false =>
    if 200 ≤ m.soundRun + 1 then { m with soundRun := m.soundRun + 1, silent := false, silentRun := 0 }
    else { m with soundRun := m.soundRun + 1 }
  | true, true => { m with soundRun := 0 }

/-- The window closes (R58, R59, R61) and a new one begins. -/
def MeterPoint.close (m : MeterPoint) (cfg : Settings) : MeterPoint :=
  let j := m.judge cfg
  let loud := m.windowOver cfg
  { j with
    lastPeak := m.peak, lastClips := m.clips, clipTotal := satAdd m.clipTotal m.clips,
    overload := loud, overTotal := if loud then satInc m.overTotal else m.overTotal,
    pos := 0, peak := 0, clips := 0 }

/-- A point as a record shows it (R62). -/
def MeterPoint.view (m : MeterPoint) : MeterView :=
  { silent := m.silent, lastPeak := m.lastPeak, lastClips := m.lastClips, overload := m.overload,
    silentRun := m.silentRun, soundRun := m.soundRun, clipTotal := m.clipTotal,
    overTotal := m.overTotal }

/-- A point after a soft restart (R63): stopped, the totals kept. -/
def MeterPoint.soft (m : MeterPoint) : MeterPoint :=
  { MeterPoint.reset with clipTotal := m.clipTotal, overTotal := m.overTotal }

/-- The station's block boundary at every point. -/
def Meters.boundary (t : Meters) : Meters :=
  { studio := t.studio.boundary, slots := t.slots.map MeterPoint.boundary,
    holderInput := t.holderInput.boundary, linkOutput := t.linkOutput.boundary,
    siteOutput := t.siteOutput.boundary, incoming := t.incoming.boundary }

/-- Some point's window has run its ten blocks. -/
def Meters.anyDone (t : Meters) : Bool :=
  t.studio.windowDone || t.slots.any MeterPoint.windowDone || t.holderInput.windowDone ||
    t.linkOutput.windowDone || t.siteOutput.windowDone || t.incoming.windowDone

/-- The meter points a station has, in the order of the table of section 3.9 (R62). -/
def Node.meterViews (n : Node) : List MeterView :=
  let t := n.meters
  (if n.cfg.roles.studio then [t.studio.view] else []) ++
    (if n.cfg.roles.site then [] else t.slots.map MeterPoint.view) ++
    (if n.cfg.roles.link then [t.holderInput.view, t.linkOutput.view] else []) ++
    (if n.cfg.roles.site then [t.siteOutput.view, t.incoming.view] else [])

end Sys2Proof.Machine
end

