-- ==== Sys2Proof/Machine/Operands.lean ====
section
/-! DEFINITION. The operand layouts: payloads and argument bytes read into fields, and fields written
as bytes (section 1.3, R84, sections 8.1, 9.3, 9.5, 11.5). -/

namespace Sys2Proof.Machine

/-! ## The bus header and the packet kinds (section 1.3) -/

/-- Kind codes of the bus header. -/
def PacketBody.kindCode : PacketBody → Nat
  | .block .. => 1
  | .claim .. => 2
  | .rollcall .. => 3
  | .request .. => 4
  | .answer .. => 5
  | .alert .. => 6

/-- Result codes. -/
def Result.code : Result → Nat
  | .ok => 0
  | .busy => 1
  | .full => 2
  | .notFound => 3
  | .inUse => 4
  | .noSpace => 5
  | .badField => 6
  | .wrongRole => 7
  | .takenElsewhere => 8
  | .notReady => 9
  | .unknownKind => 10

/-- The header fields of a received packet: kind, destination, source, length field. -/
structure Header where
  kind : Nat
  dst : Nat
  src : Nat
  len : Nat
deriving DecidableEq, Repr

/-- The five header bytes of a packet. -/
def headerOf (bs : List Byte) : Header :=
  { kind := byteAt bs 0, dst := byteAt bs 1, src := byteAt bs 2, len := fieldAt bs 3 2 }

/-- Check 1 of R6: at least 9 bytes, and the CRC over all but the last four equals the last four. -/
def crcGood (bs : List Byte) : Bool :=
  decide (9 ≤ bs.length) && decide (crcBytes (bs.take (bs.length - 4)) = bs.drop (bs.length - 4))

/-- The payload of a packet that passed check 1. -/
def payloadOf (bs : List Byte) : List Byte := (bs.drop 5).take (bs.length - 9)

/-- The address part of check 2 of R6. -/
def addressGood (src dst len : Nat) : Bool :=
  decide (1 ≤ src) && decide (src ≤ 30) && decide (1 ≤ dst) && decide (dst ≤ 31) && decide (len ≤ 1024)

/-! ## Roll call (section 1.5) -/

/-- The role bits of a roll call (bit 0 STUDIO to bit 3 ALERT) and of the configuration record (bit 4
SITE). -/
def rolesOfByte (n : Nat) : Roles :=
  { studio := bitAt n 0, phone := bitAt n 1, link := bitAt n 2, alert := bitAt n 3, site := bitAt n 4 }

/-- The role byte of a roll call. -/
def rolesByte (r : Roles) : Nat := byteOfBits [r.studio, r.phone, r.link, r.alert]

def lineStateOf : Nat → Option LineState
  | 0 => some .idle
  | 1 => some .ringing
  | 2 => some .queued
  | 3 => some .held
  | 4 => some .onAir
  | _ => none

def lineStateCode : LineState → Nat
  | .idle => 0
  | .ringing => 1
  | .queued => 2
  | .held => 3
  | .onAir => 4

/-- The LINK group: holder kind and argument, level, return state. -/
def parseRollLink (bs : List Byte) : Option RollLink :=
  let arg := fieldAt bs 1 2
  let holder : Option Announced :=
    match byteAt bs 0 with
    | 1 => if 1 ≤ arg ∧ arg ≤ 30 then some (.station arg) else none
    | 2 => some (.alert arg)
    | 3 => if arg = 0 then some .reserve else none
    | 4 => if arg = 0 then some .silence else none
    | _ => none
  match holder with
  | none => none
  | some h =>
    if byteAt bs 3 ≤ 3 ∧ byteAt bs 4 ≤ 1 then
      some { holder := h, level := byteAt bs 3, lost := decide (byteAt bs 4 = 1) }
    else none

/-- The queue order: line numbers 1 to 4 with no repeats, then 0 in each byte beyond the last. -/
def parseQueue (q : List Nat) : Option (List Nat) :=
  let ls := q.takeWhile (fun n => decide (n ≠ 0))
  if (q.drop ls.length).all (fun n => decide (n = 0)) ∧ ls.all (fun n => decide (n ≤ 4)) ∧ ls.Nodup then
    some ls
  else none

/-- The PHONE group. -/
def parseRollPhone (bs : List Byte) : Option RollPhone :=
  match lineStateOf (byteAt bs 0), lineStateOf (byteAt bs 1), lineStateOf (byteAt bs 2),
      lineStateOf (byteAt bs 3), parseQueue [byteAt bs 4, byteAt bs 5, byteAt bs 6, byteAt bs 7] with
  | some a, some b, some c, some d, some q => some { lines := [a, b, c, d], queue := q }
  | _, _, _, _, _ => none

/-- A caller on air: phone station and line, or both 0 for none. -/
def parseCaller (station line : Nat) : Option (Option (Nat × Nat)) :=
  if station = 0 ∧ line = 0 then some none
  else if 1 ≤ station ∧ station ≤ 30 ∧ 1 ≤ line ∧ line ≤ 4 then some (some (station, line))
  else none

/-- The STUDIO group. -/
def parseRollStudio (bs : List Byte) : Option RollStudio :=
  match parseCaller (byteAt bs 0) (byteAt bs 1), parseCaller (byteAt bs 2) (byteAt bs 3) with
  | some a, some b => some { caller1 := a, caller2 := b }
  | _, _ => none

/-- A group that is read only where its role is announced. -/
def parseGroup {α : Type} (has : Bool) (f : List Byte → Option α) (bs : List Byte) : Option (Option α) :=
  if has then (f bs).map some else some none

/-- The ROLLCALL form check (section 1.5) and its content; `src` is the packet's source. -/
def parseRollcall (src : Nat) (p : List Byte) : Option Rollcall :=
  let r := rolesOfByte (byteAt p 1)
  let nLink := if r.link then 5 else 0
  let nPhone := if r.phone then 8 else 0
  let nStudio := if r.studio then 4 else 0
  if p.length = 5 + nLink + nPhone + nStudio ∧ byteAt p 0 = src ∧ byteAt p 1 < 16 ∧ byteAt p 2 ≤ 2 ∧
      byteAt p 4 < 8 then
    match parseGroup r.link parseRollLink (p.drop 5),
        parseGroup r.phone parseRollPhone (p.drop (5 + nLink)),
        parseGroup r.studio parseRollStudio (p.drop (5 + nLink + nPhone)) with
    | some l, some ph, some st =>
      some
        { station := byteAt p 0, roles := r, level := byteAt p 2, serial := p.getD 3 0,
          faults :=
            { silent := bitAt (byteAt p 4) 0, runaway := bitAt (byteAt p 4) 1,
              clipFault := bitAt (byteAt p 4) 2 },
          link := l, phone := ph, studio := st }
    | _, _, _ => none
  else none

def announcedBytes : Announced → List Byte
  | .station n => 1 :: beBytes n 2
  | .alert i => 2 :: beBytes i 2
  | .reserve => [3, 0, 0]
  | .silence => [4, 0, 0]

def callerBytes : Option (Nat × Nat) → List Byte
  | some (s, l) => [BitVec.ofNat 8 s, BitVec.ofNat 8 l]
  | none => [0, 0]

/-- The payload of a ROLLCALL. -/
def rollcallBytes (r : Rollcall) : List Byte :=
  [BitVec.ofNat 8 r.station, BitVec.ofNat 8 (rolesByte r.roles), BitVec.ofNat 8 r.level, r.serial,
    BitVec.ofNat 8 (byteOfBits [r.faults.silent, r.faults.runaway, r.faults.clipFault])] ++
  (match r.link with
    | some l => announcedBytes l.holder ++ [BitVec.ofNat 8 l.level, if l.lost then 1 else 0]
    | none => []) ++
  (match r.phone with
    | some p =>
      p.lines.map (fun s => BitVec.ofNat 8 (lineStateCode s)) ++
        ((p.queue ++ List.replicate 4 0).take 4).map (BitVec.ofNat 8)
    | none => []) ++
  (match r.studio with
    | some s => callerBytes s.caller1 ++ callerBytes s.caller2
    | none => [])

/-! ## BLOCK (section 1.3) -/

/-- A BLOCK's fields. -/
structure BlockFields where
  index : Nat
  channels : Nat
  seq : Seq16
  endFlag : Bool
  line : Nat
  audio : List SampleSet
deriving DecidableEq, Repr

/-- The BLOCK form check (R6, order 4) and its fields. -/
def parseBlock (p : List Byte) : Option BlockFields :=
  let ch := byteAt p 1
  let fl := byteAt p 4
  if byteAt p 0 ≤ 7 ∧ (ch = 1 ∨ ch = 2) ∧ fl < 16 ∧ p.length = 5 + 144 * ch then
    some
      { index := byteAt p 0, channels := ch, seq := BitVec.ofNat 16 (fieldAt p 2 2),
        endFlag := bitAt fl 0, line := fl / 2, audio := setsOf ch (samplesOf (p.drop 5)) }
  else none

/-! ## Alert records (section 8.1) -/

/-- The 14 bytes that the alert line and the ALERT packet share, read into fields. -/
def alertOfBytes (p : List Byte) : AlertRecord :=
  { start := decide (byteAt p 0 = 1), id := fieldAt p 1 2, cls := byteAt p 3, area := fieldAt p 4 2,
    code := fieldAt p 6 2, complement := fieldAt p 8 2, duration := fieldAt p 10 2, clip := byteAt p 12,
    repeats := byteAt p 13 }

/-- Kind 1 or 2 and class 1 to 4 (R151, check 2; R153). -/
def alertFormGood (p : List Byte) : Bool :=
  (decide (byteAt p 0 = 1) || decide (byteAt p 0 = 2)) && decide (1 ≤ byteAt p 3) &&
    decide (byteAt p 3 ≤ 4)

/-- The clamping of duration and repeat count (R151). -/
def clampAlert (r : AlertRecord) : AlertRecord :=
  { r with
    duration := if r.duration = 0 then 1 else min r.duration 600,
    repeats := if r.repeats = 0 then 1 else min r.repeats 3 }

/-- The 14 bytes of a record (R152). -/
def alertBytes (r : AlertRecord) : List Byte :=
  [if r.start then 1 else 2] ++ beBytes r.id 2 ++ [BitVec.ofNat 8 r.cls] ++ beBytes r.area 2 ++
    beBytes r.code 2 ++ beBytes r.complement 2 ++ beBytes r.duration 2 ++
    [BitVec.ofNat 8 r.clip, BitVec.ofNat 8 r.repeats]

/-! ## Packets of the station (R5) -/

/-- Free bytes to the end of a payload of which some bytes stand already (log 3). -/
def freeBytes (fresh stand : Nat) : List Byte := (Config.unstatedResultBytes fresh).take (1021 - stand)

/-- A status record on the line: the record kind, the index, and the record (R197). -/
def recordBytes (fresh kind index : Nat) : List Byte :=
  [BitVec.ofNat 8 kind, BitVec.ofNat 8 index] ++ freeBytes fresh 2

/-- Result data as bytes: the fields whose widths the spec gives (R70, R108, R136, R162, R197, and the
widths that the arguments and layouts of sections 1.3, 4.4, 4.5 and 9.3 give the same fields), free bytes
elsewhere (log 3). -/
def resultBytes (fresh : Nat) : ResultData → List Byte
  | .none => []
  | .noSpace a b => beBytes a 2 ++ beBytes b 2
  | .claimHeld l s => [BitVec.ofNat 8 l, s]
  | .taken l scr lab =>
    [BitVec.ofNat 8 l, if scr then 1 else 0, BitVec.ofNat 8 lab.length] ++ lab
  | .alertEnded id cls => beBytes id 2 ++ [BitVec.ofNat 8 cls]
  | .lineAnswered l => [BitVec.ofNat 8 l]
  | .swapped bank len => [BitVec.ofNat 8 bank] ++ beBytes len 2
  | .opened c serial => [BitVec.ofNat 8 c, BitVec.ofNat 8 serial] ++ freeBytes fresh 2
  | .complete c serial => [BitVec.ofNat 8 c, BitVec.ofNat 8 serial] ++ freeBytes fresh 2
  | .loadFailed c serial _ => [BitVec.ofNat 8 c, BitVec.ofNat 8 serial] ++ freeBytes fresh 2
  | .transferStarted serial _ => serial :: freeBytes fresh 1
  | .cueAdded id _ => BitVec.ofNat 8 id :: freeBytes fresh 1
  | .cueCleared _ => freeBytes fresh 0
  | .players _ => freeBytes fresh 0
  | .station i _ => recordBytes fresh 1 i
  | .slot i _ => recordBytes fresh 2 i
  | .clip i _ => recordBytes fresh 3 i
  | .cueList i _ => recordBytes fresh 4 i
  | .player i _ => recordBytes fresh 5 i
  | .lines i _ => recordBytes fresh 6 i
  | .airView i _ => recordBytes fresh 7 i
  | .alertHist i _ => recordBytes fresh 8 i
  | .link i _ => recordBytes fresh 9 i

/-- The payload of a packet. -/
def PacketBody.payload (fresh : Nat) : PacketBody → List Byte
  | .block i ch seq e line audio =>
    [BitVec.ofNat 8 i, BitVec.ofNat 8 ch] ++ beBytes seq.toNat 2 ++
      [BitVec.ofNat 8 ((if e then 1 else 0) + 2 * line)] ++ setsBytes ch audio
  | .claim l s => [BitVec.ofNat 8 l, s]
  | .rollcall r => rollcallBytes r
  | .request c t args => [BitVec.ofNat 8 c, t] ++ args
  | .answer c t res d => [BitVec.ofNat 8 c, t, BitVec.ofNat 8 res.code] ++ resultBytes fresh d
  | .alert r => alertBytes r

/-- The bytes that a packet puts on the line (R5): header, payload, CRC-32. -/
def wireBytes (own : Nat) (p : Packet) : List Byte :=
  let pay := p.body.payload p.fresh
  let body :=
    [BitVec.ofNat 8 p.body.kindCode, BitVec.ofNat 8 p.dst, BitVec.ofNat 8 own] ++
      beBytes pay.length 2 ++ pay
  body ++ crcBytes body

/-! ## CUE_ADD (R84) -/

/-- A byte as a two's complement number. -/
def signedByte (b : Byte) : Int := b.toInt

/-- The cue entry of CUE_ADD's arguments, with fade lengths above 1,000 used as 1,000. -/
def cueOfArgs (a : List Byte) : CueEntry :=
  { id := byteAt a 0,
    source := if byteAt a 1 = 0 then .clip (byteAt a 2) else .stream (byteAt a 2) (byteAt a 3),
    startOffset := fieldAt a 4 3, segue := signedByte (a.getD 7 0), fadeIn := min (fieldAt a 8 2) 1000,
    fadeOut := min (fieldAt a 10 2) 1000, level := fieldAt a 12 2, auto := decide (byteAt a 14 = 1),
    pausable := bitAt (byteAt a 15) 0, label := a.drop 17 }

/-- Check 1 of R84, for a station of the given number. -/
def cueFieldsGood (own : Nat) (a : List Byte) : Bool :=
  decide (byteAt a 0 ≠ 0) && decide (byteAt a 1 ≤ 1) && decide (byteAt a 14 ≤ 1) &&
    decide (byteAt a 15 < 2) && decide (byteAt a 16 ≤ 16) && decide (a.length = 17 + byteAt a 16) &&
    (decide (byteAt a 1 = 0) ||
      (decide (1 ≤ byteAt a 2) && decide (byteAt a 2 ≤ 30) && decide (byteAt a 2 ≠ own) &&
        decide (byteAt a 3 ≤ 7) && decide (fieldAt a 4 3 = 0)))

/-! ## Requests (section 1.3 and the owners' chapters) -/

/-- Argument bytes that the owner of a request specifies (R10, fourth point). -/
def minArgs : Nat → Nat
  | 1 => 17
  | 2 => 1
  | 5 => 1
  | 6 => 4
  | 7 => 2
  | 8 => 10
  | 9 => 1
  | 10 => 1
  | 11 => 1
  | 12 => 3
  | 13 => 2
  | 14 => 1
  | 15 => 1
  | 16 => 2
  | 17 => 2
  | 18 => 2
  | 19 => 2
  | _ => 0

/-- Whether a role set has the role that a request requires (section 1.4). -/
def roleServes (r : Roles) : Nat → Bool
  | 1 => r.studio
  | 2 => r.studio
  | 3 => r.studio
  | 4 => r.studio
  | 5 => r.studio
  | 6 => r.studio
  | 7 => r.studio
  | 8 => r.studio
  | 9 => r.studio
  | 10 => r.studio
  | 11 => r.phone
  | 12 => r.phone
  | 13 => r.phone
  | 14 => r.phone
  | 15 => r.phone
  | 16 => r.link
  | 17 => r.link
  | _ => true

/-! ## Link frames (section 9.3) -/

def modeCode : ModeKind → Nat
  | .programme => 1
  | .alert => 2
  | .reserve => 3
  | .silence => 4

def modeOf : Nat → ModeKind
  | 1 => .programme
  | 2 => .alert
  | 3 => .reserve
  | _ => .silence

/-- The bytes of a link frame that its CRC-32 covers: all but the sync word and the CRC-32 itself. -/
def LinkFrame.covered (f : LinkFrame) : List Byte :=
  [BitVec.ofNat 8 f.linkId, BitVec.ofNat 8 f.siteId] ++ beBytes f.seq.toNat 2 ++
    beBytes f.blockSeq.toNat 4 ++ [BitVec.ofNat 8 (modeCode f.mode.kind)] ++ beBytes f.mode.arg 2 ++
    [BitVec.ofNat 8 (byteOfBits [f.modeStart, f.modeEnd, f.attach, f.last]),
      BitVec.ofNat 8 f.attachKind] ++
    beBytes f.attachOffset 4 ++ [BitVec.ofNat 8 f.attachment.length] ++ setsBytes 2 f.audio ++
    f.attachment

/-- A link frame with its CRC-32 computed (R173). -/
def LinkFrame.sealed (f : LinkFrame) : LinkFrame := { f with crc := crc32 f.covered }

/-- The bytes of a link frame as the port sends them, sync first. -/
def linkFrameBytes (f : LinkFrame) : List Byte := [0x5A, 0xC3] ++ f.covered ++ beBytes f.crc.toNat 4

/-- The fields of a gathered frame, whose first byte is byte 2 of the layout. -/
def linkFrameOfBytes (b : List Byte) : LinkFrame :=
  let fl := byteAt b 11
  { linkId := byteAt b 0, siteId := byteAt b 1, seq := BitVec.ofNat 16 (fieldAt b 2 2),
    blockSeq := BitVec.ofNat 32 (fieldAt b 4 4),
    mode := { kind := modeOf (byteAt b 8), arg := fieldAt b 9 2 },
    modeStart := bitAt fl 0, modeEnd := bitAt fl 1, attach := bitAt fl 2, last := bitAt fl 3,
    attachKind := byteAt b 12, attachOffset := fieldAt b 13 4,
    attachment := (b.drop 1170).take (byteAt b 17),
    audio := setsOf 2 (samplesOf ((b.drop 18).take 1152)),
    crc := BitVec.ofNat 32 (fieldAt b (1170 + byteAt b 17) 4) }

/-- Bytes of a frame from byte 2 to its last, for an attachment length a (section 9.3). -/
def gatheredLength (a : Nat) : Nat := 1174 + a

/-- The checks of R182 on a complete frame, its bytes from byte 2 on. -/
def linkFrameGood (linkId siteId : Nat) (b : List Byte) : Bool :=
  let a := byteAt b 17
  let att := bitAt (byteAt b 11) 2
  let kind := byteAt b 12
  decide (crcBytes (b.take (1170 + a)) = b.drop (1170 + a)) && decide (byteAt b 0 = linkId) &&
    decide (byteAt b 1 = siteId) && decide (1 ≤ byteAt b 8) && decide (byteAt b 8 ≤ 4) &&
    decide (byteAt b 11 < 16) &&
    ((decide (kind = 0) && !att && decide (a = 0)) ||
      (decide (kind = 1) && att && decide (a = 11)) ||
      (decide (kind = 2) && att && decide (1 ≤ a) && decide (a ≤ 240)))

/-- An OPEN attachment's fields (section 9.3). -/
structure OpenFields where
  clip : Nat
  channels : Nat
  length : Nat
  crc : BitVec 32
  serial : Byte
deriving DecidableEq, Repr

def openOfBytes (b : List Byte) : OpenFields :=
  { clip := byteAt b 0, channels := byteAt b 1, length := fieldAt b 2 4,
    crc := BitVec.ofNat 32 (fieldAt b 6 4), serial := b.getD 10 0 }

def openBytes (clip channels length : Nat) (crc : BitVec 32) (serial : Byte) : List Byte :=
  [BitVec.ofNat 8 clip, BitVec.ofNat 8 channels] ++ beBytes length 4 ++ beBytes crc.toNat 4 ++ [serial]

/-! ## Return frames (section 9.5) -/

/-- The bytes of a return frame that its CRC-32 covers: bytes 2 to 22. -/
def ReturnFrame.covered (f : ReturnFrame) : List Byte :=
  [BitVec.ofNat 8 f.linkId, BitVec.ofNat 8 f.siteId] ++ beBytes f.seq.toNat 2 ++
    [BitVec.ofNat 8 f.siteMode] ++ beBytes f.lastGood.toNat 2 ++ beBytes f.crcErrors 2 ++
    beBytes f.lost 2 ++ [BitVec.ofNat 8 (byteOfBits f.contacts), BitVec.ofNat 8 f.transferState,
      f.transferSerial] ++
    beBytes f.transferOffset 4 ++ beBytes f.peak 3

/-- A return frame with its CRC-32 computed. -/
def ReturnFrame.sealed (f : ReturnFrame) : ReturnFrame := { f with crc := crc32 f.covered }

/-- The bytes of a return frame as the port sends them, sync first. -/
def returnFrameBytes (f : ReturnFrame) : List Byte := [0xA5, 0x3C] ++ f.covered ++ beBytes f.crc.toNat 4

/-- The fields of a return frame. -/
def returnFrameOfBytes (b : List Byte) : ReturnFrame :=
  { linkId := byteAt b 2, siteId := byteAt b 3, seq := BitVec.ofNat 16 (fieldAt b 4 2),
    siteMode := byteAt b 6, lastGood := BitVec.ofNat 16 (fieldAt b 7 2), crcErrors := fieldAt b 9 2,
    lost := fieldAt b 11 2,
    contacts := (List.range 4).map (bitAt (byteAt b 13)),
    transferState := byteAt b 14, transferSerial := b.getD 15 0, transferOffset := fieldAt b 16 4,
    peak := fieldAt b 20 3, crc := BitVec.ofNat 32 (fieldAt b 23 4) }

/-- The acceptance checks of R179. -/
def returnFrameGood (linkId siteId : Nat) (b : List Byte) : Bool :=
  decide (b.length = 27) && decide (fieldAt b 0 2 = 0xA53C) &&
    decide (crcBytes ((b.drop 2).take 21) = b.drop 23) && decide (byteAt b 2 = linkId) &&
    decide (byteAt b 3 = siteId) && decide (1 ≤ byteAt b 6) && decide (byteAt b 6 ≤ 3) &&
    decide (byteAt b 14 ≤ 4)

/-! ## The configuration record (section 11.5, R199) -/

def keyFnOf : Nat → KeyFn
  | 1 => .claimStudio
  | 2 => .claimAuto
  | 3 => .playNext
  | 4 => .stopAll
  | 5 => .takeNextCaller
  | 6 => .dropCaller1
  | 7 => .dropCaller2
  | 8 => .sceneSwap
  | 9 => .answerNextLine
  | 10 => .voiceOpen
  | _ => .none

def tallyFnOf : Nat → TallyFn
  | 1 => .onAir
  | 2 => .next
  | 3 => .alert
  | 4 => .callerWaiting
  | 5 => .callerOnAir
  | 6 => .silence
  | 7 => .linkFault
  | 8 => .busFault
  | _ => .none

/-- Pages of the sample memory for a configured size in MiB (R64). -/
def pagesOfMib (mib : Nat) : Nat :=
  if 256 ≤ mib then 16384
  else if 128 ≤ mib then 8192
  else if 64 ≤ mib then 4096
  else if 32 ≤ mib then 2048
  else 1024

/-- A field that selects its default where all its bytes are FFh (R199). -/
def orDefault (raw allOnes dflt : Nat) (use : Nat → Nat) : Nat := if raw = allOnes then dflt else use raw

def bankOfBytes (b : List Byte) : Bank :=
  { gains := (List.range 8).map (fun i => fieldAt b (2 * i) 2), duckDepth := fieldAt b 16 2 }

/-- The values of a good record, clamped as the owners' rules say (R39, R59, R61, R64, R185). -/
def settingsOf (r : List Byte) : Settings :=
  let depth := orDefault (byteAt r 58) 255 3 (fun v => max 1 (min v 8))
  { number := byteAt r 3, roles := rolesOfByte (byteAt r 4), memPages := pagesOfMib (fieldAt r 5 2),
    restartCode := r.getD 7 0, alertCode := fieldAt r 8 2,
    areaCodes := (List.range 4).map (fun i => fieldAt r (10 + 2 * i) 2),
    areaHash := (r.drop 18).take 32, testAlerts := decide (byteAt r 50 = 1),
    toneClips := (List.range 4).map (fun i => byteAt r (51 + i)), reserveClip := byteAt r 55,
    phoneStation := byteAt r 56, autoAnswer := decide (byteAt r 57 = 1), startDepth := depth,
    highMark := orDefault (byteAt r 59) 255 10 (fun v => min 15 (max v (depth + 2))),
    silenceThreshold := orDefault (fieldAt r 60 3) 16777215 0 (fun v => min v 8388608),
    silenceTime := orDefault (fieldAt r 63 2) 65535 2000 (fun v => max 100 (min v 6000)),
    overloadThreshold := orDefault (fieldAt r 65 3) 16777215 8388608 (fun v => min v 8388608),
    reserveDelay := orDefault (fieldAt r 68 2) 65535 1250 (fun v => max 250 (min v 15000)),
    linkId := byteAt r 70, siteId := byteAt r 71,
    voiceFlags := (List.range 4).map (bitAt (byteAt r 72)), bank0 := bankOfBytes (r.drop 73),
    bank1 := bankOfBytes (r.drop 91), keyFns := (List.range 8).map (fun i => keyFnOf (byteAt r (109 + i))),
    tallyFns := (List.range 8).map (fun i => tallyFnOf (byteAt r (117 + i))) }

/-- The role set check of R199, order 4. -/
def rolesGood (n : Nat) : Bool := decide (n < 32) && (decide (n = 16) || (decide (1 ≤ n) && decide (n < 16)))

/-- Checks 1 to 4 of R199 on a record of its stated length: after them the role set is known. -/
def recordRead (r : List Byte) : Bool :=
  decide (crcBytes (r.take (r.length - 4)) = r.drop (r.length - 4)) && decide (byteAt r 2 = 1) &&
    decide (1 ≤ byteAt r 3) && decide (byteAt r 3 ≤ 30) && rolesGood (byteAt r 4)

/-- The checks of R199 on a record of its stated length. -/
def recordGood (r : List Byte) : Bool :=
  recordRead r && decide (byteAt r 50 ≤ 1) && decide (byteAt r 57 ≤ 1) && decide (byteAt r 56 ≤ 30) &&
    decide (byteAt r 72 < 16) &&
    (List.range 8).all (fun i => decide (byteAt r (109 + i) ≤ 10) && decide (byteAt r (117 + i) ≤ 8))

/-- The configuration memory's first n bytes; a byte that does not answer reads as FFh (R199). -/
def memoryBytes (mem : List Byte) (n : Nat) : List Byte :=
  (mem ++ List.replicate (n - mem.length) 0xFF).take n

/-- The bytes of the record that the memory holds, where its length is in range (R199). -/
def recordBytesOf (mem : List Byte) : Option (List Byte) :=
  let len := beNat (memoryBytes mem 2)
  if 129 ≤ len ∧ len ≤ 512 then some (memoryBytes mem len) else none

/-- The reading of R199: the settings of a good record, or none for a bad one. -/
def readRecord (mem : List Byte) : Option Settings :=
  match recordBytesOf mem with
  | some r => if recordGood r then some (settingsOf r) else none
  | none => none

/-- The record passes checks 1 to 4 of R199 and its role set is SITE. -/
def siteRecord (mem : List Byte) : Bool :=
  match recordBytesOf mem with
  | some r => recordRead r && (rolesOfByte (byteAt r 4)).site
  | none => false

end Sys2Proof.Machine
end

