-- ==== Sys2Proof/Machine/Ramp.lean ====
section
/-! DEFINITION. Ramps (section 3.3), used by the mixer, the link selector, the alert player and the
site crossfade. -/

namespace Sys2Proof.Machine

/-- The present value (R45): s + trunc((t − s) × j / L), and t once j has reached L. -/
def Ramp.value (r : Ramp) : Nat :=
  if r.pos < r.len then
    ((r.start : Int) + (((r.target : Int) - (r.start : Int)) * (r.pos : Int)).tdiv (r.len : Int)).toNat
  else r.target

/-- One sample set instant (R45). -/
def Ramp.advance (r : Ramp) : Ramp := if r.pos < r.len then { r with pos := r.pos + 1 } else r

/-- A new target with a length in blocks, taking effect now (R46): the ramp turns from where it
stands; a length of 0 jumps. -/
def Ramp.retarget (r : Ramp) (target blocks : Nat) : Ramp :=
  if blocks = 0 then Ramp.settled target
  else
    { start := r.value, target := target, len := Config.blockSets * blocks, pos := 0, running := true,
      pending := none }

/-- A target taken between two boundaries: it waits for the next one, and a later one replaces it. -/
def Ramp.give (r : Ramp) (target blocks : Nat) : Ramp := { r with pending := some (target, blocks) }

/-- The boundary applies a waiting target. -/
def Ramp.applyPending (r : Ramp) : Ramp :=
  match r.pending with
  | some (t, b) => r.retarget t b
  | none => r

/-- The ramp has run in full and its end has not been reported (R50). -/
def Ramp.ended (r : Ramp) : Bool := r.running && decide (r.len ≤ r.pos)

/-- The end has been reported. -/
def Ramp.reported (r : Ramp) : Ramp := { r with running := false }

/-- Blocks the ramp has still to run (R180). -/
def Ramp.blocksToRun (r : Ramp) : Nat := ceilDiv (r.len - r.pos) Config.blockSets

/-- A ramp as a record shows it. -/
def Ramp.view (r : Ramp) : RampView := { value := r.value, target := r.target }

end Sys2Proof.Machine
end

