-- ==== Sys2Proof/Machine/Ops.lean ====
section
/-! DEFINITION. The operations that every block shares: offering packets and answers to the transmit
queues (R3, R4, R11), sending requests (R12), adding, changing and removing listen entries (R28 to
R30), and starting and stopping outgoing streams (R24, R26). -/

namespace Sys2Proof.Machine

/-! ## Transmit queues (section 1.2) -/

/-- The queue of a class. -/
def Bus.queue (b : Bus) : Nat → List Packet
  | 0 => b.q0
  | 1 => b.q1
  | 2 => b.q2
  | _ => b.q3

/-- The queue of a class replaced. -/
def Bus.setQueue (b : Bus) (cls : Nat) (q : List Packet) : Bus :=
  match cls with
  | 0 => { b with q0 := q }
  | 1 => { b with q1 := q }
  | 2 => { b with q2 := q }
  | _ => { b with q3 := q }

/-- The class-0 queue without its oldest ALERT that is not being sent (R4). -/
def Bus.evictAlert (b : Bus) : List Packet :=
  match b.line, b.q0 with
  | .sending 0 _, h :: t => h :: t.drop 1
  | _, q => q.drop 1

/-- A packet filed in the queue of its class; a full queue is handled as R4 lays down. -/
def Bus.enqueue (b : Bus) (cls : Nat) (p : Packet) : Bus :=
  match cls with
  | 0 =>
    if b.q0.length < Config.queueCapacity 0 then { b with q0 := b.q0 ++ [p] }
    else
      { b with
        q0 := b.evictAlert ++ [p],
        counters := { b.counters with class0Evictions := satInc b.counters.class0Evictions } }
  | 1 =>
    if b.q1.length < Config.queueCapacity 1 then { b with q1 := b.q1 ++ [p] }
    else { b with counters := { b.counters with class1Drops := satInc b.counters.class1Drops } }
  | 2 =>
    if b.q2.length < Config.queueCapacity 2 then { b with q2 := b.q2 ++ [p] }
    else { b with counters := { b.counters with class2Drops := satInc b.counters.class2Drops } }
  | _ =>
    if b.q3.length < Config.queueCapacity 3 then { b with q3 := b.q3 ++ [p] }
    else { b with counters := { b.counters with class3Drops := satInc b.counters.class3Drops } }

/-- The class of a packet kind (section 1.1). -/
def PacketBody.cls : PacketBody → Nat
  | .alert .. => 0
  | .claim .. => 1
  | .answer .. => 1
  | .block .. => 2
  | .rollcall .. => 3
  | .request .. => 3

/-- A packet offered by a block (R3): filed in RUN, refused and discarded in any other state. -/
def offerPacket (dst : Nat) (body : PacketBody) (restartOk : Bool) (n : Node) : Node :=
  if n.inRun then
    { n with
      bus := n.bus.enqueue body.cls { dst := dst, body := body, restartOk := restartOk, fresh := n.fresh },
      fresh := n.fresh + 1 }
  else n

/-- A packet offered, not the OK of a RESTART. -/
def offer (dst : Nat) (body : PacketBody) (n : Node) : Node := offerPacket dst body false n

/-- An owner's decision of a request: the answer's result and data, and the part after it (R11). -/
structure Reply where
  result : Result
  data : ResultData
  node : Node
deriving DecidableEq, Repr

/-- A refusal, which changes nothing and carries no result data (R11). -/
def Reply.refuse (r : Result) (n : Node) : Reply := { result := r, data := .none, node := n }

/-- An OK with its data. -/
def Reply.ok (d : ResultData) (n : Node) : Reply := { result := .ok, data := d, node := n }

/-- The answer to a REQUEST is offered to the control queue, addressed to its source (R11). -/
def offerAnswer (dst code : Nat) (tag : Byte) (r : Reply) : Node :=
  offer dst (.answer code tag r.result r.data) r.node

/-! ## The requester table (R12) -/

/-- The tag that the tag counter finds: the first value from it on that no pending entry bears. -/
def freeTag (tags : List Byte) : Nat → Byte → Byte
  | 0, t => t
  | k + 1, t => if tags.contains t then freeTag tags k (t + 1) else t

/-- What came of asking for a request (R12): not sent outside RUN, dropped with the table full, or
sent under a tag. -/
inductive SendOutcome where
  | notSent
  | dropped
  | sent (tag : Byte)
deriving DecidableEq, Repr

/-- A block asks to send a request (R12). -/
def sendRequest (code target : Nat) (args : List Byte) (origin : Originator) (n : Node) :
    SendOutcome × Node :=
  if n.inRun then
    if n.bus.requesters.length < 4 then
      let tag := freeTag (n.bus.requesters.map Requester.tag) 4 n.bus.tagCounter
      let e : Requester := { tag := tag, code := code, target := target, age := 0, origin := origin }
      let n1 := { n with bus := { n.bus with requesters := n.bus.requesters ++ [e], tagCounter := tag + 1 } }
      (.sent tag, offer target (.request code tag args) n1)
    else
      (.dropped,
        { n with
          bus :=
            { n.bus with
              counters :=
                { n.bus.counters with keyActionsDropped := satInc n.bus.counters.keyActionsDropped } } })
  else (.notSent, n)

/-! ## The presence table -/

/-- The presence entry of a station number 1 to 30. -/
def Bus.entry (b : Bus) (station : Nat) : Presence := b.presence.getD (station - 1) .absent

/-- The presence entry of the link station, where there is one (R18). -/
def Bus.linkEntry (b : Bus) : Option Presence := b.linkStation.map b.entry

/-! ## The listen table (section 2.2) -/

/-- The entry, slot and outgoing index of a number. -/
def Streams.entry (t : Streams) (i : Nat) : ListenEntry := t.listen.getD i .reset

def Streams.slot (t : Streams) (i : Nat) : Slot := t.slots.getD i .reset

def Streams.out (t : Streams) (i : Nat) : OutIndex := t.outgoing.getD i .reset

/-- The outcome of asking for an entry (R28). -/
inductive AddOutcome where
  | added (entry : Nat)
  | refused (why : AddFailure)
deriving DecidableEq, Repr

/-- The owner of a purpose (section 2.2). -/
def Purpose.owner : Purpose → RequesterBlock
  | .follow => .airUnit
  | .watch => .airUnit
  | .caller => .takePath
  | .mixminus => .phoneUnit
  | .onair => .phoneUnit
  | .item => .cueEngine

/-- The entry that names a stream, or none. -/
def Streams.find (t : Streams) (station index : Nat) : Option Nat :=
  t.listen.findIdx? (fun e => e.valid && decide (e.station = station) && decide (e.index = index))

/-- What R28 answers, in the order of its table. -/
def Streams.addOutcome (t : Streams) (station index : Nat) : AddOutcome :=
  match t.find station index with
  | some _ => .refused .inUse
  | none =>
    match t.listen.findIdx? (fun e => !e.valid) with
    | some i => .added i
    | none => .refused .full

/-- A slot made ready (R28): empty, FILLING, no last sequence, counts and totals 0. -/
def Slot.ready (s : Slot) : Slot :=
  { Slot.reset with state := .filling, readPos := s.readPos }

/-- A block asks for a stream (R28); the slot's meter point starts (R57). -/
def addListen (station index : Nat) (p : Purpose) (n : Node) : AddOutcome × Node :=
  match n.streams.addOutcome station index with
  | .added i =>
    (.added i,
      { n with
        streams :=
          { n.streams with
            listen :=
              n.streams.listen.set i
                { valid := true, station := station, index := index, purpose := p, requester := p.owner },
            slots := modifyAt n.streams.slots i Slot.ready },
        meters := { n.meters with slots := modifyAt n.meters.slots i MeterPoint.begin } })
  | o => (o, n)

/-- A change of purpose (R29): refused for an entry that is not valid or a purpose of another block. -/
def changePurpose (i : Nat) (p : Purpose) (n : Node) : Node :=
  let e := n.streams.entry i
  if e.valid && decide (e.requester = p.owner) then
    { n with streams := { n.streams with listen := n.streams.listen.set i { e with purpose := p } } }
  else n

/-- A slot emptied of its blocks; the next block goes where the last one ended (log 9). -/
def Slot.emptied (s : Slot) : Slot :=
  { s with blocks := [], readPos := (s.readPos + s.blocks.length) % 16 }

/-- A slot flushed and FREE, its totals kept (R30). -/
def Slot.flush (s : Slot) : Slot :=
  { s.emptied with lastSupplied := none, state := .free, out := .silence }

/-- The requester removes an entry (R30); the slot's meter point stops (R57). The entry is not valid; its
station, index, purpose and requester stay as they were, and a SLOT record shows them (log 14). -/
def removeListen (i : Nat) (n : Node) : Node :=
  if (n.streams.entry i).valid then
    { n with
      streams :=
        { n.streams with
          listen := n.streams.listen.set i { n.streams.entry i with valid := false },
          slots := modifyAt n.streams.slots i Slot.flush },
      meters := { n.meters with slots := modifyAt n.meters.slots i MeterPoint.stop } }
  else n

/-- An entry removed where there is one. -/
def removeListen? (i : Option Nat) (n : Node) : Node :=
  match i with
  | some k => removeListen k n
  | none => n

/-! ## Outgoing streams (section 2.1) -/

/-- Whether a role set sends an index (section 2.1). -/
def sendsIndex (r : Roles) : Nat → Bool
  | 0 => r.studio
  | 1 => r.phone
  | 2 => r.phone
  | 3 => r.phone
  | 4 => r.phone
  | 5 => r.link
  | 6 => r.studio
  | 7 => r.studio
  | _ => false

/-- A request to an outgoing index, refused where the role set does not send it (R24). -/
def requestOut (i : Nat) (f : OutIndex → OutIndex) (n : Node) : Node :=
  if sendsIndex n.cfg.roles i then
    { n with streams := { n.streams with outgoing := modifyAt n.streams.outgoing i f } }
  else n

/-- A start request with a line number (R24): an INACTIVE index starts at the next block boundary, an
ACTIVE one takes the line number for its next BLOCK, an ENDING one keeps the request. The line number of
an index 0 to 5 is not used. -/
def OutIndex.askStart (line : Nat) (o : OutIndex) : OutIndex :=
  match o.state with
  | .active => { o with next := some line }
  | _ => { o with start := some line }

/-- A stop request (R26): it makes an ACTIVE index ENDING, and no change of any other, a start that waits
included (log 14). -/
def OutIndex.askStop (o : OutIndex) : OutIndex :=
  match o.state with
  | .active => { o with state := .ending }
  | _ => o

/-- A start request with a line number (R24). -/
def startOut (i line : Nat) (n : Node) : Node := requestOut i (OutIndex.askStart line) n

/-- A stop request (R26). -/
def stopOut (i : Nat) (n : Node) : Node := requestOut i OutIndex.askStop n

end Sys2Proof.Machine
end

