-- ==== Sys2Proof/Machine/Lines.lean ====
section
/-! DEFINITION. The local lines (sections 11.1 and 11.2) and the standing on the air that they show
(R125, R126). -/

namespace Sys2Proof.Machine

/-! ## Refusals (R194) -/

/-- A refused key action: the last refusal and the key-refusals counter. -/
def refuseKey (key : Nat) (fn : KeyFn) (r : KeyResult) (n : Node) : Node :=
  { n with
    lines :=
      { n.lines with
        lastRefusal := some { key := key, fn := fn, result := r }, refusals := satInc n.lines.refusals } }

/-- The function of key 1 to 8. -/
def Settings.keyFn (c : Settings) (key : Nat) : KeyFn := c.keyFns.getD (key - 1) .none

/-- A key refused under its own function. -/
def refuse (key : Nat) (r : Result) (n : Node) : Node :=
  refuseKey key (n.cfg.keyFn key) (.code r.code) n

/-! ## Key sampling (R193) -/

/-- A debouncer at a boundary with the sampled level. -/
def KeyState.sample (k : KeyState) (level : Bool) : KeyState :=
  if level = k.accepted then { k with stable := 0 }
  else if 10 ≤ k.stable + 1 then { accepted := level, stable := 0 }
  else { k with stable := k.stable + 1 }

/-- The debouncers after sampling the eight key inputs. -/
def sampledKeys (n : Node) : List KeyState :=
  List.zipWith KeyState.sample n.lines.keys n.pins.keys

/-- Every key input sampled: the keys pressed at this boundary, numbered 1 to 8, wait for their
functions. -/
def keySample (n : Node) : Node :=
  let ks := sampledKeys n
  let pressed :=
    (List.range 8).filter (fun i =>
      (ks.getD i .reset).accepted && !(n.lines.keys.getD i .reset).accepted)
  { n with lines := { n.lines with keys := ks, pressed := pressed.map (· + 1) } }

/-- The keys pressed at this boundary with a given function. -/
def Node.pressedWith (n : Node) (p : KeyFn → Bool) : List Nat :=
  n.lines.pressed.filter (fun k => p (n.cfg.keyFn k))

/-- The presses of a function have acted. -/
def clearPressed (p : KeyFn → Bool) (n : Node) : Node :=
  { n with lines := { n.lines with pressed := n.lines.pressed.filter (fun k => !p (n.cfg.keyFn k)) } }

/-- A key of function VOICE_OPEN whose accepted level is ACTIVE. -/
def Node.voiceAccepted (n : Node) (i : Nat) : Bool :=
  decide (n.cfg.keyFns.getD i .none = .voiceOpen) && (n.lines.keys.getD i .reset).accepted

/-- Some VOICE_OPEN key reported held has been released. -/
def Node.voiceReleaseDue (n : Node) : Bool :=
  (List.range 8).any (fun i => n.lines.voiceHeld.getD i false && !n.voiceAccepted i)

/-- The releases reported to the mixer. -/
def voiceRelease (n : Node) : Node :=
  { n with
    lines :=
      { n.lines with
        voiceHeld := (List.range 8).map (fun i => n.lines.voiceHeld.getD i false && n.voiceAccepted i) } }

/-- The presses of VOICE_OPEN keys reported to the mixer as held (R194, R53). -/
def voiceHold (n : Node) : Node :=
  clearPressed (fun f => decide (f = .voiceOpen))
    { n with
      lines := { n.lines with voiceHeld := (List.range 8).map (fun i => n.voiceAccepted i) } }

/-! ## The standing and its indications (R125, R126) -/

/-- The own claims table entry is WAITING. -/
def Node.ownWaiting (n : Node) : Bool :=
  match (n.air.claims.getD (n.cfg.number - 1) .empty).claim with
  | some c => decide (c.state = .waiting)
  | none => false

/-- The view in use: the own view at a LINK station and where no link station is present. -/
def Node.usesOwnView (n : Node) : Bool := n.cfg.roles.link || n.bus.linkStation.isNone

/-- The announced holder and level of the link station's last ROLLCALL. -/
def Node.announced (n : Node) : Option RollLink :=
  match n.bus.linkEntry with
  | some e => e.link
  | none => none

/-- The standing of R125. -/
def Node.standingNow (n : Node) : Standing :=
  let own := n.air.ownLevel
  if n.usesOwnView then
    match n.air.holder.kind with
    | .own => .holding
    | .peer => if own ≠ 0 ∧ own < n.air.holder.level then .preempted else .offAir
    | .alert => if own ≠ 0 ∧ own < n.air.holder.level then .preempted else .offAir
    | _ => .offAir
  else
    match n.announced with
    | none => .offAir
    | some l =>
      if own = 0 then .offAir
      else
        match l.holder with
        | .station k =>
          if k = n.cfg.number then .holding else if own < l.level then .preempted else .offAir
        | .alert _ => if own < l.level then .preempted else .offAir
        | _ => .offAir

/-- The waiting indication of R126. -/
def Node.waitingNow (n : Node) : Bool :=
  if n.usesOwnView then n.ownWaiting
  else decide (n.air.ownLevel ≠ 0) && decide (n.standingNow = .offAir)

/-- The alert-on-air indication of R126. -/
def Node.alertOnAirNow (n : Node) : Bool :=
  if n.usesOwnView then decide (n.air.holder.kind = .alert)
  else
    match n.announced with
    | some { holder := .alert _, .. } => true
    | _ => false

/-- The standing and indications worked out again; a change of standing is reported to the cue
engine (R100). -/
def refreshStanding (n : Node) : Node :=
  let st := n.standingNow
  { n with
    air :=
      { n.air with
        ownView := n.usesOwnView, standing := st, waiting := n.waitingNow, alertOnAir := n.alertOnAirNow },
    cue := if st = n.air.standing then n.cue else { n.cue with standing := some st } }

/-! ## Tallies (R195, R196) -/

/-- CALLER_WAITING. -/
def Node.callerWaiting (n : Node) : Bool :=
  if n.cfg.roles.phone then !n.phone.queue.isEmpty
  else if n.cfg.phoneStation = 0 then false
  else
    let e := n.bus.entry n.cfg.phoneStation
    e.present &&
      (match e.phone with
        | some p => !p.queue.isEmpty
        | none => false)

/-- LINK_FAULT. -/
def Node.tallyLinkFault (n : Node) : Bool :=
  if n.cfg.roles.link then n.linkFault
  else
    match n.announced with
    | some l => l.lost
    | none => true

/-- Whether an indication is lit. -/
def Node.lit (n : Node) : TallyFn → Bool
  | .none => false
  | .onAir => decide (n.air.standing = .holding)
  | .next => n.air.waiting
  | .alert => n.air.alertOnAir
  | .callerWaiting => n.callerWaiting
  | .callerOnAir => decide (n.take.ch1.state = .onAir) || decide (n.take.ch2.state = .onAir)
  | .silence => n.meters.studio.silent
  | .linkFault => n.tallyLinkFault
  | .busFault => decide (n.station = .duplicate) || decide (n.station = .unconfigured)

/-- The tallies of a SITE chip (R191): the site mode, the four contacts, and the reserve player IDLE in
RESERVE. -/
def Node.siteTallies (n : Node) : List Bool :=
  let s := n.site
  [decide (s.mode = .following), decide (s.mode = .concealing), decide (s.mode = .reserve)] ++
    s.contacts ++ [decide (s.mode = .reserve) && !s.reserve.playing]

/-- The levels of the eight outputs worked out anew (R195). An UNCONFIGURED site has them off (R192), any
other UNCONFIGURED station has them lit (R195, log 22). -/
def Node.pattern (n : Node) : List Bool :=
  match n.station with
  | .config => List.replicate 8 false
  | .unconfigured => List.replicate 8 (!n.badSite)
  | _ => if n.cfg.roles.site then n.siteTallies else n.cfg.tallyFns.map n.lit

/-- The staging pattern worked out (R196). -/
def restage (n : Node) : Node := { n with lines := { n.lines with staging := n.pattern } }

/-- What follows every change at once: the standing with its indications, and the staging pattern (R125,
R126, R196). -/
def Node.settled (n : Node) : Node := restage (refreshStanding n)

/-- The staging pattern applied to the eight outputs together (R196). -/
def tallyApply (n : Node) : Node := { n with lines := { n.lines with outputs := n.lines.staging } }

end Sys2Proof.Machine
end

