-- ==== Sys2Proof/Machine/Streams.lean ====
section
/-! DEFINITION. The stream unit (chapter 2): making BLOCKs, placing arrivals, and a slot at a block
boundary. -/

namespace Sys2Proof.Machine

/-! ## Making BLOCKs (R25, R26) -/

/-- Channels of an outgoing index (section 2.1). -/
def outChannels (i : Nat) : Nat := if i = 0 ∨ i = 5 then 2 else 1

/-- The audio of the block that ended, for an outgoing index (section 2.1). -/
def BlockAudio.forIndex (a : BlockAudio) (i : Nat) : List SampleSet :=
  let mono (xs : List Sample) : List SampleSet := xs.map (fun x => (x, x))
  match i with
  | 0 => block48 (0, 0) a.programme
  | 5 => block48 (0, 0) a.selector
  | 6 => block48 (0, 0) (mono a.mixMinus1)
  | 7 => block48 (0, 0) (mono a.mixMinus2)
  | k => block48 (0, 0) (mono (a.lines.getD (k - 1) []))

/-- An index that a start request makes ACTIVE with its line number (R24). -/
def OutIndex.started (o : OutIndex) (line : Nat) : OutIndex :=
  { o with state := .active, line := line, start := none, next := none, again := false }

/-- The start that an index takes at a block boundary, in RUN or not (R24): that of an INACTIVE index, and that
kept by an ENDING one whose END block was made at the boundary before. -/
def OutIndex.startTaken (o : OutIndex) : OutIndex :=
  match o.state, o.start with
  | .inactive, some l => o.started l
  | .ending, some l => if o.again then o.started l else o
  | _, _ => o

/-- An index at a block boundary in RUN, before its BLOCK is made (R24): a start takes effect, and an index
that sends takes its new line number. -/
def OutIndex.opened (o : OutIndex) : OutIndex :=
  let x := o.startTaken
  if x.state = .inactive then x else { x with line := x.next.getD x.line, next := none }

/-- An index after its BLOCK has been made: the sequence advances (R25). After its END block an ENDING index
becomes INACTIVE; where a start was kept it stays ENDING, to be ACTIVE again from the next boundary (R24,
R26). -/
def OutIndex.sent (o : OutIndex) : OutIndex :=
  match o.state, o.start with
  | .ending, none => { o with state := .inactive, seq := o.seq + 1 }
  | .ending, some _ => { o with seq := o.seq + 1, again := true }
  | _, _ => { o with seq := o.seq + 1 }

/-- What the BLOCK of an index carries (R25, R26). -/
def OutIndex.block (o : OutIndex) (i : Nat) (audio : List SampleSet) : PacketBody :=
  .block i (outChannels i) o.seq (decide (o.state = .ending)) (if 6 ≤ i then o.line else 0) audio

/-- One index at a block boundary: in RUN its BLOCK, made and offered (R25); outside RUN no BLOCK is made and
the sequence counter holds, and a start takes effect there too (R24). -/
def makeBlock (i : Nat) (n : Node) : Node :=
  let o := (n.streams.out i).opened
  if n.inRun && decide (o.state ≠ .inactive) then
    offer 31 (o.block i (n.audio.forIndex i))
      { n with
        streams := { n.streams with outgoing := modifyAt n.streams.outgoing i (fun x => x.opened.sent) } }
  else { n with streams := { n.streams with outgoing := modifyAt n.streams.outgoing i OutIndex.startTaken } }

/-- The BLOCKs of a boundary, in index order, the model's choice (log 24): a full block queue drops those
of the higher indices. -/
def makeBlocks (n : Node) : Node := (List.range 8).foldl (fun m i => makeBlock i m) n

/-- Every index INACTIVE at once, with no start waiting (R26, on leaving RUN for DUPLICATE). -/
def Streams.silenceOut (t : Streams) : Streams :=
  { t with outgoing := t.outgoing.map (fun o => { o with state := .inactive, start := none, next := none, again := false }) }

/-- An index ACTIVE at once (R24, on entry to RUN), where the role set sends it. -/
def activateOut (i : Nat) (n : Node) : Node := requestOut i (fun o => { o with state := .active }) n

/-! ## Arrivals (R31 to R33) -/

/-- A total of a slot advanced. -/
def SlotTotals.addLost (t : SlotTotals) (k : Nat) : SlotTotals := { t with lost := satAdd t.lost k }

/-- A block appended, with the overflow handling of R33. The Bool says whether the slot was declared
runaway. -/
def Slot.append (s : Slot) (b : HeldBlock) : Slot × Bool :=
  if s.blocks.length < 16 then ({ s with blocks := s.blocks ++ [b] }, false)
  else
    let run := min (s.overflowRun + 1) 15
    let t := { s.totals with drops := satInc s.totals.drops }
    if run = 15 then
      ({ s.emptied with
          blocks := [b], state := .filling, overflowRun := 0,
          totals := { t with runaways := satInc t.runaways } }, true)
    else
      ({ s with
          blocks := s.blocks.drop 1 ++ [b], readPos := (s.readPos + 1) % 16, overflowRun := run,
          totals := t }, false)

/-- The distance of R32. -/
def seqDistance (seq last : Seq16) : Nat := (seq - last).toNat

/-- An arrival at a slot (R31, R32). -/
def Slot.arrive (s0 : Slot) (b : HeldBlock) : Slot × Bool :=
  let s := { s0 with noArrival := 0 }
  match s.lastSeq with
  | none =>
    { s with lastSeq := some b.seq, state := if s.state = SlotState.ended then .filling else s.state }.append b
  | some last =>
    let d := seqDistance b.seq last
    if d = 1 then { s with lastSeq := some b.seq }.append b
    else if 2 ≤ d ∧ d ≤ 8 then
      { s with lastSeq := some b.seq, totals := s.totals.addLost (d - 1) }.append b
    else if 9 ≤ d ∧ d ≤ 32768 then
      ({ s.emptied with
          blocks := [b], state := .filling, lastSeq := some b.seq,
          totals := { s.totals with resyncs := satInc s.totals.resyncs } }, false)
    else ({ s with totals := { s.totals with stale := satInc s.totals.stale } }, false)

/-- A BLOCK handed to the stream unit (R31): matched against the listen table by its source and stream
index, and discarded where no entry names it. A runaway sets the runaway-seen flag (R33). -/
def blockArrives (src : Nat) (f : BlockFields) (n : Node) : Node :=
  match n.streams.find src f.index with
  | none => n
  | some i =>
    let b : HeldBlock := { seq := f.seq, channels := f.channels, endFlag := f.endFlag, audio := f.audio }
    let r := (n.streams.slot i).arrive b
    { n with
      streams := { n.streams with slots := n.streams.slots.set i r.1 },
      bus := { n.bus with runawaySeen := n.bus.runawaySeen || r.2 } }

/-! ## A slot at a block boundary (R34 to R37) -/

/-- RUNNING or REFILLING: the states in which the no-arrival count runs. -/
def SlotState.timed : SlotState → Bool
  | .running => true
  | .refilling => true
  | _ => false

/-- The no-arrival count at a boundary (R34). -/
def Slot.age (s : Slot) : Slot :=
  if s.state.timed then { s with noArrival := min (s.noArrival + 1) 50 } else s

/-- The no-arrival count has reached 50. -/
def Slot.timedOut (s : Slot) : Bool := s.state.timed && decide (50 ≤ s.noArrival)

/-- The ending of a slot (R37): ENDED, emptied, no last sequence; it gives out `given`. -/
def Slot.endWith (s : Slot) (given : GivenOut) : Slot :=
  { s.emptied with state := .ended, lastSeq := none, out := given }

/-- A held block as given out. -/
def HeldBlock.given (b : HeldBlock) : GivenOut := { channels := b.channels, audio := b.audio }

/-- The oldest block discarded (a slip). -/
def Slot.slip (s : Slot) : Slot :=
  { s with
    blocks := s.blocks.drop 1, readPos := (s.readPos + 1) % 16,
    totals := { s.totals with slips := satInc s.totals.slips } }

/-- Whether R35, step 1, slips. -/
def Slot.slips (s : Slot) (highMark : Nat) : Bool :=
  decide (highMark ≤ s.blocks.length) &&
    (match s.blocks with
      | b :: _ => !b.endFlag
      | [] => false)

/-- A boundary in RUNNING (R35, R36): one block, or a repeat. The Bool says whether the slot ended. -/
def Slot.read (s : Slot) (highMark : Nat) : Slot × Bool :=
  let t := if s.slips highMark then s.slip else s
  match t.blocks with
  | b :: rest =>
    let u :=
      { t with
        state := .running, blocks := rest, readPos := (t.readPos + 1) % 16, lastSupplied := some b,
        overflowRun := 0, out := b.given }
    if b.endFlag then (u.endWith b.given, true) else (u, false)
  | [] =>
    ({ t with
        state := .refilling,
        out := (match t.lastSupplied with
          | some b => b.given
          | none => .silence),
        totals := { t.totals with underruns := satInc t.totals.underruns } }, false)

/-- Whether a FILLING or REFILLING slot is released (R34). -/
def Slot.released (s : Slot) (startDepth : Nat) : Bool :=
  decide (startDepth ≤ s.blocks.length) || s.blocks.any HeldBlock.endFlag

/-- What a slot gives out at a boundary, after the no-arrival count (R34 to R36). -/
def Slot.boundary (s : Slot) (startDepth highMark : Nat) : Slot × Bool :=
  match s.state with
  | .free => (s, false)
  | .filling =>
    if s.released startDepth then s.read highMark else ({ s with out := .silence }, false)
  | .refilling =>
    if s.released startDepth then s.read highMark else ({ s with out := .silence }, false)
  | .running => s.read highMark
  | .ended => ({ s with out := .silence }, false)

/-- The no-arrival counts of all slots. -/
def slotAges (n : Node) : Node :=
  { n with streams := { n.streams with slots := n.streams.slots.map Slot.age } }

/-- The reports of the slots that ended for one reason, in slot order (R37). -/
def slotReports (ended : Nat → Bool) (why : EndReason) : List SlotReport :=
  ((List.range 8).filter ended).map (fun i => { entry := i, reason := why })

/-- The read-out of all slots, and the reports of those that ended, with reason END (R35, R37). -/
def readSlots (n : Node) : Node × List SlotReport :=
  let rs := n.streams.slots.map (fun s => s.boundary n.cfg.startDepth n.cfg.highMark)
  ({ n with streams := { n.streams with slots := rs.map Prod.fst } },
    slotReports (fun i => (rs.getD i (.reset, false)).2) .endFlag)

/-- The slots whose no-arrival count has reached 50 end with reason TIMEOUT, giving silence (R37). -/
def endTimedOut (n : Node) : Node × List SlotReport :=
  ({ n with
      streams :=
        { n.streams with
          slots := n.streams.slots.map (fun s => if s.timedOut then s.endWith .silence else s) } },
    slotReports (fun i => (n.streams.slot i).timedOut) .timeout)

/-- Sample set k of what a slot gives out. -/
def GivenOut.set (g : GivenOut) (k : Nat) : SampleSet := g.audio.getD k (0, 0)

/-- The samples that the slot's meter point sees (R38): the channels as held. -/
def GivenOut.metered (g : GivenOut) (k : Nat) : List Sample :=
  let p := g.set k
  if g.channels = 2 then [p.1, p.2] else [p.1]

/-- A given-out sample set as a mono consumer sees it (R38). -/
def GivenOut.monoAt (g : GivenOut) (k : Nat) : Sample :=
  let p := g.set k
  if g.channels = 2 then monoOf p else p.1

end Sys2Proof.Machine
end

