-- ==== Sys2Proof/Machine/Air.lean ====
section
/-! DEFINITION. The air unit (chapter 6): the claims table, the holder, the resume stack, the outgoing
set. A claims table entry is named by its station number, and the alert entry by 0. -/

namespace Sys2Proof.Machine

/-! ## Entries -/

/-- The claims table entry of a station, or the alert entry. -/
def Air.entry (a : Air) (k : Nat) : ClaimEntry :=
  if k = 0 then a.alertClaim else a.claims.getD (k - 1) .empty

/-- An entry replaced by its image. -/
def Air.modifyEntry (a : Air) (k : Nat) (f : ClaimEntry → ClaimEntry) : Air :=
  if k = 0 then { a with alertClaim := f a.alertClaim }
  else { a with claims := modifyAt a.claims (k - 1) f }

/-- The claim of an entry replaced by its image. -/
def ClaimEntry.mapClaim (e : ClaimEntry) (f : Claim → Claim) : ClaimEntry :=
  { e with claim := e.claim.map f }

/-- The claims table entry of the part. -/
def Node.airEntry (n : Node) (k : Nat) : ClaimEntry := n.air.entry k

def mapEntry (k : Nat) (f : ClaimEntry → ClaimEntry) (n : Node) : Node :=
  { n with air := n.air.modifyEntry k f }

def mapClaim (k : Nat) (f : Claim → Claim) (n : Node) : Node := mapEntry k (fun e => e.mapClaim f) n

/-- The state of an entry's claim. -/
def setClaimState (k : Nat) (st : ClaimState) (n : Node) : Node :=
  mapClaim k (fun c => { c with state := st, reason := none }) n

def mapAirCounters (f : AirCounters → AirCounters) (n : Node) : Node :=
  { n with air := { n.air with counters := f n.air.counters } }

/-- The claim of an entry where it is in a given state. -/
def Node.claimIn (n : Node) (k : Nat) (st : ClaimState) : Option Claim :=
  match (n.airEntry k).claim with
  | some c => if c.state = st then some c else none
  | none => none

/-! ## Handing over to the link unit (R124) -/

/-- The source of a holder. -/
def Holder.source (h : Holder) : Source :=
  match h.kind with
  | .none => .reserve
  | .reserve => .reserve
  | .own => .own
  | .alert => .alert
  | .peer => .peer (h.entry.getD 0) h.station

/-- The holder record handed to the link unit of a LINK station: a change of source waits for the next
boundary (R170), a change of alert id is taken at once (R122). -/
def handOver (n : Node) : Node :=
  if n.cfg.roles.link then
    let src := n.air.holder.source
    let l := n.link
    { n with
      link :=
        { l with
          alertId := if n.air.holder.kind = .alert then n.air.holder.alertId else l.alertId,
          handed := src, pending := if src = l.handed then l.pending else some src } }
  else n

/-! ## Listen entries of a LINK station (R117) -/

/-- The air unit's listen entry for a station's programme. -/
def Node.airListen (n : Node) (station : Nat) : Option Nat :=
  match n.streams.find station 0 with
  | some i => if (n.streams.entry i).requester = .airUnit then some i else none
  | none => none

/-- Whether a listen entry is in the outgoing set. -/
def Node.outgoingHas (n : Node) (i : Nat) : Bool := n.air.outgoing.any (fun m => decide (m.entry = i))

/-- A listen entry passes to the outgoing set with a count of 10. -/
def passOut (i : Option Nat) (n : Node) : Node :=
  match i with
  | some k =>
    if n.cfg.roles.link && !n.outgoingHas k then
      { n with air := { n.air with outgoing := n.air.outgoing ++ [{ entry := k, count := 10 }] } }
    else n
  | none => n

/-- A FOLLOW entry for a station's programme, or why there is none. -/
def obtainFollow (station : Nat) (n : Node) : AddOutcome × Node :=
  match n.airListen station with
  | some i =>
    (.added i,
      mapEntry station (fun e => { e with listen := some i })
        (changePurpose i .follow
          { n with
            air := { n.air with outgoing := n.air.outgoing.filter (fun m => decide (m.entry ≠ i)) } }))
  | none =>
    match addListen station 0 .follow n with
    | (.added i, m) => (.added i, mapEntry station (fun e => { e with listen := some i }) m)
    | o => o

/-- A claimant that cannot be followed (R118). -/
def markUnreachable (k : Nat) (why : AddFailure) (n : Node) : Node :=
  mapAirCounters (fun c => { c with unreachable := satInc c.unreachable })
    (mapClaim k (fun c => { c with state := .unreachable, reason := some why }) n)

/-- The listen entry of an entry removed where it is not in the outgoing set (R115). -/
def dropListen (k : Nat) (n : Node) : Node :=
  match (n.airEntry k).listen with
  | some i => if n.outgoingHas i then n else removeListen i n
  | none => n

/-! ## Taking the air (R114, R116) -/

/-- The number of an entry's station: none for the alert entry. -/
def holderKindOf : ClaimKind → HolderKind
  | .peer => .peer
  | .own => .own
  | .alert => .alert

/-- An entry becomes HOLDING and the holder record is filled from it. -/
def takeAir (k : Nat) (c : Claim) (n : Node) : Node :=
  let h : Holder :=
    { kind := holderKindOf c.kind, station := k, level := c.level, arrival := c.arrival,
      alertId := c.alertId,
      entry := if c.kind = .peer ∧ n.cfg.roles.link then (n.airEntry k).listen else none }
  setClaimState k .holding { n with air := { n.air with holder := h } }

/-- The holder leaves the air: a PEER holder's FOLLOW entry passes to the outgoing set (R117). -/
def holderOut (n : Node) : Node := passOut n.air.holder.entry n

/-- The holder pushed onto the stack (R114, step 2). -/
def pushHolder (n : Node) : Node :=
  let h := n.air.holder
  let push (isOwn : Bool) : Node :=
    let r : StackRecord := { station := h.station, level := h.level, arrival := h.arrival, isOwn := isOwn }
    setClaimState h.station .stacked
      (holderOut { n with air := { n.air with stack := r :: n.air.stack } })
  match h.kind with
  | .peer => push false
  | .own => push true
  | _ => n

/-- The FOLLOW entry that a claimant needs (R114, step 1): none needed, had, or not to be had. -/
def followFor (k : Nat) (c : Claim) (n : Node) : Option AddFailure × Node :=
  if n.cfg.roles.link && decide (c.kind = .peer) then
    match obtainFollow k n with
    | (.added _, m) => (none, m)
    | (.refused why, m) => (some why, m)
  else (none, n)

/-- A WAITING claim is evaluated (R114), in RUN and DUPLICATE. -/
def evaluate (k : Nat) (n : Node) : Node :=
  match n.claimIn k .waiting with
  | none => n
  | some c =>
    if n.judging && decide (n.air.holder.level < c.level) then
      match followFor k c n with
      | (some why, m) => markUnreachable k why m
      | (none, m) =>
        handOver
          (mapAirCounters (fun x => { x with preemptions := satInc x.preemptions })
            (takeAir k c (pushHolder m)))
    else n

/-- Whether a is better than b: a higher level, or an equal level and an earlier arrival (R110). -/
def Claim.better (a b : Claim) : Bool :=
  decide (b.level < a.level) || (decide (a.level = b.level) && earlier a.arrival b.arrival)

/-- The best WAITING entry with its claim. -/
def Node.bestWaiting (n : Node) : Option (Nat × Claim) :=
  (List.range 31).foldl
    (fun best k =>
      match n.claimIn k .waiting, best with
      | some c, none => some (k, c)
      | some c, some (j, b) => if c.better b then some (k, c) else some (j, b)
      | none, b => b)
    none

/-- A stacked PEER whose slot is ENDED cannot resume at a LINK station (R116, step 1). -/
def Node.cannotResume (n : Node) (t : StackRecord) : Bool :=
  n.cfg.roles.link && !t.isOwn &&
    (match (n.airEntry t.station).listen with
      | some i => decide ((n.streams.slot i).state = .ended)
      | none => false)

/-- Step 1 of R116 for one record that cannot resume. -/
def discardTop (t : StackRecord) (rest : List StackRecord) (n : Node) : Node :=
  mapAirCounters (fun c => { c with stackDiscards := satInc c.stackDiscards })
    (setClaimState t.station .silent { n with air := { n.air with stack := rest } })

/-- Step 4 of R116: the top of the stack resumes. -/
def resumeTop (t : StackRecord) (rest : List StackRecord) (n : Node) : Node :=
  let popped := { n with air := { n.air with stack := rest } }
  let followed :=
    if n.cfg.roles.link && !t.isOwn then (obtainFollow t.station popped).2 else popped
  let h : Holder :=
    { kind := if t.isOwn then .own else .peer, station := t.station, level := t.level,
      arrival := t.arrival, alertId := 0,
      entry := if n.cfg.roles.link && !t.isOwn then (followed.airEntry t.station).listen else none }
  mapAirCounters (fun c => { c with resumptions := satInc c.resumptions })
    (setClaimState t.station .holding { followed with air := { followed.air with holder := h } })

/-- Step 5 of R116. -/
def fallBack (n : Node) : Node :=
  mapAirCounters (fun c => { c with reserveFallbacks := satInc c.reserveFallbacks })
    { n with air := { n.air with holder := .ofKind .reserve } }

/-- A waiting claim takes the air in selection (R116, step 3). -/
def takeWaiting (k : Nat) (c : Claim) (n : Node) : Node :=
  mapAirCounters (fun x => { x with takesByWaiting := satInc x.takesByWaiting }) (takeAir k c n)

/-- The steps of R116. Each repetition discards a stack record or marks an entry UNREACHABLE, so that
34 rounds are more than any table needs. -/
def selectLoop : Nat → Node → Node
  | 0, n => fallBack n
  | fuel + 1, n =>
    match n.air.stack with
    | t :: rest =>
      if n.cannotResume t then selectLoop fuel (discardTop t rest n)
      else
        match n.bestWaiting with
        | some (k, c) =>
          if t.level < c.level then
            match followFor k c n with
            | (some why, m) => selectLoop fuel (markUnreachable k why m)
            | (none, m) => takeWaiting k c m
          else resumeTop t rest n
        | none => resumeTop t rest n
    | [] =>
      match n.bestWaiting with
      | some (k, c) =>
        match followFor k c n with
        | (some why, m) => selectLoop fuel (markUnreachable k why m)
        | (none, m) => takeWaiting k c m
      | none => fallBack n

/-- Selection, handed on once (R116). -/
def select (n : Node) : Node :=
  if n.judging then handOver (selectLoop 40 n) else n

/-! ## Claims heard (R111, R112, R115) -/

/-- A new arrival number given to an entry's claim. -/
def newArrival (k : Nat) (n : Node) : Node :=
  mapClaim k (fun c => { c with arrival := n.air.arrivals })
    { n with air := { n.air with arrivals := n.air.arrivals + 1 } }

/-- An empty entry takes a claim, WAITING (R111, step 3). -/
def fillEntry (k : Nat) (kind : ClaimKind) (level alertId : Nat) (n : Node) : Node :=
  let c : Claim :=
    { kind := kind, level := level, arrival := n.air.arrivals, state := .waiting, reason := none,
      alertId := alertId }
  mapEntry k (fun e => { e with claim := some c })
    { n with air := { n.air with arrivals := n.air.arrivals + 1 } }

/-- The level of an entry's claim. -/
def setLevel (k level : Nat) (n : Node) : Node := mapClaim k (fun c => { c with level := level }) n

/-- A station's record taken off the stack, those above moving down. -/
def unstack (k : Nat) (n : Node) : Node :=
  { n with air := { n.air with stack := n.air.stack.filter (fun r => decide (r.station ≠ k)) } }

/-- The stack record of a station given an arrival number. -/
def setStackArrival (k : Nat) (x : Count32) (n : Node) : Node :=
  { n with
    air :=
      { n.air with
        stack := n.air.stack.map (fun r => if r.station = k then { r with arrival := x } else r) } }

/-- An entry that holds a claim is renewed by a new serial (R112). -/
def renew (k : Nat) (c : Claim) (level : Nat) (n0 : Node) : Node :=
  let x := n0.air.arrivals
  let n := setLevel k level (newArrival k n0)
  let holderTakes (m : Node) : Node :=
    { m with air := { m.air with holder := { m.air.holder with level := level, arrival := x } } }
  match c.state with
  | .waiting => if c.level < level then evaluate k n else n
  | .holding =>
    if level < c.level then select (setClaimState k .waiting (holderOut n)) else holderTakes n
  | .stacked =>
    if level = c.level then setStackArrival k x n
    else
      let w := setClaimState k .waiting (unstack k n)
      if c.level < level then evaluate k w else w
  | .silent => n
  | .unreachable => evaluate k (setClaimState k .waiting n)

/-- An entry emptied, its last serial kept. -/
def emptyEntry (k : Nat) (n : Node) : Node :=
  mapEntry k (fun e => { e with claim := none, listen := none }) n

/-- A claim removed from its entry (R115). -/
def removeClaim (k : Nat) (n : Node) : Node :=
  match (n.airEntry k).claim with
  | none => n
  | some c =>
    match c.state with
    | .stacked => emptyEntry k (dropListen k (unstack k n))
    | .holding => select (emptyEntry k (holderOut n))
    | _ => emptyEntry k (dropListen k n)

/-- A level applied to an entry (R111, step 3). -/
def applyClaim (k : Nat) (kind : ClaimKind) (level : Nat) (serial : Byte) (n0 : Node) : Node :=
  let n := mapEntry k (fun e => { e with lastSerial := some serial }) n0
  if level = 0 then removeClaim k n
  else
    match (n.airEntry k).claim with
    | none => evaluate k (fillEntry k kind level 0 n)
    | some c => renew k c level n

/-- A claim heard on the bus (R111). -/
def claimHeard (station level : Nat) (serial : Byte) (n : Node) : Node :=
  if !(n.bus.entry station).present then
    mapAirCounters (fun c => { c with absentSource := satInc c.absentSource }) n
  else
    match (n.airEntry station).lastSerial with
    | none => applyClaim station .peer level serial n
    | some last =>
      let d := (serial - last).toNat
      if d = 0 then n
      else if 128 ≤ d then mapAirCounters (fun c => { c with stale := satInc c.stale }) n
      else applyClaim station .peer level serial n

/-- A station reported absent (R115, R17). -/
def stationAbsent (station : Nat) (n : Node) : Node :=
  removeClaim station (mapEntry station (fun e => { e with lastSerial := none }) n)

/-- The retry of an UNREACHABLE entry at a ROLLCALL of its station (R118). -/
def retryUnreachable (station : Nat) (n : Node) : Node :=
  match n.claimIn station .unreachable with
  | some _ => evaluate station (setClaimState station .waiting n)
  | none => n

/-- A ROLLCALL's claim, then the retry of an entry that was UNREACHABLE and that the claim itself did
not retry: one ROLLCALL retries once. -/
def rollcallClaim (station level : Nat) (serial : Byte) (n : Node) : Node :=
  let before := n.claimIn station .unreachable
  let m := claimHeard station level serial n
  if before.isSome && decide (m.claimIn station .unreachable = before) then retryUnreachable station m
  else m

/-! ## The own claim (R107 to R109) -/

/-- The own claim set to a level (R107): the CLAIM packet, the own entry of the claims table, the
standing. Under a CLAIM_SET the CLAIM enters the control queue before the request's ANSWER, the model's choice
(log 18). -/
def setOwnClaim (level : Nat) (n : Node) : Node :=
  if level = n.air.ownLevel then n
  else
    let serial := n.air.ownSerial + 1
    let m := { n with air := { n.air with ownLevel := level, ownSerial := serial } }
    refreshStanding
      (applyClaim n.cfg.number .own level serial (offer 31 (.claim level serial) m))

/-- CLAIM_SET at its owner (R108). -/
def ownClaimSet (a : List Byte) (n : Node) : Reply :=
  let level := byteAt a 0
  if 2 < level then .refuse .badField n
  else
    let m := setOwnClaim level n
    .ok (.claimHeld m.air.ownLevel m.air.ownSerial) m

/-! ## The alert claim (R122) -/

/-- The alert unit claims the air at level 3. -/
def alertClaims (alertId : Nat) (n : Node) : Node :=
  evaluate 0 (fillEntry 0 .alert 3 alertId n)

/-- The alert id of the claim held is replaced. -/
def alertIdChanges (alertId : Nat) (n : Node) : Node :=
  handOver
    (mapClaim 0 (fun c => { c with alertId := alertId })
      (if n.air.holder.kind = .alert then
        { n with air := { n.air with holder := { n.air.holder with alertId := alertId } } }
      else n))

/-- The alert unit releases its claim. -/
def alertReleases (n : Node) : Node := removeClaim 0 n

/-! ## Silence, slot endings, recovery (R119 to R121) -/

/-- The holder is marked SILENT (R119), and the standing follows the new holder (R125). -/
def markHolderSilent (n : Node) : Node :=
  if n.air.holder.kind = .peer ∨ n.air.holder.kind = .own then
    refreshStanding
      (select
        (mapAirCounters (fun c => { c with silenceMarkings := satInc c.silenceMarkings })
          (setClaimState n.air.holder.station .silent (holderOut n))))
  else n

/-- A report of the ending of a FOLLOW or WATCH slot, for either reason (R120). -/
def airSlotEnded (r : SlotReport) (n : Node) : Node :=
  if n.cfg.roles.link && decide (n.air.holder.kind = .peer) && decide (n.air.holder.entry = some r.entry) then
    markHolderSilent n
  else n

/-- The recovery of a SILENT entry (R121), and the standing that follows it (R125). -/
def recover (k : Nat) (n : Node) : Node :=
  match n.claimIn k .silent with
  | some _ =>
    refreshStanding
      (evaluate k
        (mapAirCounters (fun c => { c with recoveries := satInc c.recoveries })
          (setClaimState k .waiting n)))
  | none => n

/-! ## The outgoing set at a boundary (R117) -/

/-- The counts lowered. -/
def outgoingAges (n : Node) : Node :=
  { n with
    air := { n.air with outgoing := n.air.outgoing.map (fun m => { m with count := m.count - 1 }) } }

/-- Some member's count is 0. -/
def Node.outgoingDue (n : Node) : Bool := n.air.outgoing.any (fun m => decide (m.count = 0))

/-- A member leaves the set: WATCH where its station's claim is STACKED, SILENT or WAITING, else
removed. -/
def memberLeaves (i : Nat) (n : Node) : Node :=
  let st := (n.streams.entry i).station
  let keep : Bool :=
    match (n.airEntry st).claim with
    | some c => decide (c.state = .stacked) || decide (c.state = .silent) || decide (c.state = .waiting)
    | none => false
  if keep then mapEntry st (fun e => { e with listen := some i }) (changePurpose i .watch n)
  else removeListen i (mapEntry st (fun e => { e with listen := none }) n)

/-- The members whose count is 0 leave. -/
def outgoingExpiry (n : Node) : Node :=
  let gone := n.air.outgoing.filter (fun m => decide (m.count = 0))
  let n1 := { n with air := { n.air with outgoing := n.air.outgoing.filter (fun m => decide (m.count ≠ 0)) } }
  gone.foldl (fun m x => memberLeaves x.entry m) n1

/-! ## What the neighbours receive -/

/-- The announced holder and its level (R124). -/
def Node.announce (n : Node) : Announced × Nat :=
  let h := n.air.holder
  match h.kind with
  | .peer => (.station h.station, h.level)
  | .own => (.station n.cfg.number, h.level)
  | .alert => (.alert h.alertId, h.level)
  | .reserve => (if n.link.reserve.playing then .reserve else .silence, 0)
  | .none => (.silence, 0)

/-- The kind of a claims table entry, which its number fixes (R110): ALERT for entry 0, LOCAL for the station's
own number, PEER for any other. -/
def Node.entryKind (n : Node) (k : Nat) : ClaimKind :=
  if k = 0 then .alert else if k = n.cfg.number then .own else .peer

/-- The entries of the claims table that the AIRVIEW record lists: those that hold a claim or a last serial. -/
def Node.claimRows (n : Node) : List ClaimRow :=
  ((List.range 31).map
      (fun k => ({ station := k, kind := n.entryKind k, entry := n.air.entry k } : ClaimRow))).filter
    (fun r => r.entry.claim.isSome || r.entry.lastSerial.isSome)

/-- The AIRVIEW record (R127). -/
def Node.airView (n : Node) : AirViewRecord :=
  let a := n.air
  { level := a.ownLevel, serial := a.ownSerial, ownView := a.ownView, linkStation := n.bus.linkStation,
    standing := a.standing, waiting := a.waiting, alertOnAir := a.alertOnAir,
    announced :=
      if a.ownView then none
      else
        match n.bus.linkEntry with
        | some e => e.link.map (fun l => (l.holder, l.level))
        | none => none,
    holder := a.holder, stack := a.stack.reverse, arrivals := a.arrivals,
    claims := n.claimRows, outgoing := a.outgoing, counters := a.counters }

/-- The air unit after a soft restart (R129). -/
def Air.soft (a : Air) : Air :=
  { Air.reset with ownSerial := a.ownSerial, counters := a.counters }

end Sys2Proof.Machine
end

