-- ==== Sys2Proof/Machine/Store.lean ====
section
/-! DEFINITION. The clip store (chapter 4): directory, free extents, loads, use counts. -/

namespace Sys2Proof.Machine

/-! ## Extents (R67 to R69) -/

/-- An extent freed into the list at its place by first page, joining those it touches (R68). -/
def freeExtent (e : Extent) : List Extent → List Extent
  | [] => [e]
  | x :: xs =>
    if e.first < x.first then
      if e.first + e.count = x.first then { first := e.first, count := e.count + x.count } :: xs
      else e :: x :: xs
    else if x.first + x.count = e.first then
      match xs with
      | [] => [{ first := x.first, count := x.count + e.count }]
      | y :: ys =>
        if e.first + e.count = y.first then
          { first := x.first, count := x.count + e.count + y.count } :: ys
        else { first := x.first, count := x.count + e.count } :: y :: ys
    else x :: freeExtent e xs

/-- First fit (R69): the first page of p pages and the list after, or none. -/
def allocate (p : Nat) : List Extent → Option (Nat × List Extent)
  | [] => none
  | x :: xs =>
    if p ≤ x.count then
      some (x.first,
        if x.count = p then xs else { first := x.first + p, count := x.count - p } :: xs)
    else
      match allocate p xs with
      | some (f, ys) => some (f, x :: ys)
      | none => none

/-- The free page total. -/
def freeTotal (l : List Extent) : Nat := l.foldl (fun a e => a + e.count) 0

/-- The largest free extent, the lowest where two are equal (R80). -/
def largestExtent : List Extent → Option Extent
  | [] => none
  | x :: xs =>
    match largestExtent xs with
    | some y => if x.count < y.count then some y else some x
    | none => some x

/-- Pages of a clip of c channels and n sample sets (R64). -/
def pagesNeeded (channels length : Nat) : Nat := ceilDiv (length * channels) Config.pageWords

/-! ## The directory (R66) -/

/-- The directory entry of a clip number. -/
def Store.clip (s : Store) (c : Nat) : ClipEntry := s.dir.getD c .reset

/-- A directory entry replaced. -/
def Store.setClip (s : Store) (c : Nat) (e : ClipEntry) : Store := { s with dir := s.dir.set c e }

/-- A change to EMPTY (R66): the fields are cleared, serial and last failure kept. -/
def ClipEntry.toEmpty (e : ClipEntry) : ClipEntry :=
  { ClipEntry.reset with serial := e.serial, lastFailure := e.lastFailure, useCount := e.useCount }

/-- A clip's pages freed and the clip EMPTY (R66, R68). -/
def Store.emptyClip (s : Store) (c : Nat) : Store :=
  let e := s.clip c
  if e.state = .empty then s
  else
    { s.setClip c e.toEmpty with
      free :=
        if e.pageCount = 0 then s.free
        else freeExtent { first := e.firstPage, count := e.pageCount } s.free }

/-- The load context of a clip, if it has one. -/
def Store.loadOf (s : Store) (c : Nat) : Option LoadContext := s.loads.find? (fun l => l.clip = c)

/-- The load context of a clip freed. -/
def Store.dropLoad (s : Store) (c : Nat) : Store :=
  { s with loads := s.loads.filter (fun l => decide (l.clip ≠ c)) }

/-- A load context replaced by its image. -/
def Store.mapLoad (s : Store) (c : Nat) (f : LoadContext → LoadContext) : Store :=
  { s with loads := s.loads.map (fun l => if l.clip = c then f l else l) }

/-! ## Use counts (R77) -/

/-- A reference acquired: granted where the clip is READY. -/
def Store.acquire (s : Store) (c : Nat) : Option Store :=
  let e := s.clip c
  if e.state = .ready then some (s.setClip c { e with useCount := e.useCount + 1 }) else none

/-- A reference released. -/
def Store.release (s : Store) (c : Nat) : Store :=
  let e := s.clip c
  s.setClip c { e with useCount := e.useCount - 1 }

/-- A reference of the station's own store released. -/
def releaseClip (c : Nat) (n : Node) : Node := { n with store := n.store.release c }

/-! ## CLIP_OPEN (R70, R71) -/

/-- The fields of CLIP_OPEN's arguments (section 4.4). -/
structure OpenArgs where
  clip : Nat
  channels : Nat
  length : Nat
  crc : BitVec 32
deriving DecidableEq, Repr

def openArgs (a : List Byte) : OpenArgs :=
  { clip := byteAt a 0, channels := byteAt a 1, length := fieldAt a 2 4,
    crc := BitVec.ofNat 32 (fieldAt a 6 4) }

/-- Check 1 of R70. -/
def OpenArgs.good (o : OpenArgs) : Bool :=
  (decide (o.channels = 1) || decide (o.channels = 2)) && decide (1 ≤ o.length) &&
    decide (o.length < 16777216)

/-- The directory entry of a clip that starts to load (R71). -/
def ClipEntry.opened (e : ClipEntry) (o : OpenArgs) (first pages : Nat) : ClipEntry :=
  { state := .loading, channels := o.channels, length := o.length, firstPage := first,
    pageCount := pages, serial := (e.serial + 1) % 256, expectedCrc := o.crc, received := 0,
    useCount := 0, lastFailure := e.lastFailure }

/-- What CLIP_OPEN does to the store (R70): the result, its data and the store after. NO_SPACE names 0 as
the largest extent where no page is free, the model's choice (log 25). -/
def Store.openClip (s : Store) (opener : Nat) (tag : Byte) (o : OpenArgs) : Result × ResultData × Store :=
  let e := s.clip o.clip
  let wasLoading := decide (e.state = .loading)
  if !o.good then (.badField, .none, s)
  else if 0 < e.useCount then (.inUse, .none, s)
  else if 4 ≤ s.loads.length ∧ (s.loadOf o.clip).isNone then (.busy, .none, s)
  else
    let abandon (k : StoreCounters) : StoreCounters :=
      if wasLoading then { k with abandoned := satInc k.abandoned } else k
    let s1 := (s.emptyClip o.clip).dropLoad o.clip
    let p := pagesNeeded o.channels o.length
    match allocate p s1.free with
    | none =>
      let largest :=
        match largestExtent s1.free with
        | some x => x.count
        | none => 0
      (.noSpace, .noSpace p largest,
        { s1 with counters := abandon { s1.counters with noSpace := satInc s1.counters.noSpace } })
    | some (first, rest) =>
      let e1 := e.opened o first p
      let ctx : LoadContext :=
        { clip := o.clip, opener := opener, tag := tag, serial := e1.serial, crc := crcInit, idleAge := 0 }
      (.ok, .opened o.clip e1.serial,
        { (s1.setClip o.clip e1) with
          free := rest, loads := s1.loads ++ [ctx], counters := abandon s1.counters })

/-- CLIP_OPEN at its owner. -/
def ownClipOpen (src : Nat) (tag : Byte) (a : List Byte) (n : Node) : Reply :=
  let r := n.store.openClip src tag (openArgs a)
  { result := r.1, data := r.2.1, node := { n with store := r.2.2 } }

/-! ## CLIP_DELETE (R78) -/

/-- What CLIP_DELETE does to the store. -/
def Store.deleteClip (s : Store) (c : Nat) : Result × Store :=
  let e := s.clip c
  match e.state with
  | .empty => (.notFound, s)
  | .loading =>
    if 0 < e.useCount then (.inUse, s)
    else
      let s1 := (s.emptyClip c).dropLoad c
      (.ok, { s1 with counters := { s1.counters with abandoned := satInc s1.counters.abandoned } })
  | .ready => if 0 < e.useCount then (.inUse, s) else (.ok, s.emptyClip c)

/-- CLIP_DELETE at its owner. -/
def ownClipDelete (a : List Byte) (n : Node) : Reply :=
  let r := n.store.deleteClip (byteAt a 0)
  { result := r.1, data := .none, node := { n with store := r.2 } }

/-! ## Segments and the end of a load (R72 to R76) -/

/-- A load ends in failure (R75): pages freed, clip EMPTY with the reason, context freed, the bus unit
told, NOT_READY sent to the opener. -/
def failLoad (l : LoadContext) (reason : LoadFailure) (n : Node) : Node :=
  let s1 := (n.store.emptyClip l.clip).dropLoad l.clip
  let e := s1.clip l.clip
  let s2 := s1.setClip l.clip { e with lastFailure := reason }
  offer l.opener (.answer 8 l.tag .notReady (.loadFailed l.clip l.serial reason))
    { n with
      store := { s2 with counters := { s2.counters with failed := satInc s2.counters.failed } },
      bus := { n.bus with clipFaultSeen := true } }

/-- A load ends in completion (R74). -/
def completeLoad (l : LoadContext) (n : Node) : Node :=
  let e := n.store.clip l.clip
  let s1 := (n.store.setClip l.clip { e with state := .ready }).dropLoad l.clip
  offer l.opener (.answer 8 l.tag .ok (.complete l.clip l.serial))
    { n with
      store := { s1 with counters := { s1.counters with completed := satInc s1.counters.completed } } }

/-- The closing of a load by LAST (R74). -/
def closeLoad (l : LoadContext) (n : Node) : Node :=
  let e := n.store.clip l.clip
  if e.received = e.length then
    if ~~~l.crc = e.expectedCrc then completeLoad l n else failLoad l .crc n
  else failLoad l .short n

/-- The words that a segment in order writes, with the first word number (R73). -/
structure SegmentWrite where
  first : Nat
  words : List MemWord
deriving DecidableEq, Repr

/-- A segment of the load in progress judged by its offset (R73). -/
def judgeSegment (l : LoadContext) (p : List Byte) (n : Node) : Node × Option SegmentWrite :=
  let e := n.store.clip l.clip
  let off := fieldAt p 2 3
  let count := byteAt p 5
  let bytes := p.drop 7
  if off < e.received then
    ({ n with
        store :=
          { n.store with
            counters := { n.store.counters with duplicate := satInc n.store.counters.duplicate } } },
      none)
  else if e.received < off then (failLoad l .gap n, none)
  else if e.length < e.received + count then (failLoad l .overrun n, none)
  else
    let l1 := { l with crc := crcUpdate l.crc bytes }
    let s1 := (n.store.setClip l.clip { e with received := e.received + count }).mapLoad l.clip (fun _ => l1)
    let n1 := { n with store := s1 }
    ((if bitAt (byteAt p 6) 0 then closeLoad l1 n1 else n1),
      some
        { first := clipWord e.firstPage e.channels off 0,
          words := (samplesOf bytes).map wordOfSample })

/-- A CLIPSEG handed to the clip store (R72). -/
def clipSegment (p : List Byte) (n : Node) : Node × Option SegmentWrite :=
  let c := byteAt p 0
  let e := n.store.clip c
  let count := byteAt p 5
  let k := n.store.counters
  let bad (k' : StoreCounters) : Node × Option SegmentWrite :=
    ({ n with store := { n.store with counters := k' } }, none)
  if ¬ (7 ≤ p.length ∧ 1 ≤ count ∧ count ≤ 128 ∧ byteAt p 6 < 2) then
    bad { k with malformed := satInc k.malformed }
  else
    match n.store.loadOf c with
    | none => bad { k with stray := satInc k.stray }
    | some l =>
      if ¬ (e.state = .loading ∧ byteAt p 1 = e.serial) then bad { k with stray := satInc k.stray }
      else if p.length ≠ 7 + count * e.channels * 3 then bad { k with malformed := satInc k.malformed }
      else
        let l0 := { l with idleAge := 0 }
        judgeSegment l0 p { n with store := n.store.mapLoad c (fun _ => l0) }

/-- The idle ages at a boundary (R76). -/
def loadAges (n : Node) : Node :=
  { n with
    store := { n.store with loads := n.store.loads.map (fun l => { l with idleAge := l.idleAge + 1 }) } }

/-- A load context whose idle age has reached 2,000. -/
def LoadContext.expired (l : LoadContext) : Bool := decide (2000 ≤ l.idleAge)

/-- The loads whose idle age has reached 2,000 fail with TIMEOUT (R76). Several that reach it at one boundary
fail in the order in which they were opened, a clip opened again standing last, the model's choice (log
24). -/
def loadTimeouts (n : Node) : Node :=
  (n.store.loads.filter LoadContext.expired).foldl (fun m l => failLoad l .timeout m) n

end Sys2Proof.Machine
end

