-- ==== Sys2Proof/Machine/Alerts.lean ====
section
/-! DEFINITION. Emergency alerts (chapter 8): the alert line, the judgement, the queue, the active
alert and its player, the history. -/

namespace Sys2Proof.Machine

def mapAlertCounters (f : AlertCounters → AlertCounters) (n : Node) : Node :=
  { n with alert := { n.alert with counters := f n.alert.counters } }

/-! ## The history (R164) -/

def HistFlags.none : HistFlags :=
  { noTone := false, noMessage := false, noAudio := false, capped := false, localEnd := false,
    endRecord := false }

/-- A history entry written, and handed to the local lines. -/
def writeHistory (r : AlertRecord) (issuer : Nat) (o : AlertOutcome) (f : HistFlags) (n : Node) : Node :=
  let a := n.alert
  let e : HistEntry :=
    { id := r.id, cls := r.cls, area := r.area, issuer := issuer, outcome := o, flags := f,
      stamp := a.blockCount }
  { n with
    alert :=
      { a with
        ring := a.ring.set a.writePos (some e), writePos := (a.writePos + 1) % 16,
        entryCount := min (a.entryCount + 1) 16 },
    lines := { n.lines with lastAlert := some { id := r.id, cls := r.cls, outcome := o } } }

/-- The history, newest first. -/
def AlertUnit.history (a : AlertUnit) : List HistEntry :=
  ((List.range 16).map (fun k => a.ring.getD ((a.writePos + 15 - k) % 16) none)).filterMap id

/-! ## Clips -/

/-- A clip looked up for a reference (R77): 255 names none. -/
def acquireClip (c : Nat) (n : Node) : Node × Bool :=
  if c = 255 then (n, false)
  else
    match n.store.acquire c with
    | some s => ({ n with store := s }, true)
    | none => (n, false)

/-- The tone clip configured for a class (R159, step 1). -/
def Settings.toneClip (c : Settings) (cls : Nat) : Nat := c.toneClips.getD (cls - 1) 255

/-- A reference released where it is held. -/
def releaseClip? (c : Option Nat) (n : Node) : Node :=
  match c with
  | some k => releaseClip k n
  | none => n

/-- An alert's message reference released. -/
def releaseMessage (has : Bool) (r : AlertRecord) (n : Node) : Node :=
  if has then releaseClip r.clip n else n

/-! ## The alert player (R160) -/

/-- A clip starts. -/
def AlertPlayer.startClip (p : AlertPlayer) (phase : PlayPhase) (clip length repetition : Nat) :
    AlertPlayer :=
  { p with
    phase := phase, clip := some clip, readPos := 0, repetition := repetition,
    blocksLeft := ceilDiv length Config.blockSets, startNext := false }

/-- The message starts at repetition 1, acquired for the player. -/
def startMessage (r : AlertRecord) (n : Node) : Node :=
  let m := (acquireClip r.clip n).1
  { m with
    alert :=
      { m.alert with player := m.alert.player.startClip .message r.clip (m.store.clip r.clip).length 1 } }

/-- The tone starts; its reference is the player's already. The repetition reads 0 during the tone, the model's
choice (log 20). -/
def startTone (tone : Nat) (n : Node) : Node :=
  { n with
    alert := { n.alert with player := n.alert.player.startClip .tone tone (n.store.clip tone).length 0 } }

/-- The player starts the active alert: the fader jumps to 16384, and turns at once where an ending has
been given meanwhile. -/
def startActive (a : ActiveAlert) (n : Node) : Node :=
  let up := Ramp.settled Config.unity
  let fader := if a.ending = .none then up else up.retarget 0 10
  let m := { n with alert := { n.alert with player := { n.alert.player with fader := fader } } }
  if a.noTone then startMessage a.record m else startTone (n.cfg.toneClip a.record.cls) m

/-- The player releases its clip and becomes IDLE; its repetition and blocks left stay as they were, the model's
choice (log 20). -/
def stopPlayerClip (n : Node) : Node :=
  let p := n.alert.player
  let m := releaseClip? p.clip n
  { m with
    alert :=
      { m.alert with
        player :=
          { p with
            phase := .idle, clip := none, startNext := false, fader := .settled p.fader.value } } }

/-! ## Activation (R159) -/

/-- The active alert record of a queued alert at its activation. -/
def ActiveAlert.start (r : AlertRecord) (issuer : Nat) (hasMessage noTone : Bool) : ActiveAlert :=
  { record := r, issuer := issuer, hasMessage := hasMessage, noTone := noTone, count := 0,
    capBlock := r.duration * 1000, ending := .none }

def countActivation (n : Node) : Node :=
  mapAlertCounters (fun c => { c with activations := satInc c.activations }) n

/-- The heads of the queue activated in turn until one can be aired (R159). `held` says that the
level-3 claim of the alert just ended is still held; with nothing to air it is released. -/
def activateFrom (held : Bool) : List QueuedAlert → Node → Node
  | [], n => if held then alertReleases n else n
  | q :: rest, n0 =>
    let n := { n0 with alert := { n0.alert with queue := rest } }
    let t := acquireClip (n.cfg.toneClip q.record.cls) n
    if !t.2 && !q.hasMessage then
      activateFrom held rest
        (mapAlertCounters (fun c => { c with notAired := satInc c.notAired })
          (writeHistory q.record q.issuer .notAired
            { HistFlags.none with noTone := true, noMessage := true, noAudio := true } t.1))
    else
      let a := ActiveAlert.start q.record q.issuer q.hasMessage (!t.2)
      let m := countActivation { t.1 with alert := { t.1.alert with active := some a } }
      startActive a (if held then alertIdChanges q.record.id m else alertClaims q.record.id m)

def activateNext (held : Bool) (n : Node) : Node := activateFrom held n.alert.queue n

/-! ## The end of the active alert (R160) -/

/-- The outcome and flags of an ending. -/
def ActiveAlert.outcome (a : ActiveAlert) : AlertOutcome :=
  match a.ending with
  | .none => .aired
  | .cap => .aired
  | _ => .endedEarly

def ActiveAlert.flags (a : ActiveAlert) : HistFlags :=
  { HistFlags.none with
    noTone := a.noTone, noMessage := !a.hasMessage, capped := decide (a.ending = .cap),
    localEnd := decide (a.ending = .local_) }

def countEnding (e : Ending) (c : AlertCounters) : AlertCounters :=
  match e with
  | .none => { c with aired := satInc c.aired }
  | .cap => { c with capped := satInc c.capped }
  | _ => { c with endedEarly := satInc c.endedEarly }

/-- The active alert ends (R160). -/
def completeAlert (n : Node) : Node :=
  match n.alert.active with
  | none => n
  | some a =>
    let m := releaseMessage a.hasMessage a.record (stopPlayerClip n)
    let h :=
      mapAlertCounters (countEnding a.ending) (writeHistory a.record a.issuer a.outcome a.flags m)
    activateNext true { h with alert := { h.alert with active := none } }

/-! ## Judging (R154 to R158, R161, R163) -/

/-- The activation code and its complement (R154). -/
def codeGood (c : Settings) (r : AlertRecord) : Bool :=
  decide (r.code ^^^ r.complement = 65535) && decide (r.code = c.alertCode)

/-- The index of an area code in the hash table (R155). -/
def areaIndex (area : Nat) : Nat := (crc32 (beBytes area 2)).toNat % 256

/-- The area filter (R155). -/
def areaPasses (c : Settings) (area : Nat) : Bool :=
  decide (area = 65535) || c.areaCodes.any (fun x => decide (x = area)) ||
    bitAt (byteAt c.areaHash (areaIndex area / 8)) (areaIndex area % 8)

/-- Two alerts are the same by id and class. -/
def sameAlert (a b : AlertRecord) : Bool := decide (a.id = b.id) && decide (a.cls = b.cls)

/-- A START of an alert already known (R156). -/
def AlertUnit.knows (a : AlertUnit) (r : AlertRecord) : Bool :=
  a.queue.any (fun q => sameAlert q.record r) ||
    (match a.active with
      | some x => sameAlert x.record r
      | none => false) ||
    a.history.any (fun h => decide (h.id = r.id) && decide (h.cls = r.cls) && decide (h.outcome ≠ .rejected))

/-- A queued alert put behind those of equal or higher class (R157). -/
def queueInsert (q : QueuedAlert) : List QueuedAlert → List QueuedAlert
  | [] => [q]
  | x :: xs => if q.record.cls ≤ x.record.cls then x :: queueInsert q xs else q :: x :: xs

/-- A START enters the queue (R157). -/
def enterQueue (r : AlertRecord) (issuer : Nat) (n : Node) : Node :=
  let m := acquireClip r.clip n
  mapAlertCounters (fun c => { c with queued := satInc c.queued })
    { m.1 with
      alert :=
        { m.1.alert with
          queue := queueInsert { record := r, issuer := issuer, hasMessage := m.2 } m.1.alert.queue } }

/-- The newest alert of the lowest class leaves a full queue (R158); its history entry carries no flag, the
model's reading (log 20). -/
def evictLowest (n : Node) : Node :=
  match n.alert.queue.getLast? with
  | some q =>
    mapAlertCounters (fun c => { c with evictions := satInc c.evictions })
      (writeHistory q.record q.issuer .dropped HistFlags.none
        (releaseMessage q.hasMessage q.record
          { n with alert := { n.alert with queue := n.alert.queue.dropLast } }))
  | none => n

/-- A START that is to enter the queue (R157, R158). -/
def queueAlert (r : AlertRecord) (issuer : Nat) (n : Node) : Node :=
  if n.alert.queue.length < 4 then enterQueue r issuer n
  else
    match n.alert.queue.getLast? with
    | some low =>
      if low.record.cls < r.cls then enterQueue r issuer (evictLowest n)
      else
        mapAlertCounters (fun c => { c with drops := satInc c.drops })
          (writeHistory r issuer .dropped HistFlags.none n)
    | none => enterQueue r issuer n

/-- A START of a class above the active alert's supersedes it (R163). The new alert's references are
taken before the old ones are released. -/
def supersede (a : ActiveAlert) (r : AlertRecord) (issuer : Nat) (n : Node) : Node :=
  let msg := acquireClip r.clip n
  let tone := acquireClip (n.cfg.toneClip r.cls) msg.1
  if !msg.2 && !tone.2 then
    mapAlertCounters (fun c => { c with notAired := satInc c.notAired })
      (writeHistory r issuer .notAired { HistFlags.none with noAudio := true } n)
  else
    let gone :=
      mapAlertCounters (fun c => { c with superseded := satInc c.superseded })
        (writeHistory a.record a.issuer .superseded
          { HistFlags.none with noTone := a.noTone, noMessage := !a.hasMessage }
          (releaseMessage a.hasMessage a.record (stopPlayerClip tone.1)))
    let b := ActiveAlert.start r issuer msg.2 (!tone.2)
    alertIdChanges r.id
      (countActivation
        { gone with
          alert :=
            { gone.alert with
              active := some b,
              player :=
                { gone.alert.player with
                  clip := if tone.2 then some (n.cfg.toneClip r.cls) else none, startNext := true } } })

/-- A START that passed R154 to R156. -/
def admitStart (r : AlertRecord) (issuer : Nat) (n : Node) : Node :=
  match n.alert.active with
  | some a => if a.record.cls < r.cls then supersede a r issuer n else queueAlert r issuer n
  | none => queueAlert r issuer n

/-- A START that passed R154 (R155, R156). -/
def judgeStart (r : AlertRecord) (issuer : Nat) (n : Node) : Node :=
  if !areaPasses n.cfg r.area then
    mapAlertCounters (fun c => { c with outOfArea := satInc c.outOfArea }) n
  else if n.alert.knows r then
    mapAlertCounters (fun c => { c with duplicates := satInc c.duplicates }) n
  else if r.cls = 1 ∧ n.cfg.testAlerts = false then
    mapAlertCounters (fun c => { c with testsSeen := satInc c.testsSeen })
      (writeHistory r issuer .testSeen HistFlags.none n)
  else admitStart r issuer n

/-- The ending of the active alert set, with its fade where none runs (R161, R162). -/
def setEnding (a : ActiveAlert) (e : Ending) (n : Node) : Node :=
  let p := n.alert.player
  { n with
    alert :=
      { n.alert with
        active := some { a with ending := e },
        player := if a.ending = .none then { p with fader := p.fader.give 0 10 } else p } }

def endWithoutEffect (n : Node) : Node :=
  mapAlertCounters (fun c => { c with endsWithoutEffect := satInc c.endsWithoutEffect }) n

/-- An END matched against the queue (R161); the history entry of an alert cancelled carries no flag, the
model's reading (log 20). -/
def cancelQueued (r : AlertRecord) (n : Node) : Node :=
  match n.alert.queue.find? (fun q => sameAlert q.record r) with
  | some q =>
    mapAlertCounters (fun c => { c with cancelled := satInc c.cancelled })
      (writeHistory q.record q.issuer .cancelled HistFlags.none
        (releaseMessage q.hasMessage q.record
          { n with
            alert :=
              { n.alert with queue := n.alert.queue.filter (fun x => !sameAlert x.record r) } }))
  | none => endWithoutEffect n

/-- An END that passed R154 (R161). -/
def judgeEnd (r : AlertRecord) (n : Node) : Node :=
  match n.alert.active with
  | some a =>
    if sameAlert a.record r then
      if a.ending = .none ∨ a.ending = .cap then setEnding a .byEnd n else endWithoutEffect n
    else cancelQueued r n
  | none => cancelQueued r n

/-- A record handed for judgement at a LINK station (section 8.3). -/
def judgeAlert (r : AlertRecord) (issuer : Nat) (n : Node) : Node :=
  if !codeGood n.cfg r then
    mapAlertCounters (fun c => { c with rejected := satInc c.rejected })
      (writeHistory r issuer .rejected { HistFlags.none with endRecord := !r.start } n)
  else if r.start then judgeStart r issuer n
  else judgeEnd r n

/-- An ALERT packet handed on to a LINK station (R153). -/
def alertPacket (src : Nat) (p : List Byte) (n : Node) : Node :=
  if n.cfg.roles.link then
    if p.length = 14 ∧ alertFormGood p then
      mapAlertCounters (fun c => { c with packets := satInc c.packets })
        (judgeAlert (clampAlert (alertOfBytes p)) src n)
    else mapAlertCounters (fun c => { c with packetFormat := satInc c.packetFormat }) n
  else n

/-! ## The alert line (R150 to R152) -/

/-- A good record relayed to the bus, and judged where the station also has LINK (R152). -/
def relayRecord (r : AlertRecord) (n : Node) : Node :=
  let m := mapAlertCounters (fun c => { c with relays := satInc c.relays }) (offer 31 (.alert r) n)
  if n.cfg.roles.link then judgeAlert r n.cfg.number m else m

/-- A complete record of 19 bytes (R151). -/
def judgeLine (bs : List Byte) (n : Node) : Node :=
  let fields := (bs.drop 1).take 14
  if crcBytes (bs.take 15) ≠ bs.drop 15 then
    mapAlertCounters (fun c => { c with lineCrc := satInc c.lineCrc }) n
  else if alertFormGood fields then
    relayRecord (clampAlert (alertOfBytes fields))
      (mapAlertCounters (fun c => { c with good := satInc c.good }) n)
  else mapAlertCounters (fun c => { c with lineFormat := satInc c.lineFormat }) n

/-- The receiver hunting. -/
def stopGathering (n : Node) : Node := { n with alert := { n.alert with gathered := [], gap := 0 } }

/-- The record in progress abandoned (R150). -/
def abandonRecord (n : Node) : Node :=
  mapAlertCounters (fun c => { c with lineFormat := satInc c.lineFormat }) (stopGathering n)

/-- The receiver works (section 8.2). -/
def Node.hearsAlertLine (n : Node) : Bool := n.onBus && n.cfg.roles.alert

/-- One character of the alert line (R150). -/
def alertByte (b : Byte) (stopBit : Bool) (n : Node) : Node :=
  if !n.hearsAlertLine then n
  else
    match n.alert.gathered with
    | [] =>
      if b = 0x96 then { n with alert := { n.alert with gathered := [b], gap := 0 } }
      else mapAlertCounters (fun c => { c with skipped := satInc c.skipped }) n
    | g =>
      if !stopBit then abandonRecord n
      else
        let bs := g ++ [b]
        if bs.length = 19 then judgeLine bs (stopGathering n)
        else { n with alert := { n.alert with gathered := bs, gap := 0 } }

/-- Characters one after another, all with a good stop bit. -/
def alertBytesHeard (bs : List Byte) (n : Node) : Node := bs.foldl (fun m b => alertByte b true m) n

/-! ## The alert unit at a boundary -/

/-- The player is in a phase that plays. -/
def AlertPlayer.playing (p : AlertPlayer) : Bool :=
  match p.phase with
  | .tone => true
  | .message => true
  | _ => false

/-- The counts of a boundary (R150, R160, R164), and a fade given since the last one (R46). -/
def alertCounts (n : Node) : Node :=
  let a := n.alert
  let p := a.player
  { n with
    alert :=
      { a with
        blockCount := a.blockCount + 1, gap := if a.gathered.isEmpty then a.gap else a.gap + 1,
        active := a.active.map (fun x => { x with count := x.count + 1 }),
        player :=
          { p with
            fader := p.fader.applyPending,
            blocksLeft := if p.playing then p.blocksLeft - 1 else p.blocksLeft } } }

def Node.gapDue (n : Node) : Bool :=
  n.hearsAlertLine && !n.alert.gathered.isEmpty && decide (20 ≤ n.alert.gap)

/-- The present clip is done (R160). -/
def Node.alertClipDue (n : Node) : Bool :=
  n.alert.active.isSome && n.alert.player.playing && decide (n.alert.player.blocksLeft = 0)

/-- The player in phase DONE, its clip released: the alert is complete. -/
def playerDone (n : Node) : Node :=
  let m := releaseClip? n.alert.player.clip n
  completeAlert
    { m with alert := { m.alert with player := { m.alert.player with phase := .done, clip := none } } }

/-- What follows the clip that is done. -/
def alertClipDone (n : Node) : Node :=
  match n.alert.active with
  | none => n
  | some a =>
    let p := n.alert.player
    match p.phase with
    | .tone =>
      if a.hasMessage then
        let m := releaseClip? p.clip n
        startMessage a.record
          { m with alert := { m.alert with player := { m.alert.player with clip := none } } }
      else playerDone n
    | .message =>
      if p.repetition < a.record.repeats then
        { n with
          alert :=
            { n.alert with
              player :=
                p.startClip .message a.record.clip (n.store.clip a.record.clip).length (p.repetition + 1) } }
      else playerDone n
    | _ => n

/-- The fade of an ending has reached 0 (R160). -/
def Node.alertFadeDue (n : Node) : Bool :=
  (match n.alert.active with
    | some a => decide (a.ending ≠ .none)
    | none => false) && n.alert.player.fader.ended

/-- The cap falls due (R160). -/
def Node.alertCapDue (n : Node) : Bool :=
  match n.alert.active with
  | some a => decide (a.ending = .none) && decide (a.count = a.capBlock - 10)
  | none => false

def alertCap (n : Node) : Node :=
  match n.alert.active with
  | some a =>
    { n with
      alert :=
        { n.alert with
          active := some { a with ending := .cap },
          player := { n.alert.player with fader := n.alert.player.fader.retarget 0 10 } } }
  | none => n

/-- The start that a supersession left for this boundary (R163). -/
def alertStartNext (n : Node) : Node :=
  match n.alert.active with
  | some a => if n.alert.player.startNext then startActive a n else n
  | none => n

/-- An activation is due (R159). -/
def Node.activationDue (n : Node) : Bool :=
  n.judging && n.cfg.roles.link && n.alert.active.isNone && !n.alert.queue.isEmpty

/-! ## ALERT_END_LOCAL, status, reset (R162, R165, R167) -/

def ownAlertEndLocal (a : List Byte) (n : Node) : Reply :=
  match n.alert.active with
  | none => .refuse .notFound n
  | some x =>
    if x.record.id ≠ fieldAt a 0 2 then .refuse .notFound n
    else
      let data : ResultData := .alertEnded x.record.id x.record.cls
      match x.ending with
      | .none => .ok data (setEnding x .local_ n)
      | .cap => .ok data (setEnding x .local_ n)
      | _ => .ok data n

def Node.alertHist (n : Node) : AlertHistRecord :=
  let a := n.alert
  { blockCount := a.blockCount, active := a.active, phase := a.player.phase,
    repetition := a.player.repetition, blocksLeft := a.player.blocksLeft, fader := a.player.fader.value,
    queue := a.queue, entryCount := a.entryCount, entries := a.history, areaCodes := n.cfg.areaCodes,
    areaHash := n.cfg.areaHash, testAlerts := n.cfg.testAlerts, gathering := !a.gathered.isEmpty,
    gathered := a.gathered, counters := a.counters }

def AlertUnit.soft (a : AlertUnit) : AlertUnit :=
  let lost := a.queue.length + (if a.active.isSome then 1 else 0)
  { a with
    queue := [], active := none, player := .reset,
    counters := { a.counters with lostToRestart := satAdd a.counters.lostToRestart lost } }

end Sys2Proof.Machine
end

