-- ==== Sys2Proof/Machine/Link.lean ====
section
/-! DEFINITION. The programme link (chapter 9): the selector's legs, the reserve player, link frames,
transfers to the site, return frames. -/

namespace Sys2Proof.Machine

def mapLinkCounters (f : LinkCounters → LinkCounters) (n : Node) : Node :=
  { n with link := { n.link with counters := f n.link.counters } }

/-- The link unit works (chapter 9). -/
def Node.linkWorks (n : Node) : Bool := n.onBus && n.cfg.roles.link

/-! ## Legs (R168, R170) -/

/-- Two sources are the same; two PEER sources where they name the same listen entry. -/
def Source.same : Source → Source → Bool
  | .peer a _, .peer b _ => decide (a = b)
  | a, b => decide (a = b)

/-- A new incoming leg. -/
def Leg.rising (s : Source) : Leg := { source := s, gain := (Ramp.settled 0).retarget Config.unity 10 }

/-- A leg turned toward 0. -/
def Leg.falling (l : Leg) : Leg := { l with gain := l.gain.retarget 0 10 }

/-- A leg turned toward 16384. -/
def Leg.raised (l : Leg) : Leg := { l with gain := l.gain.retarget Config.unity 10 }

/-- The legs after the hand-over of a source (R170): the incoming leg, the outgoing one, and whether
the legs changed. -/
def changeLegs (inc : Leg) (out : Option Leg) (s : Source) : Leg × Option Leg × Bool :=
  if inc.source.same s then ({ inc with source := s }, out, false)
  else
    match out with
    | none => (Leg.rising s, some inc.falling, true)
    | some o =>
      if o.source.same s then (({ o with source := s } : Leg).raised, some inc.falling, true)
      else
        (Leg.rising s, some (if inc.gain.value < o.gain.value then o else inc).falling, true)

/-- The hand-over waiting takes effect (R170): the holder input meter point is restarted where the legs
change. -/
def sourceChange (n : Node) : Node :=
  match n.link.pending with
  | none => n
  | some s =>
    let r := changeLegs n.link.incoming n.link.outgoing s
    let m :=
      { n with link := { n.link with incoming := r.1, outgoing := r.2.1, pending := none } }
    if r.2.2 then
      mapLinkCounters (fun c => { c with sourceChanges := satInc c.sourceChanges })
        { m with meters := { m.meters with holderInput := m.meters.holderInput.begin } }
    else m

/-- The tenth block of the outgoing leg's ramp has ended (R170). -/
def Node.legDropDue (n : Node) : Bool :=
  match n.link.outgoing with
  | some o => o.gain.ended
  | none => false

def legDrop (n : Node) : Node := { n with link := { n.link with outgoing := none } }

/-! ## The reserve player (R169) -/

/-- A leg of the selector is RESERVE. -/
def Link.reserveNeeded (l : Link) : Bool :=
  decide (l.incoming.source = .reserve) ||
    (match l.outgoing with
      | some o => decide (o.source = .reserve)
      | none => false)

/-- The player releases the clip where no leg is RESERVE; the position it does not keep reads 0, the model's
choice (log 21). -/
def reserveStop (n : Node) : Node :=
  if n.link.reserve.playing && !n.link.reserveNeeded then
    releaseClip n.cfg.reserveClip { n with link := { n.link with reserve := { playing := false, pos := 0 } } }
  else n

/-- The player is needed and IDLE, and the clip store grants the reserve clip. -/
def Node.reserveStartDue (n : Node) : Bool :=
  n.linkWorks && n.link.reserveNeeded && !n.link.reserve.playing &&
    decide ((n.store.clip n.cfg.reserveClip).state = .ready)

def reserveStart (n : Node) : Node :=
  match n.store.acquire n.cfg.reserveClip with
  | some s => { n with store := s, link := { n.link with reserve := { playing := true, pos := 0 } } }
  | none => n

/-! ## Modes (R174) -/

/-- The selector mode, for a station of the given number. -/
def Link.mode (l : Link) (number : Nat) : Mode :=
  match l.incoming.source with
  | .peer _ s => { kind := .programme, arg := s }
  | .own => { kind := .programme, arg := number }
  | .alert => { kind := .alert, arg := l.alertId }
  | .reserve => { kind := if l.reserve.playing then .reserve else .silence, arg := 0 }

/-! ## Link frames (R173 to R177) -/

/-- The boundary's part of R173: the phase count, and the block that ended joined to the frame. -/
def linkPhase (n : Node) : Node :=
  { n with
    link :=
      { n.link with
        phase := n.link.phase + 1,
        frameAudio := n.link.frameAudio ++ block48 (0, 0) n.audio.selector } }

def Node.frameDue (n : Node) : Bool := n.linkWorks && decide (4 ≤ n.link.phase)

/-- The attachment of a frame (R177): kind, offset, bytes and LAST, with the transfer after it. -/
structure Attachment where
  kind : Nat
  offset : Nat
  bytes : List Byte
  last : Bool
  after : Transfer
deriving DecidableEq, Repr

/-- No attachment. -/
def Attachment.none (t : Transfer) : Attachment :=
  { kind := 0, offset := 0, bytes := [], last := false, after := t }

/-- The attachment that a frame made now carries (R177). -/
def Transfer.attach (t : Transfer) (m : Memory) (e : ClipEntry) : Attachment :=
  match t.phase with
  | .sending =>
    if !t.openSent then
      { kind := 1, offset := 0, bytes := openBytes t.siteClip e.channels e.length e.expectedCrc t.serial,
        last := false, after := { t with openSent := true } }
    else
      let len := min 240 (t.total - t.nextOffset)
      let next := t.nextOffset + len
      let done := decide (next = t.total)
      { kind := 2, offset := t.nextOffset, bytes := clipBytes m e t.nextOffset len, last := done,
        after := { t with nextOffset := next, phase := if done then .waiting else .sending, waitAge := 0 } }
  | .waiting => Attachment.none { t with waitAge := t.waitAge + 1 }
  | .none => Attachment.none t

/-- The frame that is made at a boundary, its CRC-32 computed over its bytes (R173, R174). -/
def Link.makeFrame (l : Link) (cfg : Settings) (a : Attachment) : LinkFrame :=
  LinkFrame.sealed {
    linkId := cfg.linkId, siteId := cfg.siteId, seq := l.seq, blockSeq := l.blockSeq, mode := l.frameMode,
    modeStart := decide (l.prevMode ≠ some l.frameMode),
    modeEnd := decide (l.mode cfg.number ≠ l.frameMode), attach := decide (a.kind ≠ 0), last := a.last,
    attachKind := a.kind, attachOffset := a.offset, attachment := a.bytes, audio := l.frameAudio, crc := 0 }

/-- The counters of a frame made. -/
def countFrame (f : LinkFrame) (dropped : Bool) (c : LinkCounters) : LinkCounters :=
  { c with
    framesMade := satInc c.framesMade,
    modeChanges := if f.modeStart then satInc c.modeChanges else c.modeChanges,
    framesDropped := if dropped then satInc c.framesDropped else c.framesDropped }

/-- A link frame made (R173 to R175, R177 to R179). -/
def linkFrameMade (m : Memory) (n : Node) : Node :=
  let l := n.link
  let a := l.transfer.attach m (n.store.clip l.transfer.localClip)
  let f := l.makeFrame n.cfg a
  let dropped := decide (2 ≤ l.buffer.length)
  mapLinkCounters (countFrame f dropped)
    { n with
      link :=
        { l with
          phase := 0, frameAudio := [], seq := l.seq + 1, blockSeq := l.blockSeq + 4,
          prevMode := some l.frameMode, frameMode := l.mode n.cfg.number,
          buffer := if dropped then l.buffer else l.buffer ++ [f], transfer := a.after,
          returnAge := min (l.returnAge + 1) 125 } }

/-- The port has completed the sending of a frame (R175). -/
def linkFrameSent (n : Node) : Node :=
  let count (m : Node) : Node := mapLinkCounters (fun c => { c with framesSent := satInc c.framesSent }) m
  match n.link.portTail with
  | some _ => count { n with link := { n.link with portTail := none } }
  | none =>
    match n.link.buffer with
    | _ :: rest => count { n with link := { n.link with buffer := rest } }
    | [] => n

/-! ## Transfers (R176, R178) -/

/-- SITE_CLIP_SEND at its owner (R176). -/
def ownSiteClipSend (a : List Byte) (n : Node) : Reply :=
  let c := byteAt a 0
  let e := n.store.clip c
  let t := n.link.transfer
  match n.store.acquire c with
  | none => .refuse .notReady n
  | some s =>
    if t.phase ≠ .none then .refuse .busy n
    else if n.link.returnLost then .refuse .notReady n
    else
      let total := e.length * e.channels * 3
      let t1 : Transfer :=
        { t with
          phase := .sending, localClip := c, siteClip := byteAt a 1, serial := t.serial + 1, total := total,
          nextOffset := 0, waitAge := 0, openSent := false }
      .ok (.transferStarted t1.serial total)
        (mapLinkCounters (fun k => { k with started := satInc k.started })
          { n with store := s, link := { n.link with transfer := t1 } })

/-- The counter of a transfer's result. -/
def countTransfer (r : TransferResult) (c : LinkCounters) : LinkCounters :=
  match r with
  | .done => { c with done := satInc c.done }
  | .refused => { c with refused := satInc c.refused }
  | .fault => { c with fault := satInc c.fault }
  | .returnLost => { c with lostReturn := satInc c.lostReturn }
  | .noReport => { c with noReport := satInc c.noReport }

/-- A running transfer ends (R178). -/
def endTransfer (r : TransferResult) (n : Node) : Node :=
  let t := n.link.transfer
  if t.phase = .none then n
  else
    mapLinkCounters (countTransfer r)
      (releaseClip t.localClip
        { n with
          link :=
            { n.link with
              transfer :=
                { t with
                  phase := .none,
                  lastResult :=
                    some { result := r, siteClip := t.siteClip, serial := t.serial, offset := t.nextOffset } } } })

def Node.noReportDue (n : Node) : Bool :=
  decide (n.link.transfer.phase = .waiting) && decide (250 ≤ n.link.transfer.waitAge)

/-! ## Return frames (R178, R179) -/

/-- A return frame applied to the transfer (R178). -/
def applyReturn (f : ReturnFrame) (n : Node) : Node :=
  if f.transferSerial = n.link.transfer.serial then
    match f.transferState with
    | 2 => endTransfer .done n
    | 3 => endTransfer .refused n
    | 4 => endTransfer .fault n
    | _ => n
  else n

/-- A return frame received on the programme link port (R179). -/
def returnFrameHeard (bs : List Byte) (n : Node) : Node :=
  if !n.linkWorks then n
  else if returnFrameGood n.cfg.linkId n.cfg.siteId bs then
    let f := returnFrameOfBytes bs
    applyReturn f
      (mapLinkCounters (fun c => { c with returnFrames := satInc c.returnFrames })
        { n with link := { n.link with lastReturn := some f, returnAge := 0, returnLost := false } })
  else mapLinkCounters (fun c => { c with returnErrors := satInc c.returnErrors }) n

def Node.returnLostDue (n : Node) : Bool := n.linkWorks && !n.link.returnLost && decide (125 ≤ n.link.returnAge)

/-- The return state becomes RETURN_LOST (R179). -/
def returnLoss (n : Node) : Node :=
  endTransfer .returnLost
    (mapLinkCounters (fun c => { c with returnLosses := satInc c.returnLosses })
      { n with link := { n.link with returnLost := true } })

/-! ## Status and reset (R180, R181) -/

def Leg.view (l : Leg) : LegView :=
  { source := l.source, value := l.gain.value, target := l.gain.target, blocksToRun := l.gain.blocksToRun }

def Node.linkRecord (n : Node) : LinkRecord :=
  let l := n.link
  { linkId := n.cfg.linkId, siteId := n.cfg.siteId, phase := l.phase, seq := l.seq, blockSeq := l.blockSeq,
    incoming := l.incoming.view, outgoing := l.outgoing.map Leg.view, selectorMode := l.mode n.cfg.number,
    frameMode := l.frameMode, reservePlaying := l.reserve.playing, reserveClip := n.cfg.reserveClip,
    reservePos := l.reserve.pos, framesHeld := l.buffer.length, transfer := l.transfer,
    returnLost := l.returnLost, returnAge := l.returnAge, lastReturn := l.lastReturn, deadAir := l.deadAir,
    linkOutput := n.meters.linkOutput.view, holderInput := n.meters.holderInput.view,
    counters := l.counters }

/-- The link unit after a soft restart: a frame on the port is sent to its end (R181). -/
def Link.soft (l : Link) : Link :=
  { Link.reset with
    portTail := (match l.portTail with
      | some f => some f
      | none => l.buffer.head?),
    transfer := { l.transfer with phase := .none, openSent := false }, lastReturn := l.lastReturn,
    out := l.out, counters := l.counters }

end Sys2Proof.Machine
end

