-- ==== Sys2Proof/Machine/Mixer.lean ====
section
/-! DEFINITION. The programme mixer (chapter 3): scenes, caller channels, the duck, the mix. -/

namespace Sys2Proof.Machine

/-! ## Scenes (R47 to R49) -/

/-- A bank of the mixer. -/
def Mixer.bank (m : Mixer) (k : Nat) : Bank := if k = 0 then m.bank0 else m.bank1

/-- The live bank. -/
def Mixer.liveBank (m : Mixer) : Bank := m.bank m.live

/-- A value stored in a bank: item 0 to 7 a channel gain, 8 the duck depth (R48). -/
def Bank.store (b : Bank) (item v : Nat) : Bank :=
  if item = 8 then { b with duckDepth := v } else { b with gains := b.gains.set item v }

/-- A bank replaced. -/
def Mixer.setBank (m : Mixer) (k : Nat) (b : Bank) : Mixer :=
  if k = 0 then { m with bank0 := b } else { m with bank1 := b }

/-- The target that a write to the live bank gives, for 2 blocks (R48). -/
def Mixer.writeLive (m : Mixer) (item v : Nat) : Mixer :=
  if item = 8 then (if m.duckOn then { m with duck := m.duck.give v 2 } else m)
  else { m with gains := modifyAt m.gains item (fun r => r.give v 2) }

/-- SCENE_WRITE at its owner (R48). -/
def ownSceneWrite (a : List Byte) (n : Node) : Reply :=
  let bank := byteAt a 0
  let item := byteAt a 1
  let v := fieldAt a 2 2
  let m := n.mixer
  if m.swap.isSome then .refuse .busy n
  else if 1 < bank ∨ 8 < item then .refuse .badField n
  else
    let stored := m.setBank bank ((m.bank bank).store item v)
    .ok .none { n with mixer := if bank = m.live then stored.writeLive item v else stored }

/-- The length of a swap as used (R49). -/
def swapLength (raw : Nat) : Nat := if raw = 0 then 1 else min raw 1000

/-- A scene swap asked for (R49). -/
def sceneSwapFor (raw : Nat) (n : Node) : Reply :=
  let m := n.mixer
  if m.swap.isSome then .refuse .busy n
  else
    let len := swapLength raw
    let live := if m.live = 0 then 1 else 0
    .ok (.swapped live len)
      { n with mixer := { m with live := live, swap := some { len := len, remaining := len, started := false } } }

/-- SCENE_SWAP at its owner. -/
def ownSceneSwap (a : List Byte) (n : Node) : Reply := sceneSwapFor (fieldAt a 0 2) n

/-- The start of an accepted swap at the next boundary (R49). -/
def Mixer.startSwap (m : Mixer) : Mixer :=
  match m.swap with
  | some s =>
    if s.started then m
    else
      { m with
        swap := some { s with started := true },
        gains := List.zipWith (fun (r : Ramp) g => r.retarget g s.len) m.gains m.liveBank.gains,
        duck := if m.duckOn then m.duck.retarget m.liveBank.duckDepth s.len else m.duck }
  | none => m

/-- A block of a started swap has ended. -/
def Mixer.countSwap (m : Mixer) : Mixer :=
  match m.swap with
  | some s => if s.started then { m with swap := some { s with remaining := s.remaining - 1 } } else m
  | none => m

/-- The swap's last block has ended (R49). -/
def Mixer.swapOver (m : Mixer) : Bool :=
  match m.swap with
  | some s => s.started && decide (s.remaining = 0)
  | none => false

/-- SCENE_SWAP_END (R49). -/
def endSwap (n : Node) : Node := { n with mixer := { n.mixer with swap := none } }

/-! ## Caller channels (R51, R52) -/

/-- The record of a caller channel, 1 or 2. -/
def Mixer.caller (m : Mixer) (ch : Nat) : Caller := if ch = 1 then m.caller1 else m.caller2

def Mixer.setCaller (m : Mixer) (ch : Nat) (c : Caller) : Mixer :=
  if ch = 1 then { m with caller1 := c } else { m with caller2 := c }

/-- The take path activates a caller channel, from the next boundary (R51); asked by a key action of a boundary
itself, from the boundary after, the model's choice (log 26). -/
def activateCaller (ch : Nat) (src : CallerSource) (n : Node) : Node :=
  { n with
    mixer := n.mixer.setCaller ch { n.mixer.caller ch with pending := some (.activate src) } }

/-- The take path releases a caller channel, from the next boundary; the Bool says that the release is
reported complete at once (R52). A release that an event of a boundary itself asks for before the mixer's part
(the end of a CALLER slot, a watch that expires, a local line that hangs up, a drop that times out) is carried
out at that same boundary, as R46 has a target given at a boundary, where R52 speaks of the next; one that a key
action of the boundary asks for waits for the next: the model's choice (log 26). -/
def releaseCaller (ch : Nat) (n : Node) : Node × Bool :=
  let c := n.mixer.caller ch
  match c.state with
  | .inactive => ({ n with mixer := n.mixer.setCaller ch { c with pending := none } }, true)
  | .active => ({ n with mixer := n.mixer.setCaller ch { c with pending := some .release } }, false)
  | .releasing => ({ n with mixer := n.mixer.setCaller ch { c with pending := none } }, false)

/-- The boundary carries out a waiting activation or release. -/
def Caller.applyPending (c0 : Caller) : Caller :=
  let c := { c0 with pending := none }
  match c0.pending, c0.state with
  | some (.activate src), .active => { c with source := src }
  | some (.activate src), _ =>
    { c with state := .active, source := src, fader := c.fader.retarget Config.unity 5 }
  | some .release, .active => { c with state := .releasing, fader := c.fader.retarget 0 5 }
  | _, _ => c

/-- The fifth block of a release has ended (R52). -/
def Caller.releaseOver (c : Caller) : Bool := decide (c.state = .releasing) && c.fader.ended

/-- A channel at the end of its release. -/
def Caller.released (c : Caller) : Caller :=
  { c with state := .inactive, source := .none, fader := .settled 0 }

/-! ## The duck (R53) -/

/-- The present value of an input's channel gain ramp. -/
def Mixer.gain (m : Mixer) (i : Nat) : Nat := (m.gains.getD i (.settled 0)).value

/-- The duck condition; `voice` says that a VOICE_OPEN key is reported held. -/
def Mixer.duckCondition (m : Mixer) (voice : Bool) : Bool :=
  voice || (decide (m.caller1.state = .active) && decide (0 < m.gain 6)) ||
    (decide (m.caller2.state = .active) && decide (0 < m.gain 7))

/-- The duck decided at a boundary. -/
def Mixer.decideDuck (m : Mixer) (voice : Bool) : Mixer :=
  let want := m.duckCondition voice
  if want = m.duckOn then m
  else if want then { m with duckOn := true, duck := m.duck.retarget m.liveBank.duckDepth 5 }
  else { m with duckOn := false, duck := m.duck.retarget Config.unity 5 }

/-- Targets that reached the mixer before the boundary (R46). -/
def Mixer.applyTargets (m : Mixer) : Mixer :=
  { m with
    gains := m.gains.map Ramp.applyPending, faderA := m.faderA.applyPending,
    faderB := m.faderB.applyPending, duck := m.duck.applyPending }

/-- The mixer's part of a boundary, in the order of R53: what reached it before, the caller channels,
the start of a swap, the duck. A swap's targets replace those of earlier writes (R46). -/
def Mixer.boundary (m : Mixer) (voice : Bool) : Mixer :=
  let m1 := { m with caller1 := m.caller1.applyPending, caller2 := m.caller2.applyPending }
  (m1.startSwap.applyTargets).decideDuck voice

/-- The boundary at the mixer of a STUDIO station. It carries out what the stages before it at this boundary have
asked for, and the key actions come after it, the model's choice (log 26). -/
def mixerTargets (n : Node) : Node :=
  if n.cfg.roles.studio then
    { n with mixer := n.mixer.boundary (n.lines.voiceHeld.any id) }
  else n

/-! ## The mix (R54 to R56) -/

/-- Every ramp of the mixer advanced by one sample set instant (R45). -/
def Mixer.advance (m : Mixer) : Mixer :=
  { m with
    gains := m.gains.map Ramp.advance, faderA := m.faderA.advance, faderB := m.faderB.advance,
    caller1 := { m.caller1 with fader := m.caller1.fader.advance },
    caller2 := { m.caller2 with fader := m.caller2.fader.advance }, duck := m.duck.advance }

/-- The effective gain of input i (R54). -/
def Mixer.effectiveGain (m : Mixer) (voiceFlags : List Bool) (i : Nat) : Nat :=
  let g := m.gain i
  match i with
  | 4 => scaleGain (scaleGain g m.faderA.value) m.duck.value
  | 5 => scaleGain (scaleGain g m.faderB.value) m.duck.value
  | 6 => scaleGain g m.caller1.fader.value
  | 7 => scaleGain g m.caller2.fader.value
  | k => if voiceFlags.getD k false then g else scaleGain g m.duck.value

/-- A term of the mix: an input's sample set and its effective gain. -/
structure Term where
  value : SampleSet
  gain : Nat
deriving DecidableEq, Repr

/-- The two exact sums (R55). -/
def mixSums (ts : List Term) : Int × Int :=
  ts.foldl
    (fun acc t => (acc.1 + t.value.1.toInt * (t.gain : Int), acc.2 + t.value.2.toInt * (t.gain : Int)))
    (0, 0)

/-- The programme sample set of the sums, and the number of its clamped samples (R55). -/
def programmeOf (acc : Int × Int) : SampleSet × Nat :=
  let l := roundMix acc.1
  let r := roundMix acc.2
  ((saturate l, saturate r), (if clamps l then 1 else 0) + (if clamps r then 1 else 0))

/-- The mix-minus sample of a caller with the given term, and whether it was clamped (R56). -/
def mixMinusOf (acc : Int × Int) (term : Int) : Sample × Bool :=
  let x := roundMinus ((acc.1 - term) + (acc.2 - term))
  (saturate x, clamps x)

/-! ## Values after reset (R63) -/

/-- The mixer with the scene defaults of a configuration record. -/
def Mixer.ofSettings (c : Settings) : Mixer :=
  { Mixer.reset with bank0 := c.bank0, bank1 := c.bank1, gains := c.bank0.gains.map Ramp.settled }

/-- The mixer after a soft restart: the mix-minus clip totals stay. -/
def Mixer.soft (m : Mixer) (c : Settings) : Mixer :=
  { Mixer.ofSettings c with
    mmClips1 := m.mmClips1, mmClips2 := m.mmClips2, programme := m.programme,
    mixMinus1 := m.mixMinus1, mixMinus2 := m.mixMinus2 }

/-! ## Status (R62) -/

/-- The mixer section of the PLAYER record. -/
def Node.mixerSection (n : Node) : MixerSection :=
  let m := n.mixer
  { live := m.live, swap := m.swap.map (fun s => (s.len, s.remaining)), bank0 := m.bank0,
    bank1 := m.bank1, gains := m.gains.map Ramp.view, playerFaders := [m.faderA.view, m.faderB.view],
    callerFaders := [m.caller1.fader.view, m.caller2.fader.view],
    callers := [(m.caller1.state, m.caller1.source), (m.caller2.state, m.caller2.source)],
    duckOn := m.duckOn, duck := m.duck.view, mmClips := [m.mmClips1, m.mmClips2],
    voiceFlags := n.cfg.voiceFlags, meters := n.meterViews,
    silenceThreshold := n.cfg.silenceThreshold, silenceTime := n.cfg.silenceTime,
    overloadThreshold := n.cfg.overloadThreshold }

end Sys2Proof.Machine
end

