-- ==== Sys2Proof/Machine/Cue.lean ====
section
/-! DEFINITION. The cue engine (chapter 5): the cue list, the players, segues, pauses. Player B is
named by `true`, player A by `false`. -/

namespace Sys2Proof.Machine

/-! ## Players -/

def Cue.player (c : Cue) (b : Bool) : Player := if b then c.b else c.a

def Cue.setPlayer (c : Cue) (b : Bool) (p : Player) : Cue :=
  if b then { c with b := p } else { c with a := p }

/-- The player of the part, and the player replaced. -/
def Node.player (n : Node) (b : Bool) : Player := n.cue.player b

def setPlayer (b : Bool) (p : Player) (n : Node) : Node := { n with cue := n.cue.setPlayer b p }

/-- A player's fader, and the fader replaced. -/
def Node.fader (n : Node) (b : Bool) : Ramp := if b then n.mixer.faderB else n.mixer.faderA

def setFader (b : Bool) (r : Ramp) (n : Node) : Node :=
  { n with mixer := if b then { n.mixer with faderB := r } else { n.mixer with faderA := r } }

def mapCueCounters (f : CueCounters → CueCounters) (n : Node) : Node :=
  { n with cue := { n.cue with counters := f n.cue.counters } }

/-- A step applied to player A, then to player B. -/
def eachPlayer (f : Bool → Node → Node) (n : Node) : Node := f true (f false n)

/-- The item is a clip. -/
def CueEntry.isClip (e : CueEntry) : Bool :=
  match e.source with
  | .clip _ => true
  | .stream .. => false

/-- The player's item is a clip. -/
def Player.playsClip (p : Player) : Bool :=
  match p.item with
  | some e => e.isClip
  | none => false

/-- The player's item has chain AUTO. -/
def Player.auto (p : Player) : Bool :=
  match p.item with
  | some e => e.auto
  | none => false

/-- The player's item has PAUSABLE set. -/
def Player.pausable (p : Player) : Bool :=
  match p.item with
  | some e => e.pausable
  | none => false

/-- The player gives its item's audio (section 5.2). -/
def Player.sounding (p : Player) : Bool :=
  match p.state with
  | .playing => true
  | .stopping => true
  | .paused => !p.held
  | _ => false

/-- The cue id of the player's item. -/
def Player.cueId (p : Player) : Nat :=
  match p.item with
  | some e => e.id
  | none => 0

/-- The start offset of the player's item. -/
def Player.startOffset (p : Player) : Nat :=
  match p.item with
  | some e => e.startOffset
  | none => 0

/-! ## The cue list (R83 to R86) -/

/-- Whether a player that is not IDLE holds a cue id. -/
def Node.playerHolds (n : Node) (id : Nat) : Bool :=
  let h (p : Player) : Bool := decide (p.state ≠ .idle) && decide (p.cueId = id)
  h n.cue.a || h n.cue.b

/-- The reference of an entry released. -/
def releaseEntry (e : CueEntry) (n : Node) : Node :=
  match e.source with
  | .clip c => releaseClip c n
  | .stream .. => n

/-- CUE_ADD at its owner (R84). -/
def ownCueAdd (a : List Byte) (n : Node) : Reply :=
  let e := cueOfArgs a
  if !cueFieldsGood n.cfg.number a then .refuse .badField n
  else if 32 ≤ n.cue.list.length then .refuse .full n
  else if n.cue.list.any (fun x => decide (x.id = e.id)) || n.playerHolds e.id then .refuse .badField n
  else
    let done (m : Node) : Reply :=
      let list := m.cue.list ++ [e]
      .ok (.cueAdded e.id list.length) { m with cue := { m.cue with list := list } }
    match e.source with
    | .stream .. => done n
    | .clip c =>
      match n.store.acquire c with
      | none => .refuse .notReady n
      | some s =>
        if (n.store.clip c).length ≤ e.startOffset then .refuse .badField n
        else done { n with store := s }

/-- CUE_REMOVE at its owner (R85). -/
def ownCueRemove (a : List Byte) (n : Node) : Reply :=
  let id := byteAt a 0
  match n.cue.list.find? (fun e => decide (e.id = id)) with
  | some e =>
    .ok .none
      (releaseEntry e
        { n with cue := { n.cue with list := n.cue.list.filter (fun x => decide (x.id ≠ id)) } })
  | none => if n.playerHolds id then .refuse .inUse n else .refuse .notFound n

/-- CUE_CLEAR at its owner (R86). -/
def ownCueClear (n : Node) : Reply :=
  let m := n.cue.list.foldl (fun x e => releaseEntry e x) n
  .ok (.cueCleared n.cue.list.length) { m with cue := { m.cue with list := [] } }

/-! ## PLAY (R90) -/

/-- A player waiting for a start or resume at the next boundary. -/
def Player.mark (p : Player) : Player := { p with pending := true }

/-- The player that arming would take (R89): the IDLE one, or the one the preference names. -/
def Cue.armTarget (c : Cue) : Option Bool :=
  if c.a.state = .armed ∨ c.b.state = .armed then none
  else if c.a.state = .idle ∧ c.b.state = .idle then some c.preferB
  else if c.a.state = .idle then some false
  else if c.b.state = .idle then some true
  else none

/-- Neither player can take a start. -/
def Player.busy (p : Player) : Bool := decide (p.state = .playing) || decide (p.state = .stopping)

/-- PLAY decided (R90). -/
def decidePlay (n : Node) : Reply :=
  let c := n.cue
  let named (st : PlayerState) : List (Bool × Nat) :=
    (if c.a.state = st then [(false, c.a.cueId)] else []) ++
      (if c.b.state = st then [(true, c.b.cueId)] else [])
  let markAll (st : PlayerState) : Node :=
    { n with
      cue :=
        { c with
          a := if c.a.state = st then c.a.mark else c.a,
          b := if c.b.state = st then c.b.mark else c.b } }
  if c.a.state = .paused ∨ c.b.state = .paused then .ok (.players (named .paused)) (markAll .paused)
  else if c.a.state = .armed ∨ c.b.state = .armed then .ok (.players (named .armed)) (markAll .armed)
  else
    match c.armTarget, c.list with
    | some b, e :: _ => .ok (.players [(b, e.id)]) { n with cue := { c with armStart := true } }
    | _, _ => if c.a.busy && c.b.busy then .refuse .busy n else .refuse .notFound n

/-! ## Ending an item -/

/-- The item's reference or listen entry released. -/
def releaseItem (p : Player) (n : Node) : Node :=
  match p.item with
  | some e =>
    match e.source with
    | .clip c => releaseClip c n
    | .stream .. => removeListen? p.entry n
  | none => n

/-- A player IDLE after an item, with its last end reason. -/
def Player.ended (p : Player) (k : EndKind) : Player :=
  { Player.reset with lastEnd := some (k, p.cueId) }

/-- An item ends with a reason (R96, R97, R98, R99). -/
def endItem (b : Bool) (k : EndKind) (n : Node) : Node :=
  let p := n.player b
  setPlayer b (p.ended k) (releaseItem p n)

def countStopped (n : Node) : Node :=
  mapCueCounters (fun c => { c with stopped := satInc c.stopped }) n

/-! ## STOP (R98) -/

/-- The STOP's effect on one player, and whether it changed its state. A resume ramp counts as over, in the flag
that the PLAYER record shows, from the STOP on, the model's choice (log 17). -/
def stopPlayer (b : Bool) (n : Node) : Node × Bool :=
  let p := n.player b
  let release : Node × Bool := (countStopped (endItem b .stopped n), true)
  let fade : Node × Bool :=
    let len :=
      match p.item with
      | some e => max 1 e.fadeOut
      | none => 1
    (setFader b ((n.fader b).give 0 len)
      (setPlayer b { p with state := .stopping, pending := false, wake := false, resumeRamp := false } n),
      true)
  match p.state with
  | .idle => (n, false)
  | .armed => release
  | .playing => fade
  | .paused => if p.held then release else fade
  | .stopping => (n, false)

/-- The STOP of both players (R98). -/
def stopBoth (n : Node) : Node × Bool :=
  let r1 := stopPlayer false n
  let r2 := stopPlayer true r1.1
  ({ r2.1 with cue := { r2.1.cue with countdown := none } }, r1.2 || r2.2 || n.cue.countdown.isSome)

/-- The answer of a STOP. -/
def stopReply (r : Node × Bool) : Reply := if r.2 then .ok .none r.1 else .refuse .notFound r.1

/-- STOP at its owner. -/
def ownStop (a : List Byte) (n : Node) : Reply :=
  match byteAt a 0 with
  | 0 => stopReply (stopPlayer false n)
  | 1 => stopReply (stopPlayer true n)
  | 2 => stopReply (stopBoth n)
  | _ => .refuse .badField n

/-! ## Reports of the air unit (R100) -/

/-- A player that pauses (R101). -/
def Player.pause (p : Player) : Player :=
  { p with
    state := .paused, held := false, saved := none, resumeRamp := false, fadeOutBegun := false,
    order := some .pause }

/-- The report waiting takes effect. -/
def cueReports (n : Node) : Node :=
  let c := { n.cue with standing := none }
  match n.cue.standing with
  | none => n
  | some .offAir => { n with cue := { c with heldFlag := false } }
  | some .holding =>
    let wake (p : Player) : Player := if p.state = .paused then { p with wake := true } else p
    { n with cue := { c with heldFlag := false, a := wake c.a, b := wake c.b } }
  | some .preempted =>
    let stop (p : Player) : Player := if p.state = .playing ∧ p.pausable then p.pause else p
    { n with cue := { c with heldFlag := true, a := stop c.a, b := stop c.b } }

/-! ## Step 1 (R88) -/

/-- The item block count advances; the reading position of a clip stands at the start offset plus 48
for each block (R101). -/
def Player.countBlock (p : Player) : Player :=
  if p.sounding then
    let k := p.count + 1
    { p with
      count := k, readPos := if p.playsClip then p.startOffset + Config.blockSets * k else p.readPos }
  else p

def cueCounts (n : Node) : Node :=
  { n with cue := { n.cue with a := n.cue.a.countBlock, b := n.cue.b.countBlock } }

/-- A running countdown above 0 is lowered, unless it is held (R95). The lowering stands before the
endings of step 2, so that a countdown set at a boundary is not lowered at it. -/
def countdownLower (n : Node) : Node :=
  if n.cue.heldFlag then n
  else { n with cue := { n.cue with countdown := n.cue.countdown.map (fun k => k - 1) } }

/-! ## Step 2: endings (R96, R97, R99, R101) -/

/-- The natural end of a clip item is due. -/
def Player.naturalEnd (p : Player) : Bool :=
  p.playsClip && p.sounding && decide (p.blocks ≤ p.count)

/-- The natural end of one player's item (R96). -/
def naturalEnd (b : Bool) (n : Node) : Node :=
  let p := n.player b
  if p.naturalEnd then
    let stopped := decide (p.state = .stopping)
    let m := setFader b (.settled 0) (endItem b (if stopped then .stopped else .complete) n)
    let counted :=
      if stopped then countStopped m
      else mapCueCounters (fun c => { c with completed := satInc c.completed }) m
    if !stopped && p.auto && !p.segueTaken then
      { counted with cue := { counted.cue with countdown := some (p.segueBlock - p.blocks) } }
    else counted
  else n

def Node.naturalEndDue (n : Node) : Bool := n.cue.a.naturalEnd || n.cue.b.naturalEnd

/-- The natural ends of a boundary. Where both players come to theirs with AUTO and the segue not taken, A is
handled before B, so that the countdown takes B's count, the model's choice (log 17). -/
def naturalEnds (n : Node) : Node := eachPlayer naturalEnd n

/-- The report of an ITEM slot's ending (R37), for either reason, kept for step 2. -/
def itemSlotEnded (r : SlotReport) (n : Node) : Node :=
  let see (p : Player) : Player :=
    if p.state ≠ .idle ∧ p.entry = some r.entry then { p with slotEnded := true } else p
  { n with cue := { n.cue with a := see n.cue.a, b := see n.cue.b } }

/-- The end of one player's stream item (R97). -/
def streamItemEnd (b : Bool) (n : Node) : Node :=
  let p := n.player b
  if p.slotEnded then
    let stopped := decide (p.state = .stopping)
    let m := setFader b (.settled 0) (endItem b (if stopped then .stopped else .streamEnded) n)
    let counted :=
      if stopped then countStopped m
      else mapCueCounters (fun c => { c with streamEnds := satInc c.streamEnds }) m
    if decide (p.state = .playing) && p.auto then
      { counted with cue := { counted.cue with streamStarts := counted.cue.streamStarts + 1 } }
    else counted
  else n

def streamItemEnds (n : Node) : Node := eachPlayer streamItemEnd n

/-- The mixer's report of a fader at its target (R50), taken by one player (R99, R101). -/
def faderReport (b : Bool) (n : Node) : Node :=
  let r := n.fader b
  if r.ended then
    let p := n.player b
    let m := setFader b r.reported n
    match p.state with
    | .stopping => if r.target = 0 then countStopped (endItem b .stopped m) else m
    | .paused =>
      if r.target = 0 ∧ p.held = false ∧ p.order = none then
        setPlayer b { p with held := true, saved := if p.playsClip then some p.readPos else none } m
      else m
    | _ => setPlayer b { p with resumeRamp := false } m
  else n

/-- A player fader has reached its target. -/
def Node.faderDue (n : Node) : Bool := n.mixer.faderA.ended || n.mixer.faderB.ended

def faderReports (n : Node) : Node := eachPlayer faderReport n

/-! ## Step 3: arming (R89) -/

/-- A player armed with an entry. -/
def Player.armWith (p : Player) (e : CueEntry) (entry : Option Nat) (pending : Bool) : Player :=
  { Player.reset with
    state := .armed, item := some e, entry := entry, pending := pending, lastEnd := p.lastEnd }

/-- The arming of a boundary, with the start that PLAY left pending under order 3. -/
def cueArm (n0 : Node) : Node :=
  let start := n0.cue.armStart
  let n := { n0 with cue := { n0.cue with armStart := false } }
  match n.cue.armTarget, n.cue.list with
  | some b, e :: rest =>
    let m := { n with cue := { n.cue with list := rest } }
    match e.source with
    | .clip _ => setPlayer b ((m.player b).armWith e none start) m
    | .stream station index =>
      match addListen station index .item m with
      | (.added i, x) => setPlayer b ((x.player b).armWith e (some i) start) x
      | (.refused _, x) =>
        mapCueCounters (fun c => { c with noSlot := satInc c.noSlot })
          (setPlayer b { x.player b with lastEnd := some (.noSlot, e.id) } x)
  | _, _ => n

/-! ## Step 4: starts and resumes (R91, R94, R95, R97, R102) -/

/-- Blocks of a clip item (R92). -/
def itemBlocks (length startOffset : Nat) : Nat := ceilDiv (length - startOffset) Config.blockSets

/-- The segue block (R94). -/
def segueBlockOf (blocks : Nat) (displacement : Int) : Nat :=
  max 1 ((blocks : Int) + displacement).toNat

/-- A player that starts (R91): one started paused, of a clip or of a stream item, has its position saved at
the start offset. -/
def Player.started (p : Player) (blocks segueBlock : Nat) (paused : Bool) : Player :=
  { p with
    state := if paused then .paused else .playing, blocks := blocks, segueBlock := segueBlock,
    readPos := p.startOffset, count := 0, segueTaken := false, fadeOutBegun := false,
    resumeRamp := false, saved := if paused then some p.startOffset else none,
    held := paused, pending := false, wake := false, order := if paused then none else some .start }

/-- The start of a player; `byPlay` where PLAY makes it. -/
def startPlayer (b : Bool) (byPlay : Bool) (n : Node) : Node :=
  let p := n.player b
  let blocks :=
    match p.item with
    | some { source := .clip c, startOffset := o, .. } => itemBlocks (n.store.clip c).length o
    | _ => 0
  let segue :=
    match p.item with
    | some e => if e.isClip then segueBlockOf blocks e.segue else 0
    | none => 0
  let paused := !byPlay && !p.pending && n.cue.heldFlag && p.pausable
  let m := setPlayer b (p.started blocks segue paused) n
  mapCueCounters (fun c => { c with started := satInc c.started })
    { m with cue := { m.cue with preferB := !b } }

/-- The ARMED player. -/
def Cue.armedPlayer (c : Cue) : Option Bool :=
  if c.a.state = .armed then some false else if c.b.state = .armed then some true else none

/-- The ARMED player starts, a segue taken; with none ARMED a segue is missed (R94, R95, R97). -/
def takeSegue (n : Node) : Node :=
  match n.cue.armedPlayer with
  | some b => mapCueCounters (fun c => { c with seguesTaken := satInc c.seguesTaken }) (startPlayer b false n)
  | none => mapCueCounters (fun c => { c with seguesMissed := satInc c.seguesMissed }) n

/-- A PAUSED player resumes (R102); its saved position is none from then on, the model's choice (log 17). -/
def Player.resume (p : Player) : Player :=
  if p.state = .paused ∧ (p.pending ∨ p.wake) then
    { p with
      state := .playing, readPos := p.saved.getD p.readPos, saved := none, held := false, pending := false,
      wake := false, resumeRamp := true, order := some .resume }
  else { p with wake := false }

/-- The resumes, then the starts after stream items that ended at step 2. -/
def cueResume (n : Node) : Node :=
  let m := { n with cue := { n.cue with a := n.cue.a.resume, b := n.cue.b.resume } }
  let k := m.cue.streamStarts
  Nat.repeat takeSegue k { m with cue := { m.cue with streamStarts := 0 } }

/-- A segue falls due (R94). -/
def Player.segueDue (p : Player) : Bool :=
  decide (p.state = .playing) && p.playsClip && p.auto && !p.segueTaken && decide (p.segueBlock ≤ p.count)

def segueTake (b : Bool) (n : Node) : Node :=
  let p := n.player b
  if p.segueDue then takeSegue (setPlayer b { p with segueTaken := true } n) else n

def Node.segueDue (n : Node) : Bool := n.cue.a.segueDue || n.cue.b.segueDue

def seguesTake (n : Node) : Node := eachPlayer segueTake n

/-- A running countdown at 0 that is not held (R95). -/
def Node.countdownDue (n : Node) : Bool := decide (n.cue.countdown = some 0) && !n.cue.heldFlag

/-- The segue countdown completes (R95). It comes before the starts that PLAY left pending (playStarts), so that
one at 0 completes, and counts its segue, at the boundary at which PLAY starts the same ARMED player, the model's
choice (log 17). -/
def countdownDone (n : Node) : Node :=
  takeSegue { n with cue := { n.cue with countdown := none } }

/-- The start that PLAY left pending for one player. It stops the countdown with its count given up, the model's
choice (log 17). Where a segue has made the start at this boundary, a countdown that runs goes on, the model's
reading (log 17). -/
def playStart (b : Bool) (n : Node) : Node :=
  let p := n.player b
  if p.pending then
    if p.state = .armed then
      let m := startPlayer b true n
      { m with cue := { m.cue with countdown := none } }
    else setPlayer b { p with pending := false } n
  else n

def playStarts (n : Node) : Node := eachPlayer playStart n

/-! ## Step 5: fader targets (R91, R93, R101, R102) -/

/-- The blocks remaining of a clip item. -/
def Player.remaining (p : Player) : Nat := p.blocks - p.count

/-- The fade-out length of the player's item. -/
def Player.fadeOut (p : Player) : Nat :=
  match p.item with
  | some e => e.fadeOut
  | none => 0

/-- The fade-out begins (R93). -/
def Player.fadeOutDue (p : Player) : Bool :=
  decide (p.state = .playing) && p.playsClip && decide (0 < p.fadeOut) && !p.fadeOutBegun &&
    !p.resumeRamp && decide (p.remaining ≤ p.fadeOut)

/-- The fader target that step 5 gives for a start, a pause or a resume. A fade-in is not given where
the fade-out begins at the same boundary. -/
def faderTarget (b : Bool) (n : Node) : Node :=
  let p := n.player b
  let level :=
    match p.item with
    | some e => e.level
    | none => 0
  let fadeIn :=
    match p.item with
    | some e => e.fadeIn
    | none => 0
  let give (t len : Nat) : Node :=
    setFader b ((n.fader b).retarget t len) (setPlayer b { p with order := none } n)
  match p.order with
  | none => n
  | some .start => if p.fadeOutDue then setPlayer b { p with order := none } n else give level fadeIn
  | some .pause => if p.state = .paused then give 0 5 else setPlayer b { p with order := none } n
  | some .resume => give level 5

def faderTargets (n : Node) : Node := eachPlayer faderTarget n

/-- The start of one player's fade-out. -/
def fadeOutStart (b : Bool) (n : Node) : Node :=
  let p := n.player b
  if p.fadeOutDue then
    setFader b ((n.fader b).retarget 0 p.remaining) (setPlayer b { p with fadeOutBegun := true } n)
  else n

def Node.fadeOutDue (n : Node) : Bool := n.cue.a.fadeOutDue || n.cue.b.fadeOutDue

def fadeOutStarts (n : Node) : Node := eachPlayer fadeOutStart n

/-! ## Values after reset (R106) -/

/-- The cue engine after a soft restart. -/
def Cue.soft (c : Cue) : Cue :=
  { Cue.reset with
    a := { Player.reset with lastEnd := c.a.lastEnd }, b := { Player.reset with lastEnd := c.b.lastEnd },
    counters := c.counters }

end Sys2Proof.Machine
end

