-- ==== Sys2Proof/Machine/Phone.lean ====
section
/-! DEFINITION. Phone-in lines (chapter 7): the phone unit of a PHONE station and the take path of a
STUDIO station. -/

namespace Sys2Proof.Machine

/-! ## Take records (section 7.7) -/

/-- The take record of a caller channel, 1 or 2. -/
def TakePath.channel (t : TakePath) (ch : Nat) : TakeRecord := if ch = 1 then t.ch1 else t.ch2

def TakePath.setChannel (t : TakePath) (ch : Nat) (r : TakeRecord) : TakePath :=
  if ch = 1 then { t with ch1 := r } else { t with ch2 := r }

def Node.takeRec (n : Node) (ch : Nat) : TakeRecord := n.take.channel ch

def setTake (ch : Nat) (r : TakeRecord) (n : Node) : Node := { n with take := n.take.setChannel ch r }

def mapTakeCounters (f : TakeCounters → TakeCounters) (n : Node) : Node :=
  { n with take := { n.take with counters := f n.take.counters } }

/-- The mix-minus index of a caller channel. -/
def mixMinusIndex (ch : Nat) : Nat := ch + 5

/-- Release complete reported (R147): the CALLER entry removed, the channel FREE. -/
def releaseComplete (ch : Nat) (n : Node) : Node :=
  if (n.takeRec ch).state = .releasing then
    setTake ch .reset (removeListen? (n.takeRec ch).entry n)
  else n

/-- The release of an ON_AIR channel (R147). -/
def releaseChannel (ch : Nat) (n : Node) : Node :=
  let r := n.takeRec ch
  if r.state = .onAir then
    let m := releaseCaller ch n
    let x :=
      mapTakeCounters (fun c => { c with releases := satInc c.releases })
        (setTake ch { r with state := .releasing } (stopOut (mixMinusIndex ch) m.1))
    if m.2 then releaseComplete ch x else x
  else n

/-- The local take path is told that a line assigned to LOCAL has left the air. -/
def localLineGone (line : Nat) (n : Node) : Node :=
  let gone (ch : Nat) (m : Node) : Node :=
    let r := m.takeRec ch
    if r.state = .onAir ∧ r.phone = some .own ∧ r.line = some line then releaseChannel ch m else m
  gone 2 (gone 1 n)

/-- The ends of caller releases (R52). -/
def Node.releaseDue (n : Node) : Bool := n.mixer.caller1.releaseOver || n.mixer.caller2.releaseOver

def callerReleases (n : Node) : Node :=
  let one (ch : Nat) (m : Node) : Node :=
    let c := m.mixer.caller ch
    if c.releaseOver then releaseComplete ch { m with mixer := m.mixer.setCaller ch c.released } else m
  one 2 (one 1 n)

/-! ## Lines and the caller queue (R133) -/

/-- The record of line 1 to 4. -/
def Phone.line (p : Phone) (i : Nat) : LineRecord := p.lines.getD (i - 1) .reset

def Node.lineRec (n : Node) (i : Nat) : LineRecord := n.phone.line i

def setLine (i : Nat) (l : LineRecord) (n : Node) : Node :=
  { n with phone := { n.phone with lines := n.phone.lines.set (i - 1) l } }

def mapPhoneCounters (f : PhoneCounters → PhoneCounters) (n : Node) : Node :=
  { n with phone := { n.phone with counters := f n.phone.counters } }

/-- The line numbers. -/
def lineNumbers : List Nat := [1, 2, 3, 4]

/-- Whether line i stands before line j in the queue: answered earlier, or at the same count with the
lower number. -/
def Phone.before (p : Phone) (i j : Nat) : Bool :=
  match (p.line i).answeredAt, (p.line j).answeredAt with
  | some a, some b => earlier a b || (decide (a = b) && decide (i < j))
  | _, _ => decide (i < j)

/-- A line number put in its place. -/
def Phone.insert (p : Phone) (i : Nat) : List Nat → List Nat
  | [] => [i]
  | j :: rest => if p.before i j then i :: j :: rest else j :: p.insert i rest

/-- A line joins the queue. -/
def joinQueue (i : Nat) (n : Node) : Node :=
  { n with phone := { n.phone with queue := n.phone.insert i n.phone.queue } }

/-- A line leaves the queue. -/
def leaveQueue (i : Nat) (n : Node) : Node :=
  { n with phone := { n.phone with queue := n.phone.queue.filter (fun j => decide (j ≠ i)) } }

/-! ## The hold feed (R135) -/

/-- An ONAIR entry is needed. -/
def Node.holdNeeded (n : Node) : Bool :=
  n.cfg.roles.phone && !n.phone.queue.isEmpty && !n.cfg.roles.link && n.bus.linkStation.isSome

/-- The ONAIR entry removed. -/
def dropHold (n : Node) : Node :=
  let m := removeListen? n.phone.holdEntry n
  { m with phone := { m.phone with holdEntry := none } }

/-- The add of an ONAIR entry for the link station's index 5. -/
def addHold (n : Node) : Node :=
  match addListen (n.bus.linkStation.getD 0) 5 .onair n with
  | (.added i, m) => { m with phone := { m.phone with holdEntry := some i } }
  | (.refused _, m) => mapPhoneCounters (fun c => { c with holdFeedRefusals := satInc c.holdFeedRefusals }) m

/-- The hold feed judged. -/
def judgeHoldFeed (n : Node) : Node :=
  match n.phone.holdEntry with
  | none => if n.holdNeeded then addHold n else n
  | some i =>
    if !n.holdNeeded then dropHold n
    else if some (n.streams.entry i).station = n.bus.linkStation then n
    else addHold (dropHold n)

/-! ## Clearing and returning a line (R132, R139) -/

/-- The bus side of a line that leaves the air: its caller stream stopped, its MIXMINUS entry removed;
or the local take path told. -/
def leaveAir (i : Nat) (l : LineRecord) (n : Node) : Node :=
  match l.studio with
  | some (.station _) => removeListen? l.mmEntry (stopOut i n)
  | some .own => localLineGone i n
  | none => n

/-- A line cleared (R132). The counts of absence stay as they stood. -/
def clearLine (i : Nat) (why : ClearReason) (n : Node) : Node :=
  let l := n.lineRec i
  let cleared : LineRecord :=
    { LineRecord.reset with ringAbsent := l.ringAbsent, loopAbsent := l.loopAbsent, lastClear := why }
  let m := leaveQueue i (setLine i cleared n)
  judgeHoldFeed (if l.state = .onAir then leaveAir i l m else m)

/-- An ON_AIR line returns to HELD (R139); the caller is heard on hold from the next block boundary. -/
def returnHeld (i : Nat) (n : Node) : Node :=
  let l := n.lineRec i
  let held : LineRecord :=
    { l with
      state := .held, studio := none, mmIndex := none, mmEntry := none, watch := none, holdLater := true }
  judgeHoldFeed (joinQueue i (leaveAir i l (setLine i held n)))

/-! ## Answering (R131) -/

/-- A line answered, with the counter that advances. -/
def answerLine (i : Nat) (count : PhoneCounters → PhoneCounters) (n : Node) : Node :=
  let l := n.lineRec i
  let answered : LineRecord :=
    { l with
      state := .queued, seized := true, answeredAt := some n.phone.blockCount, loopAbsent := 0,
      screened := false, label := [], rangAt := none }
  judgeHoldFeed (mapPhoneCounters count (joinQueue i (setLine i answered n)))

/-- Whether line i has rung longer than line j: the two values compared as arrival numbers are (R110), the
model's reading (log 19). -/
def Phone.rangBefore (p : Phone) (i j : Nat) : Bool :=
  match (p.line i).rangAt, (p.line j).rangAt with
  | some a, some b => earlier a b
  | _, _ => false

/-- The RINGING line with the earliest rang-at, the lowest number among equals. -/
def Phone.nextRinging (p : Phone) : Option Nat :=
  (lineNumbers.filter (fun i => decide ((p.line i).state = .ringing))).foldl
    (fun best i =>
      match best with
      | none => some i
      | some j => if p.rangBefore i j then some i else some j)
    none

/-- CALL_ANSWER decided for an argument, 0 for NEXT (R131). -/
def decideAnswer (arg : Nat) (n : Node) : Reply :=
  if 4 < arg then .refuse .badField n
  else
    match (if arg = 0 then n.phone.nextRinging else some arg) with
    | none => .refuse .notFound n
    | some i =>
      if (n.lineRec i).state = .ringing then
        .ok (.lineAnswered i) (answerLine i (fun c => { c with answers := satInc c.answers }) n)
      else .refuse .notReady n

def ownCallAnswer (a : List Byte) (n : Node) : Reply := decideAnswer (byteAt a 0) n

/-! ## Screening (R134) -/

def ownCallScreen (a : List Byte) (n : Node) : Reply :=
  let i := byteAt a 0
  let len := byteAt a 2
  if i = 0 ∨ 4 < i ∨ 1 < byteAt a 1 ∨ 16 < len ∨ a.length ≠ 3 + len then .refuse .badField n
  else
    let l := n.lineRec i
    if l.state = .idle ∨ l.state = .ringing then .refuse .notReady n
    else .ok .none (setLine i { l with screened := decide (byteAt a 1 = 1), label := a.drop 3 } n)

/-! ## Taking (R136, R137) -/

/-- The line that NEXT names: the first screened one of the queue, or its front. -/
def Phone.nextCaller (p : Phone) : Option Nat :=
  match p.queue.find? (fun i => (p.line i).screened) with
  | some i => some i
  | none => p.queue.head?

/-- The data of an OK. -/
def takenData (i : Nat) (l : LineRecord) : ResultData := .taken i l.screened l.label

/-- A take accepted (R137), with its MIXMINUS entry where the requester is across the bus. -/
def makeTake (i : Nat) (who : Party) (index : Nat) (entry : Option Nat) (n : Node) : Node :=
  let across : Bool :=
    match who with
    | .station _ => true
    | .own => false
  let l : LineRecord :=
    { n.lineRec i with
      state := .onAir, studio := some who, mmIndex := some index, mmEntry := entry, holdLater := false,
      watch := if across then some { age := 0, met := false } else none }
  let m := leaveQueue i (setLine i l n)
  judgeHoldFeed
    (mapPhoneCounters (fun c => { c with takes := satInc c.takes }) (if across then startOut i 0 m else m))

/-- A line number is ON_AIR for a requester with an index. -/
def Phone.servedOn (p : Phone) (i : Nat) (who : Party) (index : Nat) : Bool :=
  decide ((p.line i).state = .onAir) && decide ((p.line i).studio = some who) &&
    decide ((p.line i).mmIndex = some index)

/-- Checks 3 to 9 of R136 for a line. -/
def takeLine (i : Nat) (who : Party) (index : Nat) (n : Node) : Reply :=
  let l := n.lineRec i
  let no (r : Result) (m : Node) : Reply :=
    .refuse r (mapPhoneCounters (fun c => { c with takesRefused := satInc c.takesRefused }) m)
  if l.state = .onAir then
    if l.studio ≠ some who then no .takenElsewhere n
    else if l.mmIndex = some index then .ok (takenData i l) n
    else no .inUse n
  else if l.state = .idle ∨ l.state = .ringing then no .notReady n
  else if lineNumbers.any (fun j => decide (j ≠ i) && n.phone.servedOn j who index) then no .inUse n
  else
    match who with
    | .own => .ok (takenData i l) (makeTake i who index none n)
    | .station s =>
      match addListen s index .mixminus n with
      | (.added k, m) => .ok (takenData i l) (makeTake i who index (some k) m)
      | (.refused _, m) => no .full m

/-- CALL_TAKE decided for a requester (R136). -/
def decideTake (who : Party) (line index : Nat) (n : Node) : Reply :=
  let no (r : Result) : Reply :=
    .refuse r (mapPhoneCounters (fun c => { c with takesRefused := satInc c.takesRefused }) n)
  if 4 < line ∨ (index ≠ 6 ∧ index ≠ 7) then no .badField
  else
    match (if line = 0 then n.phone.nextCaller else some line) with
    | none => no .notFound
    | some i => takeLine i who index n

def ownCallTake (src : Nat) (a : List Byte) (n : Node) : Reply :=
  decideTake (.station src) (byteAt a 0) (byteAt a 1) n

/-! ## Hold and drop (R140, R141) -/

/-- CALL_HOLD decided for a source; a line number of 0 names no line and is answered like an IDLE one. -/
def decideHold (who : Party) (line : Nat) (n : Node) : Reply :=
  if 4 < line then .refuse .badField n
  else if line = 0 ∨ (n.lineRec line).state ≠ .onAir then .refuse .notReady n
  else if (n.lineRec line).studio ≠ some who then .refuse .inUse n
  else
    .ok .none (mapPhoneCounters (fun c => { c with holds := satInc c.holds }) (returnHeld line n))

def ownCallHold (src : Nat) (a : List Byte) (n : Node) : Reply := decideHold (.station src) (byteAt a 0) n

/-- CALL_DROP decided; a line number of 0 names no line and is answered like an IDLE one. -/
def decideDrop (line : Nat) (n : Node) : Reply :=
  if 4 < line then .refuse .badField n
  else if line = 0 ∨ (n.lineRec line).state = .idle then .refuse .notFound n
  else
    .ok .none (mapPhoneCounters (fun c => { c with drops := satInc c.drops }) (clearLine line .dropped n))

def ownCallDrop (a : List Byte) (n : Node) : Reply := decideDrop (byteAt a 0) n

/-! ## Absence of a studio (R142) and reports of slots (R139, R147) -/

/-- The lines for which a test holds, each handled in turn by number. -/
def eachLine (p : Node → Nat → Bool) (f : Nat → Node → Node) (n : Node) : Node :=
  lineNumbers.foldl (fun m i => if p m i then f i m else m) n

/-- The bus unit reports a studio absent (R142): its lines return to HELD in the order of their numbers, the
model's choice (log 24). -/
def studioAbsent (station : Nat) (n : Node) : Node :=
  eachLine
    (fun m i =>
      decide ((m.lineRec i).state = .onAir) && decide ((m.lineRec i).studio = some (.station station)))
    (fun i m =>
      mapPhoneCounters (fun c => { c with studioLosses := satInc c.studioLosses }) (returnHeld i m))
    n

/-- A MIXMINUS slot has ENDED, for either reason (R139). -/
def mixMinusSlotEnded (r : SlotReport) (n : Node) : Node :=
  eachLine
    (fun m i => decide ((m.lineRec i).state = .onAir) && decide ((m.lineRec i).mmEntry = some r.entry))
    (fun i m =>
      mapPhoneCounters (fun c => { c with mixMinusLosses := satInc c.mixMinusLosses }) (returnHeld i m))
    n

/-- A CALLER slot has ENDED, for either reason (R147). -/
def callerSlotEnded (r : SlotReport) (n : Node) : Node :=
  let one (ch : Nat) (m : Node) : Node :=
    if (m.takeRec ch).entry = some r.entry then releaseChannel ch m else m
  one 2 (one 1 n)

/-! ## The phone unit at a boundary (R130, R132, R138) -/

/-- The level of a list of pins at number i, 1 to 4. -/
def pinAt (ps : List Bool) (i : Nat) : Bool := ps.getD (i - 1) false

/-- A count of absence: 0 where present, else one more, up to its end. -/
def absentCount (present : Bool) (c top : Nat) : Nat := if present then 0 else min (c + 1) top

/-- The counts of one line. -/
def LineRecord.count (l : LineRecord) (ring loop : Bool) : LineRecord :=
  match l.state with
  | .idle => l
  | .ringing => { l with ringAbsent := absentCount ring l.ringAbsent 6000 }
  | _ => { l with loopAbsent := absentCount loop l.loopAbsent 20 }

/-- Callers that returned to HELD are heard on hold from here on (R139). -/
def openHoldFeed (n : Node) : Node :=
  { n with
    phone := { n.phone with lines := n.phone.lines.map (fun l => { l with holdLater := false }) } }

/-- The block count and the counts of the four lines. -/
def phoneCounts (n : Node) : Node :=
  let p := { n.phone with blockCount := n.phone.blockCount + 1 }
  { n with
    phone :=
      if n.cfg.roles.phone then
        { p with
          lines := lineNumbers.map (fun i => (p.line i).count (pinAt n.pins.ring i) (pinAt n.pins.loop i)) }
      else p }

/-- An IDLE line whose ring contact is present. -/
def Node.rings (n : Node) (i : Nat) : Bool :=
  n.cfg.roles.phone && decide ((n.lineRec i).state = .idle) && pinAt n.pins.ring i

/-- A line becomes RINGING, and is answered at once with auto-answer (R130, R131). -/
def ringStart (i : Nat) (n : Node) : Node :=
  let l : LineRecord :=
    { n.lineRec i with state := .ringing, rangAt := some n.phone.blockCount, ringAbsent := 0 }
  let m := mapPhoneCounters (fun c => { c with rings := satInc c.rings }) (setLine i l n)
  if n.cfg.autoAnswer then answerLine i (fun c => { c with autoAnswers := satInc c.autoAnswers }) m else m

def Node.ringDue (n : Node) : Bool := lineNumbers.any n.rings

def ringStarts (n : Node) : Node := eachLine Node.rings ringStart n

/-- A RINGING line whose caller has given up. -/
def Node.gaveUp (n : Node) (i : Nat) : Bool :=
  decide ((n.lineRec i).state = .ringing) && decide (6000 ≤ (n.lineRec i).ringAbsent)

def Node.giveUpDue (n : Node) : Bool := lineNumbers.any n.gaveUp

def giveUps (n : Node) : Node :=
  eachLine Node.gaveUp
    (fun i m =>
      mapPhoneCounters (fun c => { c with giveUps := satInc c.giveUps })
        (setLine i { m.lineRec i with state := .idle, rangAt := none, lastClear := .gaveUp } m))
    n

/-- A seized line without loop current for 20 boundaries. -/
def Node.hungUp (n : Node) (i : Nat) : Bool :=
  (n.lineRec i).seized && decide (20 ≤ (n.lineRec i).loopAbsent)

def Node.hangUpDue (n : Node) : Bool := lineNumbers.any n.hungUp

def hangUps (n : Node) : Node :=
  eachLine Node.hungUp
    (fun i m =>
      mapPhoneCounters (fun c => { c with hangUps := satInc c.hangUps }) (clearLine i .hungUp m))
    n

/-- The slot of an entry has received a block since it was added (R138). -/
def Node.slotHeard (n : Node) (entry : Option Nat) : Bool :=
  match entry with
  | some k =>
    let s := n.streams.slot k
    s.lastSeq.isSome || s.state.timed || decide (s.state = .ended)
  | none => false

/-- A watch at a boundary. -/
def Watch.step (w : Watch) (heard : Bool) : Watch :=
  if w.met then w else if heard then { w with met := true } else { w with age := w.age + 1 }

/-- A watch that has failed. -/
def Watch.expired (w : Watch) : Bool := !w.met && decide (200 ≤ w.age)

/-- A watch that is there and has failed. -/
def watchExpired (w : Option Watch) : Bool :=
  match w with
  | some x => x.expired
  | none => false

/-- The take-watches at a boundary. -/
def takeWatches (n : Node) : Node :=
  { n with
    phone :=
      { n.phone with
        lines := n.phone.lines.map (fun l => { l with watch := l.watch.map (fun w => w.step (n.slotHeard l.mmEntry)) }) } }

def Node.takeWatchFails (n : Node) (i : Nat) : Bool :=
  decide ((n.lineRec i).state = .onAir) && watchExpired (n.lineRec i).watch

def Node.takeWatchDue (n : Node) : Bool := lineNumbers.any n.takeWatchFails

def takeWatchExpiries (n : Node) : Node :=
  eachLine Node.takeWatchFails
    (fun i m =>
      mapPhoneCounters (fun c => { c with takeWatchExpiries := satInc c.takeWatchExpiries }) (returnHeld i m))
    n

/-- The caller-watches at a boundary (R145): that of a channel not ON_AIR, as while it is RELEASING, stands still,
the model's choice (log 19). -/
def callerWatches (n : Node) : Node :=
  let one (r : TakeRecord) : TakeRecord :=
    if r.state = .onAir then { r with watch := r.watch.map (fun w => w.step (n.slotHeard r.entry)) } else r
  { n with take := { n.take with ch1 := one n.take.ch1, ch2 := one n.take.ch2 } }

def TakeRecord.watchFails (r : TakeRecord) : Bool := decide (r.state = .onAir) && watchExpired r.watch

def Node.callerWatchDue (n : Node) : Bool := n.take.ch1.watchFails || n.take.ch2.watchFails

def callerWatchExpiries (n : Node) : Node :=
  let one (ch : Nat) (m : Node) : Node :=
    if (m.takeRec ch).watchFails then
      mapTakeCounters (fun c => { c with callerWatchExpiries := satInc c.callerWatchExpiries })
        (releaseChannel ch m)
    else m
  one 2 (one 1 n)

/-! ## Takes and drops of the studio (R143 to R147) -/

/-- A key refused by the take path. -/
def refuseTake (key : Nat) (r : Result) (n : Node) : Node :=
  refuse key r (mapTakeCounters (fun c => { c with keyRefused := satInc c.keyRefused }) n)

/-- The lower-numbered FREE channel. -/
def TakePath.freeChannel (t : TakePath) : Option Nat :=
  if t.ch1.state = .free then some 1 else if t.ch2.state = .free then some 2 else none

/-- Channels in TAKING. -/
def TakePath.taking (t : TakePath) : Nat :=
  (if t.ch1.state = .taking then 1 else 0) + (if t.ch2.state = .taking then 1 else 0)

/-- Listen entries that are not valid. -/
def Streams.freeEntries (t : Streams) : Nat := t.listen.countP (fun e => !e.valid)

/-- The configured phone station, where it is present. -/
def Node.phoneTarget (n : Node) : Option Nat :=
  if n.cfg.phoneStation ≠ 0 ∧ (n.bus.entry n.cfg.phoneStation).present then some n.cfg.phoneStation else none

/-- A local take (R143). -/
def localTake (ch key : Nat) (n : Node) : Node :=
  let r := decideTake .own 0 (mixMinusIndex ch) n
  match r.result, r.data with
  | .ok, .taken line _ _ =>
    activateCaller ch (.line line)
      (setTake ch { TakeRecord.reset with state := .onAir, phone := some .own, line := some line } r.node)
  | res, _ => refuseTake key res r.node

/-- A take across the bus (R144, steps 3 and 4). -/
def busTake (ch key : Nat) (n : Node) : Node :=
  match n.phoneTarget with
  | none => refuseTake key .notReady n
  | some s =>
    if n.streams.freeEntries < 1 + n.take.taking then refuseTake key .full n
    else
      match sendRequest 13 s [0, BitVec.ofNat 8 (mixMinusIndex ch)] (.take ch key) n with
      | (.sent tag, m) =>
        mapTakeCounters (fun c => { c with sent := satInc c.sent })
          (setTake ch
            { TakeRecord.reset with state := .taking, phone := some (.station s), tag := some tag } m)
      | (.dropped, m) => refuse key .full m
      | (.notSent, m) => m

/-- The TAKE_NEXT_CALLER key at a STUDIO station in RUN (R144). -/
def takeNext (key : Nat) (n : Node) : Node :=
  match n.take.freeChannel with
  | none => refuseTake key .full n
  | some ch => if n.cfg.roles.phone then localTake ch key n else busTake ch key n

/-- The answer to a pending CALL_TAKE (R145, R146). A line number that an OK answer does not carry is
free, and one outside 1 to 4 is used as it stands, the model's choice (log 5). -/
def takeAnswered (ch key src result : Nat) (data : List Byte) (n : Node) : Node :=
  let r := n.takeRec ch
  if r.state ≠ .taking then n
  else if result = 0 then
    let line :=
      match data with
      | b :: _ => b.toNat
      | [] => Config.unstatedAnswerLine n.fresh
    match addListen src line .caller { n with fresh := n.fresh + 1 } with
    | (.added i, m) =>
      startOut (mixMinusIndex ch) line
        (activateCaller ch (.entry i)
          (setTake ch
            { r with
              state := .onAir, line := some line, entry := some i, tag := none,
              watch := some { age := 0, met := false } } m))
    | (.refused _, m) =>
      mapTakeCounters (fun c => { c with abandoned := satInc c.abandoned }) (setTake ch .reset m)
  else
    refuseKey key (n.cfg.keyFn key) (.code result)
      (mapTakeCounters (fun c => { c with refusedByPhone := satInc c.refusedByPhone })
        (setTake ch .reset n))

/-- The timeout of a pending CALL_TAKE (R146). -/
def takeTimedOut (ch key : Nat) (n : Node) : Node :=
  if (n.takeRec ch).state ≠ .taking then n
  else
    refuseKey key (n.cfg.keyFn key) .timeout
      (mapTakeCounters (fun c => { c with timeouts := satInc c.timeouts }) (setTake ch .reset n))

/-- A DROP_CALLER key at a STUDIO station in RUN (R147). The result of a refusal in another channel
state is free (log 4). -/
def dropChannel (ch key : Nat) (n : Node) : Node :=
  let r := n.takeRec ch
  match r.state, r.phone with
  | .onAir, some .own => (decideDrop (r.line.getD 0) n).node
  | .onAir, some (.station s) =>
    match sendRequest 15 s [BitVec.ofNat 8 (r.line.getD 0)] (.drop ch key) n with
    | (.sent tag, m) => setTake ch { r with tag := some tag, drops := r.drops ++ [tag] } m
    | (.dropped, m) => refuse key .full m
    | (.notSent, m) => m
  | _, _ =>
    refuseKey key (n.cfg.keyFn key) (.code (Config.unstatedRefusalCode n.fresh))
      (mapTakeCounters (fun c => { c with keyRefused := satInc c.keyRefused })
        { n with fresh := n.fresh + 1 })

/-- The channel's call has asked for a drop under a tag, and its request is still pending. -/
def TakeRecord.awaits (r : TakeRecord) (tag : Byte) : Bool := r.drops.contains tag

/-- A drop's tag is given up with its request; the record's tag is that of the last drop still pending, or
none. -/
def TakeRecord.giveUp (r : TakeRecord) (tag : Byte) : TakeRecord :=
  { r with drops := r.drops.erase tag, tag := (r.drops.erase tag).getLast? }

def clearTag (ch : Nat) (tag : Byte) (n : Node) : Node := setTake ch ((n.takeRec ch).giveUp tag) n

/-- A drop's request has failed: the key that asked is refused (R194), and the channel that asked for it is
released (R147), whichever of its pending drops it was. A call that asked for no drop under the tag is left
alone (log 19). -/
def dropFailed (ch key : Nat) (tag : Byte) (r : KeyResult) (n : Node) : Node :=
  let m := refuseKey key (n.cfg.keyFn key) r n
  if (n.takeRec ch).awaits tag then releaseChannel ch (clearTag ch tag m) else m

/-- The answer to a drop's request. -/
def dropAnswered (ch key : Nat) (tag : Byte) (result : Nat) (n : Node) : Node :=
  if result = 0 then (if (n.takeRec ch).awaits tag then clearTag ch tag n else n)
  else dropFailed ch key tag (.code result) n

/-- The timeout of a drop's request. -/
def dropTimedOut (ch key : Nat) (tag : Byte) (n : Node) : Node := dropFailed ch key tag .timeout n

/-- The answer to the request of an ANSWER_NEXT_LINE key (R194). -/
def answerKeyAnswered (key result : Nat) (n : Node) : Node :=
  if result = 0 then n else refuseKey key (n.cfg.keyFn key) (.code result) n

/-! ## What the outside sees and values after reset (R148, R149) -/

/-- The level of the contacts of the phone port: inactive at a station without PHONE, whose port is held
inactive (00_scope.md, "Roles"). -/
def Node.phoneContacts (n : Node) (levels : List Bool) : List Bool :=
  if n.cfg.roles.phone then levels else List.replicate 4 false

/-- The LINES record (R148). -/
def Node.linesRecord (n : Node) : LinesRecord :=
  { blockCount := n.phone.blockCount, autoAnswer := n.cfg.autoAnswer, lines := n.phone.lines,
    ring := n.phoneContacts n.pins.ring, loop := n.phoneContacts n.pins.loop, queue := n.phone.queue,
    holdFeed :=
      if n.cfg.roles.link then .direct
      else
        match n.phone.holdEntry with
        | some i => .entry i
        | none => .none,
    takes := [n.take.ch1, n.take.ch2], phoneCounters := n.phone.counters,
    takeCounters := n.take.counters }

/-- A line of a roll call's STUDIO group: phone station and line of an ON_AIR channel. -/
def TakeRecord.onAirWith (r : TakeRecord) (own : Nat) : Option (Nat × Nat) :=
  match r.state, r.phone, r.line with
  | .onAir, some (.station s), some l => some (s, l)
  | .onAir, some .own, some l => some (own, l)
  | _, _, _ => none

def Phone.soft (p : Phone) : Phone :=
  { Phone.reset with
    lines := p.lines.map (fun l => { LineRecord.reset with lastClear := l.lastClear }),
    outgoing := p.outgoing, counters := p.counters }

def TakePath.soft (t : TakePath) : TakePath := { TakePath.reset with counters := t.counters }

end Sys2Proof.Machine
end

