-- ==== Sys2Proof/Machine/Site.lean ====
section
/-! DEFINITION. Transmitter site operation (chapter 10): the frame receiver, the link buffer, the site
modes, the site clip store, return frames. -/

namespace Sys2Proof.Machine

def mapSite (f : Site → Site) (n : Node) : Node := { n with site := f n.site }

/-! ## Modes (R185 to R187) -/

/-- The leg of the mode entered ramps to 16384 and the other to 0, from the next boundary (R187). -/
def Site.turnLegs (s : Site) (toReserve : Bool) : Site :=
  { s with
    linkLeg := s.linkLeg.give (if toReserve then 0 else Config.unity) 10,
    reserveLeg := s.reserveLeg.give (if toReserve then Config.unity else 0) 10 }

/-- A change of mode restarts the site output point (R187). -/
def restartSiteOutput (n : Node) : Node :=
  { n with meters := { n.meters with siteOutput := n.meters.siteOutput.begin } }

/-- Entry to RESERVE. -/
def enterReserve (why : ReserveReason) (n : Node) : Node :=
  restartSiteOutput
    (mapSite (fun s => ({ s with mode := .reserve, reason := why, goodRun := 0 } : Site).turnLegs true) n)

/-- Entry to CONCEALING. -/
def enterConcealing (n : Node) : Node :=
  restartSiteOutput (mapSite (fun s => { s with mode := .concealing, reserveCount := 0, goodRun := 0 }) n)

/-- The return from RESERVE to FOLLOWING. -/
def leaveReserve (n : Node) : Node :=
  restartSiteOutput (mapSite (fun s => ({ s with mode := .following } : Site).turnLegs false) n)

/-- The return from CONCEALING to FOLLOWING. -/
def leaveConcealing (n : Node) : Node :=
  restartSiteOutput (mapSite (fun s => { s with mode := .following }) n)

/-- The return condition of RESERVE (R186). -/
def Node.siteMayReturn (n : Node) : Bool :=
  decide (n.site.mode = .reserve) && decide (n.site.goodRun = 250) &&
    (match n.site.reason with
      | .linkLoss => true
      | .silence => !n.meters.incoming.silent)

/-- The return condition tested. -/
def testReturn (n : Node) : Node := if n.siteMayReturn then leaveReserve n else n

/-- The site output point has become SILENT (R186). -/
def siteOutputSilent (n : Node) : Node :=
  if n.site.mode = .following then enterReserve .silence n else n

/-! ## The link buffer (R183, R184) -/

/-- A frame appended; the oldest of eight is discarded first. The number is of frames lost. -/
def LinkBuffer.append (b : LinkBuffer) (f : BufferedFrame) : LinkBuffer × Nat :=
  if b.frames.length < 8 then ({ b with frames := b.frames ++ [f], lastSeq := some f.seq }, 0)
  else ({ b with frames := b.frames.drop 1 ++ [f], lastSeq := some f.seq }, 1)

/-- A frame placed by its sequence: the buffer, the frames lost, and whether its distance is 1. -/
def LinkBuffer.place (b : LinkBuffer) (f : BufferedFrame) : LinkBuffer × Nat × Bool :=
  match b.lastSeq with
  | none =>
    let r := b.append f
    (r.1, r.2, false)
  | some last =>
    let d := (f.seq - last).toNat
    if 1 ≤ d ∧ d ≤ 8 then
      let r := b.append f
      (r.1, r.2 + (d - 1), decide (d = 1))
    else
      let r := ({ b with frames := [], state := .filling } : LinkBuffer).append f
      (r.1, b.frames.length, false)

/-- A frame given out. -/
def LinkBuffer.giveFrame (b : LinkBuffer) : List BufferedFrame → LinkBuffer
  | f :: rest => { b with state := .running, frames := rest, lastOut := some f.audio, given := f.audio }
  | [] => { b with state := .refilling, given := b.lastOut.getD [] }

/-- A site frame boundary in RUNNING: the frames lost by a slip are counted. -/
def LinkBuffer.read (b : LinkBuffer) : LinkBuffer × Nat :=
  if 6 ≤ b.frames.length then (b.giveFrame (b.frames.drop 1), 1) else (b.giveFrame b.frames, 0)

/-- What the buffer gives out at a site frame boundary (R184). Before the first one it gives out silence, the
model's choice (log 22). -/
def LinkBuffer.boundary (b : LinkBuffer) : LinkBuffer × Nat :=
  match b.state with
  | .running => b.read
  | _ => if 2 ≤ b.frames.length then b.read else ({ b with given := [] }, 0)

/-! ## The site clip store (R188, R189) -/

/-- Bytes that an attachment writes to a clip, from a byte offset in its data. -/
structure ByteWrite where
  firstPage : Nat
  offset : Nat
  bytes : List Byte
deriving DecidableEq, Repr

/-- One byte of a clip's data written: byte b of the data is byte b mod 3 of sample b / 3 (R64, R189). -/
def Memory.writeByte (m : Memory) (page b : Nat) (x : Byte) : Memory :=
  let w := page * Config.pageWords + b / 3
  match (sampleBytes (sampleOfWord (m.read w))).set (b % 3) x with
  | [p, q, r] => m.write w (wordOfSample (sampleOfBytes p q r))
  | _ => m

/-- Bytes written one after another. -/
def Memory.writeBytes (m : Memory) (page : Nat) : Nat → List Byte → Memory
  | _, [] => m
  | b, x :: xs => Memory.writeBytes (m.writeByte page b x) page (b + 1) xs

/-- A load fails (R189). -/
def Site.failTransfer (s : Site) : Site :=
  { s with store := s.store.emptyClip s.transfer.clip, transfer := { s.transfer with state := .fault } }

/-- An OPEN attachment (R188). A length above 16,777,215, which R188 does not speak of, is decided by R188's table
alone: it loads with that length where an extent holds its pages, the model's choice (log 22). -/
def Site.openLoad (s0 : Site) (o : OpenFields) : Site :=
  let s1 :=
    if s0.transfer.state = .receiving then { s0 with store := s0.store.emptyClip s0.transfer.clip } else s0
  let t : SiteTransfer := { s1.transfer with serial := o.serial, clip := o.clip, received := 0 }
  let e := s1.store.clip o.clip
  let decided (st : SiteTransferState) (store : Store) : Site :=
    { s1 with store := store, transfer := { t with state := st } }
  if ¬ ((o.channels = 1 ∨ o.channels = 2) ∧ o.length ≠ 0) then decided .fault s1.store
  else if 0 < e.useCount then decided .refused s1.store
  else
    let freed := s1.store.emptyClip o.clip
    match allocate (pagesNeeded o.channels o.length) freed.free with
    | none => decided .fault freed
    | some (first, rest) =>
      let e1 : ClipEntry :=
        { ClipEntry.reset with
          state := .loading, channels := o.channels, length := o.length, firstPage := first,
          pageCount := pagesNeeded o.channels o.length, serial := e.serial, expectedCrc := o.crc,
          lastFailure := e.lastFailure }
      { s1 with
        store := { (freed.setClip o.clip e1) with free := rest },
        transfer :=
          { t with state := .receiving, total := o.length * o.channels * 3, crc := crcInit } }

/-- The closing of a load by LAST (R189). -/
def Site.closeTransfer (s : Site) : Site :=
  let t := s.transfer
  let e := s.store.clip t.clip
  if t.received = t.total ∧ ~~~t.crc = e.expectedCrc then
    { s with store := s.store.setClip t.clip { e with state := .ready }, transfer := { t with state := .done } }
  else s.failTransfer

/-- A DATA attachment (R189). Its table has no order: an attachment whose offset is below r and whose r plus
length exceeds the total meets the first row and the second, and is ignored, the load going on, the model's
choice (log 22). -/
def Site.data (s : Site) (off : Nat) (bs : List Byte) (last : Bool) : Site × Option ByteWrite :=
  let t := s.transfer
  if t.state ≠ .receiving then (s, none)
  else if off < t.received then (s, none)
  else if t.received < off ∨ t.total < t.received + bs.length then (s.failTransfer, none)
  else
    let e := s.store.clip t.clip
    let got := t.received + bs.length
    let s1 : Site :=
      { s with
        store := s.store.setClip t.clip { e with received := got / (3 * e.channels) },
        transfer := { t with received := got, crc := crcUpdate t.crc bs } }
    (if last then s1.closeTransfer else s1, some { firstPage := e.firstPage, offset := off, bytes := bs })

/-- The attachment of an accepted frame at the site clip store. -/
def Site.attachment (s : Site) (f : LinkFrame) : Site × Option ByteWrite :=
  match f.attachKind with
  | 1 => (s.openLoad (openOfBytes f.attachment), none)
  | 2 => s.data f.attachOffset f.attachment f.last
  | _ => (if s.transfer.state = .receiving then s.failTransfer else s, none)

/-! ## Return frames (R190) -/

def siteModeCode : SiteMode → Nat
  | .following => 1
  | .concealing => 2
  | .reserve => 3

def siteTransferCode : SiteTransferState → Nat
  | .none => 0
  | .receiving => 1
  | .done => 2
  | .refused => 3
  | .fault => 4

/-- The return frame of this moment, its CRC-32 computed over its bytes (R190, section 9.5). -/
def Node.makeReturn (n : Node) : ReturnFrame :=
  let s := n.site
  ReturnFrame.sealed {
    linkId := n.cfg.linkId, siteId := n.cfg.siteId, seq := s.returnSeq, siteMode := siteModeCode s.mode,
    lastGood := s.lastGood, crcErrors := s.crcErrors, lost := s.lost, contacts := s.contacts,
    transferState := siteTransferCode s.transfer.state, transferSerial := s.transfer.serial,
    transferOffset := s.transfer.received, peak := n.meters.siteOutput.lastPeak, crc := 0 }

/-- The accepted-frame count; at its return to 0 a return frame is made and sent. -/
def countAccepted (n : Node) : Node :=
  let k := (n.site.accepted + 1) % 25
  let m := mapSite (fun s => { s with accepted := k }) n
  if k = 0 then
    mapSite (fun s => { s with lastSent := some m.makeReturn, returnSeq := s.returnSeq + 1 }) m
  else m

/-! ## Taking in link frames (R182) -/

/-- A bad frame: counted, the good run 0 (R182). -/
def badFrame (n : Node) : Node :=
  mapSite (fun s => { s with crcErrors := satInc s.crcErrors, goodRun := 0 }) n

/-- A frame offered to the link buffer, with the good run (R183, R186). -/
def Site.offerFrame (s : Site) (f : LinkFrame) : Site :=
  let r := s.buffer.place { seq := f.seq, audio := f.audio }
  { s with
    buffer := r.1, lost := satAdd s.lost r.2.1, lastGood := f.seq, noFrame := 0,
    goodRun := if r.2.2 then min (s.goodRun + 1) 250 else 1 }

/-- An accepted frame, in the order of R182. -/
def acceptFrame (f : LinkFrame) (n : Node) : Node × Option ByteWrite :=
  let r := n.site.attachment f
  (countAccepted (testReturn { n with site := r.1.offerFrame f }), r.2)

/-- A complete frame, its bytes from byte 2 on. -/
def frameComplete (bs : List Byte) (n : Node) : Node × Option ByteWrite :=
  if linkFrameGood n.cfg.linkId n.cfg.siteId bs then acceptFrame (linkFrameOfBytes bs) n
  else (badFrame n, none)

/-- One byte at the programme link port (R182). -/
def siteByte (b : Byte) (n : Node) : Node × Option ByteWrite :=
  if !n.siteWorks then (n, none)
  else
    match n.site.receiver with
    | .hunting saw =>
      let next : Receiver :=
        if saw ∧ b = 0xC3 then .gathering [] else .hunting (decide (b = 0x5A))
      (mapSite (fun s => { s with receiver := next, stall := 0 }) n, none)
    | .gathering g =>
      let bs := g ++ [b]
      let hunting := mapSite (fun s => { s with receiver := .hunting false, stall := 0 }) n
      if bs.length = 18 ∧ 240 < byteAt bs 17 then (badFrame hunting, none)
      else if 18 ≤ bs.length ∧ bs.length = gatheredLength (byteAt bs 17) then frameComplete bs hunting
      else (mapSite (fun s => { s with receiver := .gathering bs, stall := 0 }) n, none)

/-- The bytes of an attachment written to the sample memory. -/
def applyWrite (w : Option ByteWrite) (m : Memory) : Memory :=
  match w with
  | some x => m.writeBytes x.firstPage x.offset x.bytes
  | none => m

/-- Bytes one after another at the programme link port. -/
def siteBytes : List Byte → Memory → Node → Memory × Node
  | [], m, n => (m, n)
  | b :: bs, m, n =>
    let r := siteByte b n
    siteBytes bs (applyWrite r.2 m) r.1

/-! ## The site unit at a boundary -/

/-- The receiver is gathering. -/
def Site.gatheringNow (s : Site) : Bool :=
  match s.receiver with
  | .gathering _ => true
  | .hunting _ => false

/-- Block boundaries since a byte while gathering. -/
def siteStall (n : Node) : Node :=
  if n.site.gatheringNow then mapSite (fun s => { s with stall := s.stall + 1 }) n else n

def Node.stallDue (n : Node) : Bool := n.siteWorks && n.site.gatheringNow && decide (4 ≤ n.site.stall)

/-- A frame whose bytes have stopped ends as a bad frame (R182). -/
def frameStall (n : Node) : Node :=
  badFrame (mapSite (fun s => { s with receiver := .hunting false, stall := 0 }) n)

def Node.contactDue (n : Node) : Bool := n.siteWorks && decide (n.pins.contacts ≠ n.site.contacts)

/-- The contacts sampled (R190). -/
def sampleContacts (n : Node) : Node := mapSite (fun s => { s with contacts := n.pins.contacts }) n

/-- The leg targets given since the last boundary (R187). -/
def siteLegs (n : Node) : Node :=
  mapSite (fun s => { s with linkLeg := s.linkLeg.applyPending, reserveLeg := s.reserveLeg.applyPending }) n

/-- The reserve player is needed (R187). -/
def Site.reserveNeeded (s : Site) : Bool := decide (s.mode = .reserve) || decide (0 < s.reserveLeg.value)

def siteReserveStop (n : Node) : Node :=
  if n.site.reserve.playing && !n.site.reserveNeeded then
    mapSite
      (fun s => { s with store := s.store.release n.cfg.reserveClip, reserve := { playing := false, pos := 0 } }) n
  else n

def Node.siteReserveDue (n : Node) : Bool :=
  n.siteWorks && n.site.reserveNeeded && !n.site.reserve.playing &&
    decide ((n.site.store.clip n.cfg.reserveClip).state = .ready)

def siteReserveStart (n : Node) : Node :=
  match n.site.store.acquire n.cfg.reserveClip with
  | some st => mapSite (fun s => { s with store := st, reserve := { playing := true, pos := 0 } }) n
  | none => n

def sitePhase (n : Node) : Node := mapSite (fun s => { s with phase := s.phase + 1 }) n

def Node.siteFrameDue (n : Node) : Bool := n.siteWorks && decide (4 ≤ n.site.phase)

/-- A site frame boundary (R184, R185): the buffer gives out, the no-frame count advances, and in
CONCEALING the mode returns to FOLLOWING or the reserve count advances. -/
def siteFrame (n : Node) : Node :=
  let s := n.site
  let r := s.buffer.boundary
  let read : Site :=
    { s with phase := 0, buffer := r.1, lost := satAdd s.lost r.2, noFrame := min (s.noFrame + 1) 50 }
  let m : Node := { n with site := read }
  if s.mode = .concealing then
    if r.1.state = .running then leaveConcealing m
    else mapSite (fun x => { x with reserveCount := x.reserveCount + 1 }) m
  else m

def Node.concealDue (n : Node) : Bool :=
  n.siteWorks && decide (n.site.mode = .following) && decide (50 ≤ n.site.noFrame)

def Node.reserveEntryDue (n : Node) : Bool :=
  n.siteWorks && decide (n.site.mode = .concealing) && decide (n.cfg.reserveDelay ≤ n.site.reserveCount)

/-- The site at the end of start-up (R192). -/
def Site.ofSettings (c : Settings) : Site := { Site.reset with store := .ofPages c.memPages }

end Sys2Proof.Machine
end

