-- ==== Sys2Proof/Machine/Reports.lean ====
section
/-! DEFINITION. What the stream unit and the meter points report, and to whom (R37, R60). -/

namespace Sys2Proof.Machine

/-! ## Slot endings (R37) -/

/-- The ending of a slot reported, with its reason, to the requester block of its entry. An ENDED report
for the ONAIR slot changes nothing (R135). -/
def reportSlotEnd (r : SlotReport) (n : Node) : Node :=
  match (n.streams.entry r.entry).purpose with
  | .follow => airSlotEnded r n
  | .watch => airSlotEnded r n
  | .caller => callerSlotEnded r n
  | .mixminus => mixMinusSlotEnded r n
  | .onair => n
  | .item => itemSlotEnded r n

/-- The endings of several slots, in slot order, the model's choice (log 24): all have ended when the first is
reported. -/
def reportSlotEnds (rs : List SlotReport) (n : Node) : Node := rs.foldl (fun m r => reportSlotEnd r m) n

def Node.slotTimeoutDue (n : Node) : Bool := n.streams.slots.any Slot.timedOut

/-- SLOT_TIMEOUT (R37): the slots whose no-arrival count has reached 50 end, and are reported, before any slot is
read out, the model's choice (log 24). -/
def slotTimeouts (n : Node) : Node :=
  let r := endTimedOut n
  reportSlotEnds r.2 r.1

/-- The read-out of every slot, and the report of those that gave out an END block (R35). -/
def slotReads (n : Node) : Node :=
  let r := readSlots n
  reportSlotEnds r.2 r.1

/-! ## Meter points (R58 to R60) -/

/-- The closing of a point: the point after, whether it closed, and its report, if it made one: `true`
for SILENT. -/
structure PointClosed where
  point : MeterPoint
  closed : Bool
  sounding : Bool
  report : Option Bool
deriving DecidableEq, Repr

/-- A point at a boundary. `sounding` says that the window just closed was not silent and the point is
in SOUND (R121). -/
def MeterPoint.finish (m : MeterPoint) (cfg : Settings) : PointClosed :=
  if m.windowDone then
    let c := m.close cfg
    { point := c, closed := true, sounding := !c.silent && !m.windowSilent cfg,
      report := if c.silent = m.silent then none else some c.silent }
  else { point := m, closed := false, sounding := false, report := none }

/-- The studio programme point: a SILENT claim of the station itself may recover (R121). -/
def closeStudio (n : Node) : Node :=
  let r := n.meters.studio.finish n.cfg
  let m := { n with meters := { n.meters with studio := r.point } }
  if r.sounding then recover n.cfg.number m else m

/-- A slot point: a SILENT claim of the slot's station may recover (R121). -/
def closeSlot (i : Nat) (n : Node) : Node :=
  let r := (n.meters.slots.getD i .reset).finish n.cfg
  let m := { n with meters := { n.meters with slots := n.meters.slots.set i r.point } }
  let k := (m.streams.entry i).station
  if r.sounding && decide ((m.airEntry k).listen = some i) && decide ((m.streams.slot i).state ≠ .ended)
  then recover k m
  else m

/-- The holder input point: SILENT marks the holder (R119). A change of source taken at this boundary takes
effect first, and restarts the point where the legs change (R170), so that a holder is judged from the start
of its own audio. -/
def closeHolder (n0 : Node) : Node :=
  let n := sourceChange n0
  let r := n.meters.holderInput.finish n.cfg
  let m := { n with meters := { n.meters with holderInput := r.point } }
  if r.report = some true then markHolderSilent m else m

/-- The link output point: the dead-air flag (R172). -/
def closeLinkOutput (n : Node) : Node :=
  let r := n.meters.linkOutput.finish n.cfg
  let m := { n with meters := { n.meters with linkOutput := r.point } }
  match r.report with
  | some true =>
    { m with
      link :=
        { m.link with
          deadAir := true,
          counters := { m.link.counters with deadAirOnsets := satInc m.link.counters.deadAirOnsets } } }
  | some false => { m with link := { m.link with deadAir := false } }
  | none => m

/-- The site output point (R186). -/
def closeSiteOutput (n : Node) : Node :=
  let r := n.meters.siteOutput.finish n.cfg
  let m := { n with meters := { n.meters with siteOutput := r.point } }
  if r.report = some true then siteOutputSilent m else m

/-- The incoming point (R186). -/
def closeIncoming (n : Node) : Node :=
  let r := n.meters.incoming.finish n.cfg
  let m := { n with meters := { n.meters with incoming := r.point } }
  if r.report.isSome then testReturn m else m

/-- METER_WINDOW_CLOSE (R58): every point whose window has run its ten blocks, in the order of the
table of section 3.9. -/
def meterWindows (n : Node) : Node :=
  let m := (List.range 8).foldl (fun x i => closeSlot i x) (closeStudio n)
  closeIncoming (closeSiteOutput (closeLinkOutput (closeHolder m)))

/-- The block boundary at every meter point. -/
def meterAdvance (n : Node) : Node := { n with meters := n.meters.boundary }

end Sys2Proof.Machine
end

