-- ==== Sys2Proof/Machine/Audio.lean ====
section
/-! DEFINITION. A sample set instant (R42): the ramps, the sources, the mix, the selector, the lines,
the meter points, the site output. -/

namespace Sys2Proof.Machine

/-! ## Players (R87, R160, R169) -/

/-- What a player of the cue engine gives at this instant. -/
def playerGives (m : Memory) (n : Node) (p : Player) : SampleSet :=
  if p.sounding then
    match p.item with
    | some { source := .clip c, .. } => readClip m (n.store.clip c) p.readPos
    | some { source := .stream .., .. } =>
      match p.entry with
      | some i => (n.streams.slot i).out.set n.audio.index
      | none => (0, 0)
    | none => (0, 0)
  else (0, 0)

/-- The reading position of a player that gives audio of a clip advances. -/
def Player.readOn (p : Player) : Player :=
  if p.sounding && p.playsClip then { p with readPos := p.readPos + 1 } else p

/-- A sample scaled by the alert player's fader (R160). -/
def scaleSample (x : Sample) (g : Nat) : Sample :=
  BitVec.ofInt 24 ((x.toInt * (g : Int) + 8192).fdiv 16384)

/-- What the alert player gives (R160). -/
def alertGives (m : Memory) (n : Node) : SampleSet :=
  let p := n.alert.player
  match p.playing, p.clip with
  | true, some c =>
    let s := readClip m (n.store.clip c) p.readPos
    (scaleSample s.1 p.fader.value, scaleSample s.2 p.fader.value)
  | _, _ => (0, 0)

/-- The alert player after an instant. -/
def AlertPlayer.readOn (p : AlertPlayer) : AlertPlayer :=
  if p.playing then { p with readPos := p.readPos + 1 } else p

/-- What a reserve player gives from its clip (R169). -/
def reserveGives (m : Memory) (e : ClipEntry) (r : ReservePlayer) : SampleSet :=
  if r.playing then readClip m e r.pos else (0, 0)

/-- A reserve player after an instant: at the clip's length it continues from 0. -/
def ReservePlayer.readOn (r : ReservePlayer) (length : Nat) : ReservePlayer :=
  if r.playing then { r with pos := if length ≤ r.pos + 1 then 0 else r.pos + 1 } else r

/-! ## The mixer's instant (R42, R54 to R56) -/

/-- The sample of a caller channel's source. -/
def callerGives (n : Node) (inp : Inputs) (c : Caller) : Sample :=
  match c.state, c.source with
  | .inactive, _ => 0
  | _, .entry i =>
    if (n.streams.entry i).valid then (n.streams.slot i).out.monoAt n.audio.index else 0
  | _, .line i => inp.lines.getD (i - 1) 0
  | _, .none => 0

/-- The values of the eight inputs. -/
def inputValues (m : Memory) (n : Node) (inp : Inputs) : List SampleSet :=
  let mono (x : Sample) : SampleSet := (x, x)
  (List.range 4).map (fun i => mono (inp.locals.getD i 0)) ++
    [playerGives m n n.cue.a, playerGives m n n.cue.b, mono (callerGives n inp n.mixer.caller1),
      mono (callerGives n inp n.mixer.caller2)]

/-- The terms of the mix: the inputs with their effective gains. -/
def mixTerms (m : Memory) (n : Node) (inp : Inputs) : List Term :=
  let vs := inputValues m n inp
  (List.range 8).map (fun i =>
    { value := vs.getD i (0, 0), gain := n.mixer.effectiveGain n.cfg.voiceFlags i })

/-- The term of a caller channel. -/
def termOf (t : Term) : Int := t.value.1.toInt * (t.gain : Int)

/-- The mixer's programme and mix-minus of an instant, its ramps having advanced. -/
def mixInstant (m : Memory) (inp : Inputs) (n : Node) : Node :=
  let ts := mixTerms m n inp
  let acc := mixSums ts
  let p := programmeOf acc
  let term (i : Nat) : Int := termOf (ts.getD i { value := (0, 0), gain := 0 })
  let m1 := mixMinusOf acc (term 6)
  let m2 := mixMinusOf acc (term 7)
  { n with
    mixer :=
      { n.mixer with
        programme := p.1, mixMinus1 := m1.1, mixMinus2 := m2.1,
        mmClips1 := if m1.2 then satInc n.mixer.mmClips1 else n.mixer.mmClips1,
        mmClips2 := if m2.2 then satInc n.mixer.mmClips2 else n.mixer.mmClips2 },
    cue := { n.cue with a := n.cue.a.readOn, b := n.cue.b.readOn },
    meters := { n.meters with studio := n.meters.studio.take [p.1.1, p.1.2] p.2 } }

/-! ## The link selector's instant (R168, R171) -/

/-- What a selector source gives. -/
def sourceGives (m : Memory) (n : Node) : Source → SampleSet
  | .peer i _ =>
    if (decide (n.air.holder.kind = .peer) && decide (n.air.holder.entry = some i)) || n.outgoingHas i then
      (n.streams.slot i).out.set n.audio.index
    else (0, 0)
  | .own => if n.cfg.roles.studio then n.mixer.programme else (0, 0)
  | .alert => alertGives m n
  | .reserve => reserveGives m (n.store.clip n.cfg.reserveClip) n.link.reserve

/-- The legs of the selector as terms. -/
def selectorTerms (m : Memory) (n : Node) : List Term :=
  let leg (l : Leg) : Term := { value := sourceGives m n l.source, gain := l.gain.value }
  leg n.link.incoming :: (n.link.outgoing.map leg).toList

/-- The selector's output of an instant, its legs' gains and the alert player's fader having advanced. -/
def selectorInstant (m : Memory) (n : Node) : Node :=
  let held := sourceGives m n n.link.incoming.source
  let o := programmeOf (mixSums (selectorTerms m n))
  let l := n.link
  { n with
    link :=
      { l with
        out := o.1, reserve := l.reserve.readOn (n.store.clip n.cfg.reserveClip).length },
    alert := { n.alert with player := { n.alert.player.readOn with out := alertGives m n } },
    meters :=
      { n.meters with
        holderInput := n.meters.holderInput.takeCounted [held.1, held.2],
        linkOutput := n.meters.linkOutput.take [o.1.1, o.1.2] o.2 } }

/-- The ramps of the selector and of the alert player advance. -/
def advanceLink (n : Node) : Node :=
  let adv (l : Leg) : Leg := { l with gain := l.gain.advance }
  { n with
    link := { n.link with incoming := adv n.link.incoming, outgoing := n.link.outgoing.map adv },
    alert := { n.alert with player := { n.alert.player with fader := n.alert.player.fader.advance } } }

/-! ## The lines' instant (R135) -/

/-- The hold feed. -/
def Node.holdFeedNow (n : Node) : Sample :=
  if n.cfg.roles.link then monoOf n.link.out
  else
    match n.phone.holdEntry with
    | some i => (n.streams.slot i).out.monoAt n.audio.index
    | none => 0

/-- The mix-minus of the caller channel that serves a line of the local phone port. -/
def Node.localMixMinus (n : Node) (line : Nat) : Sample :=
  let serves (r : TakeRecord) : Bool :=
    decide (r.state = .onAir) && decide (r.phone = some .own) && decide (r.line = some line)
  if serves n.take.ch1 then n.mixer.mixMinus1
  else if serves n.take.ch2 then n.mixer.mixMinus2
  else 0

/-- A line's outgoing sample (R135). A line that returned to HELD since the last block boundary gives silence
until the next (R139, log 19). -/
def Node.lineGives (n : Node) (i : Nat) : Sample :=
  let l := n.lineRec i
  match l.state with
  | .idle => 0
  | .ringing => 0
  | .onAir =>
    match l.studio, l.mmEntry with
    | some .own, _ => n.localMixMinus i
    | _, some k => (n.streams.slot k).out.monoAt n.audio.index
    | _, none => 0
  | _ => if l.holdLater then 0 else n.holdFeedNow

/-- The outgoing samples of the four lines at a PHONE station. -/
def linesInstant (n : Node) : Node :=
  if n.cfg.roles.phone then { n with phone := { n.phone with outgoing := lineNumbers.map n.lineGives } }
  else n

/-! ## The slots' meter points and the block gathered (R38, R25) -/

/-- Every slot's meter point sees what its slot gives out. -/
def slotMeters (n : Node) : Node :=
  { n with
    meters :=
      { n.meters with
        slots :=
          List.zipWith (fun (p : MeterPoint) (s : Slot) => p.takeCounted (s.out.metered n.audio.index))
            n.meters.slots n.streams.slots } }

/-- The audio of the instant joined to the block in progress. -/
def gatherAudio (inp : Inputs) (n : Node) : Node :=
  let a := n.audio
  { n with
    audio :=
      { index := a.index + 1, programme := a.programme ++ [n.mixer.programme],
        mixMinus1 := a.mixMinus1 ++ [n.mixer.mixMinus1], mixMinus2 := a.mixMinus2 ++ [n.mixer.mixMinus2],
        lines := List.zipWith (fun xs i => xs ++ [inp.lines.getD i 0]) a.lines (List.range 4),
        selector := a.selector ++ [n.link.out] } }

/-- A sample set instant of a station on the bus. -/
def stationInstant (m : Memory) (inp : Inputs) (n : Node) : Node :=
  let n1 := if n.cfg.roles.studio then mixInstant m inp { n with mixer := n.mixer.advance } else n
  let n2 := if n.cfg.roles.link then selectorInstant m (advanceLink n1) else n1
  gatherAudio inp (slotMeters (linesInstant n2))

/-! ## The site's instant (R187) -/

/-- The sample set that the LINK leg plays: the frame given out covers four blocks. -/
def Node.siteLinkGives (n : Node) : SampleSet :=
  n.site.buffer.given.getD (n.site.phase * Config.blockSets + n.audio.index) (0, 0)

/-- The two legs as terms. -/
def siteTerms (m : Memory) (n : Node) : List Term :=
  let s := n.site
  [{ value := n.siteLinkGives, gain := s.linkLeg.value },
    { value := reserveGives m (s.store.clip n.cfg.reserveClip) s.reserve, gain := s.reserveLeg.value }]

/-- A sample set instant of a SITE chip. -/
def siteInstant (m : Memory) (n0 : Node) : Node :=
  let n :=
    mapSite (fun s => { s with linkLeg := s.linkLeg.advance, reserveLeg := s.reserveLeg.advance }) n0
  let o := programmeOf (mixSums (siteTerms m n))
  let g := n.siteLinkGives
  { n with
    site :=
      { n.site with
        out := o.1, reserve := n.site.reserve.readOn (n.site.store.clip n.cfg.reserveClip).length },
    meters :=
      { n.meters with
        siteOutput := n.meters.siteOutput.take [o.1.1, o.1.2] o.2,
        incoming := n.meters.incoming.takeCounted [g.1, g.2] },
    audio := { n.audio with index := n.audio.index + 1 } }

/-- The levels that an instant brings to the pins: four ring contacts, four loop contacts, eight keys and
four contact inputs. -/
def takeInputs (inp : Inputs) (n : Node) : Node :=
  { n with
    pins :=
      { ring := fitList 4 false inp.ring, loop := fitList 4 false inp.loop,
        keys := fitList 8 false inp.keys, contacts := fitList 4 false inp.contacts } }

/-- A sample set instant: the mixer computes nothing in CONFIG and UNCONFIGURED (R42). -/
def instant (m : Memory) (inp : Inputs) (n0 : Node) : Node :=
  let n := takeInputs inp n0
  if n.onBus then stationInstant m inp n
  else if n.siteWorks then siteInstant m n
  else n

end Sys2Proof.Machine
end

