-- ==== Sys2Proof/Machine/Keys.lean ====
section
/-! DEFINITION. What a key press does (R194), by the key's function. -/

namespace Sys2Proof.Machine

/-- The presses of a function act, in key order. -/
def actKeys (p : KeyFn → Bool) (act : Nat → Node → Node) (n : Node) : Node :=
  clearPressed p ((n.pressedWith p).foldl (fun m k => act k m) n)

/-- Some key of a function is pressed at this boundary. -/
def Node.keyDue (n : Node) (p : KeyFn → Bool) : Bool := !(n.pressedWith p).isEmpty

/-- A press refused outside RUN, and at a station without the role. -/
def gateKey (role : Bool) (key : Nat) (act : Node → Node) (n : Node) : Node :=
  if !n.inRun then refuse key .notReady n
  else if !role then refuse key .wrongRole n
  else act n

/-- The result of a request that a key made of its own station: a refusal is kept. -/
def keyResult (key : Nat) (r : Reply) : Node :=
  if r.result = .ok then r.node else refuse key r.result r.node

def isClaimKey (f : KeyFn) : Bool := decide (f = .claimStudio) || decide (f = .claimAuto)

def isDropKey (f : KeyFn) : Bool := decide (f = .dropCaller1) || decide (f = .dropCaller2)

/-- CLAIM_STUDIO and CLAIM_AUTO toggle the own claim (R109). -/
def claimKeyAct (key : Nat) (n : Node) : Node :=
  let k := if n.cfg.keyFn key = .claimStudio then 2 else 1
  gateKey n.cfg.roles.studio key
    (fun m => setOwnClaim (if m.air.ownLevel = k then 0 else k) m) n

/-- PLAY_NEXT (R90). -/
def playNextAct (key : Nat) (n : Node) : Node :=
  gateKey n.cfg.roles.studio key (fun m => keyResult key (decidePlay m)) n

/-- STOP_ALL (R98). -/
def stopAllAct (key : Nat) (n : Node) : Node :=
  gateKey n.cfg.roles.studio key (fun m => keyResult key (stopReply (stopBoth m))) n

/-- SCENE_SWAP: a swap of 10 blocks (R49). -/
def sceneSwapAct (key : Nat) (n : Node) : Node :=
  gateKey n.cfg.roles.studio key (fun m => keyResult key (sceneSwapFor 10 m)) n

/-- A press of a take or drop key: outside RUN it is refused by the take path too. -/
def gateTake (key : Nat) (act : Node → Node) (n : Node) : Node :=
  if !n.inRun then (if n.cfg.roles.studio then refuseTake key .notReady n else refuse key .notReady n)
  else if !n.cfg.roles.studio then refuse key .wrongRole n
  else act n

/-- TAKE_NEXT_CALLER (R144). -/
def takeNextAct (key : Nat) (n : Node) : Node := gateTake key (takeNext key) n

/-- DROP_CALLER_1 and DROP_CALLER_2 (R147). -/
def dropAct (key : Nat) (n : Node) : Node :=
  gateTake key (dropChannel (if n.cfg.keyFn key = .dropCaller1 then 1 else 2) key) n

/-- ANSWER_NEXT_LINE across the bus. -/
def answerAcross (key : Nat) (n : Node) : Node :=
  match n.phoneTarget with
  | none => refuse key .notReady n
  | some s =>
    match sendRequest 11 s [0] (.answerKey key) n with
    | (.sent _, m) => m
    | (.dropped, m) => refuse key .full m
    | (.notSent, m) => m

/-- ANSWER_NEXT_LINE (R194). -/
def answerNextAct (key : Nat) (n : Node) : Node :=
  if !n.inRun then refuse key .notReady n
  else if n.cfg.roles.phone then keyResult key (decideAnswer 0 n)
  else answerAcross key n

def isFn (f g : KeyFn) : Bool := decide (g = f)

def claimKeys (n : Node) : Node := actKeys isClaimKey claimKeyAct n
def playNextKeys (n : Node) : Node := actKeys (isFn .playNext) playNextAct n
def stopAllKeys (n : Node) : Node := actKeys (isFn .stopAll) stopAllAct n
def takeNextKeys (n : Node) : Node := actKeys (isFn .takeNextCaller) takeNextAct n
def dropKeys (n : Node) : Node := actKeys isDropKey dropAct n
def sceneSwapKeys (n : Node) : Node := actKeys (isFn .sceneSwap) sceneSwapAct n
def answerNextKeys (n : Node) : Node := actKeys (isFn .answerNextLine) answerNextAct n

/-- A VOICE_OPEN key is pressed at this boundary. -/
def Node.voiceOpenDue (n : Node) : Bool := n.keyDue (isFn .voiceOpen)

end Sys2Proof.Machine
end

