-- ==== Sys2Proof/Machine/Records.lean ====
section
/-! DEFINITION. The status records (R22, R40, R80, R103, R104, R197). Each is taken at the moment the
answer is offered. -/

namespace Sys2Proof.Machine

/-- The STATION record with the local lines section (R22, R197). -/
def Node.stationRecord (n : Node) : StationRecord :=
  let b := n.bus
  { station := n.station, number := n.cfg.number, roles := n.cfg.roles,
    queueCounts := [b.q0.length, b.q1.length, b.q2.length, b.q3.length], consecutive := b.consecutive,
    linkStation := b.linkStation, presentBits := b.presence.map Presence.present,
    presence := ((List.range 30).map (fun i => (i + 1, b.entry (i + 1)))).filter (fun p => p.2.present),
    pendingRequests := b.requesters.length, counters := b.counters, keys := n.lines.keys,
    tallies := List.zip n.cfg.tallyFns n.lines.outputs, staging := n.lines.staging,
    lastRefusal := n.lines.lastRefusal, lastAlert := n.lines.lastAlert, keyRefusals := n.lines.refusals }

/-- The SLOT record (R40). -/
def Node.slotRecord (n : Node) (i : Nat) : SlotRecord :=
  let s := n.streams.slot i
  { entry := n.streams.entry i, state := s.state, count := s.blocks.length, lastSeq := s.lastSeq,
    noArrival := s.noArrival, overflowRun := s.overflowRun, totals := s.totals,
    startDepth := n.cfg.startDepth, highMark := n.cfg.highMark, outgoing := n.streams.outgoing }

/-- The CLIP record (R80). The clip numbers LOADING are listed in the order of their opening, and there is no
largest extent where no page is free, the model's choices (log 25). -/
def Node.clipRecord (n : Node) (c : Nat) : ClipRecord :=
  let s := n.store
  { entry := s.clip c, load := s.loadOf c, pages := s.pages, freeTotal := freeTotal s.free,
    extents := s.free.length, largest := largestExtent s.free, loadsInUse := s.loads.length,
    loading := s.loads.map LoadContext.clip, counters := s.counters }

/-- The CUELIST record from a list position on (R103). -/
def Node.cueListRecord (n : Node) (i : Nat) : CueListRecord :=
  { count := n.cue.list.length, entries := (n.cue.list.drop i).take 16 }

/-- The PLAYER record (R104). A start that PLAY left pending under order 3 of R90 is shown at the player
that would be armed. -/
def Node.playerRecord (n : Node) (i : Nat) : PlayerRecord :=
  let c := n.cue
  let b := decide (i = 1)
  let p := c.player b
  { player := { p with pending := p.pending || (c.armStart && decide (c.armTarget = some b)) }, countdown := c.countdown, heldFlag := c.heldFlag,
    preferB := c.preferB, counters := c.counters, mixer := n.mixerSection }

/-- A record answered where the index is in range (R197). -/
def recordIf (inRange : Bool) (d : ResultData) (n : Node) : Reply :=
  if inRange then .ok d n else .refuse .badField n

/-- STATUS_QUERY at its owner (R197): the record kind and the index. -/
def statusReply (kind index : Nat) (n : Node) : Reply :=
  match kind with
  | 1 => .ok (.station index n.stationRecord) n
  | 2 => recordIf (decide (index ≤ 7)) (.slot index (n.slotRecord index)) n
  | 3 => recordIf (decide (index ≤ 255)) (.clip index (n.clipRecord index)) n
  | 4 => recordIf (decide (index ≤ 31)) (.cueList index (n.cueListRecord index)) n
  | 5 => recordIf (decide (index ≤ 1)) (.player index (n.playerRecord index)) n
  | 6 => .ok (.lines index n.linesRecord) n
  | 7 => .ok (.airView index n.airView) n
  | 8 => .ok (.alertHist index n.alertHist) n
  | 9 => recordIf n.cfg.roles.link (.link index n.linkRecord) n
  | _ => .refuse .badField n

end Sys2Proof.Machine
end

