-- ==== Sys2Proof/Machine/Bus.lean ====
section
/-! DEFINITION. The bus unit (chapter 1): deferral and sending, reception, requests and answers, roll
call and presence, the entry to DUPLICATE. -/

namespace Sys2Proof.Machine

def mapBusCounters (f : BusCounters → BusCounters) (n : Node) : Node :=
  { n with bus := { n.bus with counters := f n.bus.counters } }

/-! ## Gaining the line (R1) -/

/-- The lowest-numbered class whose queue holds a packet. -/
def Bus.lowestClass (b : Bus) : Option Nat := [0, 1, 2, 3].find? (fun c => !(b.queue c).isEmpty)

/-- The wait W of a class. -/
def deferral (cls number : Nat) : Nat := cls * 32 + number

/-- The idle count after g gap units: after 128 it continues from 1. -/
def idleAfter (count g : Nat) : Nat := if count + g = 0 then 0 else (count + g - 1) % 128 + 1

/-- The gap units from a count until it next reaches W. A count that equals W when the packet is queued is
past it: the wait is reached at the next time round, 128 gap units on. R1 speaks of counts below W and past
it only; the reading is the model's (log 13). -/
def gapsUntil (count w : Nat) : Nat := (w + 127 - count % 128) % 128 + 1

/-- The station starts sending the head packet of a class (R1, R5). -/
def startSending (cls : Nat) (n : Node) : Node :=
  match n.bus.queue cls with
  | p :: _ => { n with bus := { n.bus with line := .sending cls (wireBytes n.cfg.number p) } }
  | [] => n

/-- The line falls idle: the idle count starts from 0. -/
def Bus.lineIdle (b : Bus) : Bus := { b with line := .idle, idleCount := 0 }

/-- The work of the bus unit on its line: none at a SITE chip, whose bus port stays inactive (R200). -/
def onLine (f : Node → Node) (n : Node) : Node := if n.cfg.roles.site then n else f n

/-- Gap units of an idle line pass (R1): the station starts sending where its wait is reached; the Bool
says that it did. -/
def idleGaps (g : Nat) (n : Node) : Node × Bool :=
  let through : Node := { n with bus := { n.bus with idleCount := idleAfter n.bus.idleCount g } }
  match n.bus.lowestClass with
  | some c =>
    let w := deferral c n.cfg.number
    if n.inRun && decide (gapsUntil n.bus.idleCount w ≤ g) then
      (startSending c { n with bus := { n.bus with idleCount := w } }, true)
    else (through, false)
  | none => (through, false)

/-- Gap units pass (R1): a line not idle until then has fallen idle before the first of them, which is
also how the first idle is seen after a pin reset (R23, log 13). -/
def gapsPass (g : Nat) (n : Node) : Node × Bool :=
  match n.bus.line with
  | .idle => idleGaps g n
  | .busy => if g = 0 then (n, false) else idleGaps g { n with bus := n.bus.lineIdle }
  | .sending .. => (n, false)

/-- Carrier appears (R1). -/
def carrier (g : Nat) (n : Node) : Node :=
  let r := gapsPass g n
  if r.2 then r.1
  else
    match r.1.bus.line with
    | .idle => { r.1 with bus := { r.1.bus with line := .busy } }
    | _ => r.1

/-! ## Emptied queues, DUPLICATE (R20) -/

/-- The four transmit queues emptied. -/
def Bus.emptyQueues (b : Bus) : Bus := { b with q0 := [], q1 := [], q2 := [], q3 := [], drainAtEnd := false }

/-- A sending stopped at once. -/
def Bus.stopSending (b : Bus) : Bus :=
  match b.line with
  | .sending .. => b.lineIdle
  | _ => b

/-- Entry to DUPLICATE from LISTEN or RUN (R20, R26, R198). -/
def enterDuplicate (n : Node) : Node :=
  { n with
    station := .duplicate, restart := none,
    bus := { n.bus.stopSending.emptyQueues with rollCountdown := none },
    streams := n.streams.silenceOut }

/-! ## The end of a sending (R2) -/

/-- The head packet of a class. -/
def Bus.head (b : Bus) (cls : Nat) : Option Packet := (b.queue cls).head?

/-- A sending completed: the packet leaves its queue. -/
def Bus.sentHead (b : Bus) (cls : Nat) : Bus :=
  let c := (b.setQueue cls ((b.queue cls).drop 1)).lineIdle
  let d := { c with consecutive := 0, counters := { c.counters with sent := satInc c.counters.sent } }
  if b.drainAtEnd then d.emptyQueues else d

/-- A sending abandoned on a mismatch. During a sending that a soft restart let run on, it counts and
has no other effect (R23). -/
def collide (n : Node) : Node :=
  match n.bus.line with
  | .sending .. =>
    let b :=
      { n.bus.lineIdle with
        counters := { n.bus.counters with collisions := satInc n.bus.counters.collisions } }
    if b.drainAtEnd then { n with bus := b.emptyQueues }
    else
      let m := { n with bus := { b with consecutive := b.consecutive + 1 } }
      if 8 ≤ m.bus.consecutive then enterDuplicate m else m
  | _ => n

/-! ## The link station (R18) -/

/-- The lowest-numbered present station whose role set includes LINK. -/
def Bus.findLink (b : Bus) : Option Nat :=
  ((List.range 30).map (· + 1)).find? (fun i => (b.entry i).present && (b.entry i).roles.link)

/-- The link station determined again; the Bool says that it changed. -/
def determineLink (n : Node) : Node × Bool :=
  let l := n.bus.findLink
  ({ n with bus := { n.bus with linkStation := l } }, decide (l ≠ n.bus.linkStation))

/-! ## Roll call and presence (R15 to R17) -/

/-- The content of the station's ROLLCALL, taken at the moment of the offer (R15). -/
def Node.rollcall (n : Node) : Rollcall :=
  let r := n.cfg.roles
  let a := n.announce
  { station := n.cfg.number, roles := r, level := n.air.ownLevel, serial := n.air.ownSerial,
    faults :=
      { silent := n.meters.studio.silent, runaway := n.bus.runawaySeen, clipFault := n.bus.clipFaultSeen },
    link := if r.link then some { holder := a.1, level := a.2, lost := n.link.returnLost } else none,
    phone :=
      if r.phone then some { lines := n.phone.lines.map LineRecord.state, queue := n.phone.queue } else none,
    studio :=
      if r.studio then
        some
          { caller1 := n.take.ch1.onAirWith n.cfg.number, caller2 := n.take.ch2.onAirWith n.cfg.number }
      else none }

/-- The roll-call countdown at a boundary. -/
def rollCount (n : Node) : Node :=
  if n.inRun then
    { n with bus := { n.bus with rollCountdown := n.bus.rollCountdown.map (fun k => k - 1) } }
  else n

def Node.rollDue (n : Node) : Bool := n.inRun && decide (n.bus.rollCountdown = some 0)

/-- ROLLCALL_DUE (R15). -/
def rollcallOffered (n : Node) : Node :=
  let m := offer 31 (.rollcall n.rollcall) n
  { m with
    bus := { m.bus with rollCountdown := some 100, runawaySeen := false, clipFaultSeen := false } }

/-- A presence entry brought up to date by a ROLLCALL (R16, step 1). -/
def presenceOf (r : Rollcall) : Presence :=
  { present := true, age := 0, roles := r.roles, level := r.level, serial := r.serial, faults := r.faults,
    link := r.link, phone := r.phone, studio := r.studio }

/-- A presence entry replaced. -/
def Bus.setEntry (b : Bus) (station : Nat) (p : Presence) : Bus :=
  { b with presence := b.presence.set (station - 1) p }

/-- An accepted ROLLCALL of another station (R16): the entry, the link station (R18) with the standing that
follows it (R125), the hold feed, the claim. -/
def rollcallHeard (r : Rollcall) (n : Node) : Node :=
  let before := n.bus.entry r.station
  let m := { n with bus := n.bus.setEntry r.station (presenceOf r) }
  let d :=
    if !before.present || decide (before.roles ≠ r.roles) then determineLink m else (m, false)
  let fed :=
    if d.2 || decide (d.1.bus.linkStation = some r.station) then judgeHoldFeed d.1 else d.1
  rollcallClaim r.station r.level r.serial (refreshStanding fed)

/-- An accepted CLAIM (R9). -/
def claimPacket (src : Nat) (p : List Byte) (n : Node) : Node :=
  let level := byteAt p 0
  let serial := p.getD 1 0
  claimHeard src level serial
    { n with bus := n.bus.setEntry src { n.bus.entry src with level := level, serial := serial } }

/-- The ages of the presence table at a boundary (R17). -/
def presenceAges (n : Node) : Node :=
  { n with
    bus :=
      { n.bus with
        presence := n.bus.presence.map (fun p => if p.present then { p with age := p.age + 1 } else p) } }

/-- An entry whose age has reached 400. -/
def Presence.expired (p : Presence) : Bool := p.present && decide (400 ≤ p.age)

def Node.presenceDue (n : Node) : Bool := n.bus.presence.any Presence.expired

/-- A station becomes absent (R17): the air unit, the phone unit, the link station; the standing follows
(R125). -/
def stationGone (station : Nat) (n : Node) : Node :=
  let m := { n with bus := n.bus.setEntry station .absent }
  let d := determineLink (studioAbsent station (stationAbsent station m))
  refreshStanding (if d.2 then judgeHoldFeed d.1 else d.1)

/-- PRESENCE_EXPIRY (R17). Several entries that expire at one boundary are handled by station number, each
with its determination of the link station, the model's choice (log 24). -/
def presenceExpiry (n : Node) : Node :=
  ((List.range 30).map (· + 1)).foldl
    (fun m i => if (m.bus.entry i).expired then stationGone i m else m) n

/-! ## The requester table (R13, R14) -/

/-- An outcome handed to the originator: a result code with its data, or none for a timeout. -/
def handOutcome (e : Requester) (answer : Option (Nat × List Byte)) (n : Node) : Node :=
  match e.origin, answer with
  | .take ch key, some (res, data) => takeAnswered ch key e.target res data n
  | .take ch key, none => takeTimedOut ch key n
  | .drop ch key, some (res, _) => dropAnswered ch key e.tag res n
  | .drop ch key, none => dropTimedOut ch key e.tag n
  | .answerKey key, some (res, _) => answerKeyAnswered key res n
  | .answerKey key, none => refuseKey key (n.cfg.keyFn key) .timeout n

/-- An accepted ANSWER (R13). -/
def answerPacket (src : Nat) (p : List Byte) (n : Node) : Node :=
  let code := byteAt p 0
  let tag := p.getD 1 0
  match n.bus.requesters.find? (fun e => decide (e.tag = tag)) with
  | some e =>
    if e.target = src ∧ e.code = code then
      handOutcome e (some (byteAt p 2, p.drop 3))
        { n with
          bus := { n.bus with requesters := n.bus.requesters.filter (fun x => decide (x.tag ≠ tag)) } }
    else mapBusCounters (fun c => { c with unmatchedAnswers := satInc c.unmatchedAnswers }) n
  | none => mapBusCounters (fun c => { c with unmatchedAnswers := satInc c.unmatchedAnswers }) n

/-- The ages of the pending entries at a boundary (R14). -/
def requesterAges (n : Node) : Node :=
  { n with
    bus := { n.bus with requesters := n.bus.requesters.map (fun e => { e with age := e.age + 1 }) } }

/-- An entry whose age has reached 100. -/
def Requester.expired (e : Requester) : Bool := decide (100 ≤ e.age)

def Node.requestDue (n : Node) : Bool := n.bus.requesters.any Requester.expired

/-- REQUEST_TIMEOUT (R14). Several entries that expire at one boundary are handed on in the order in which
they were made, the model's choice, for the table keeps no order (log 24). -/
def requestTimeouts (n : Node) : Node :=
  let gone := n.bus.requesters.filter Requester.expired
  let m := { n with bus := { n.bus with requesters := n.bus.requesters.filter (fun e => !e.expired) } }
  gone.foldl (fun x e => handOutcome e none x) m

/-! ## Requests (R8, R10, R11, R198) -/

/-- RESTART's code and complement (R198). -/
def restartGood (c : Settings) (a : List Byte) : Bool :=
  decide (a.getD 0 0 ^^^ a.getD 1 0 = 0xFF) && decide (a.getD 0 0 = c.restartCode)

/-- RESTART at its owner (R198). -/
def ownRestart (a : List Byte) (n : Node) : Reply :=
  if restartGood n.cfg a then
    .ok .none { n with restart := match n.restart with | some k => some k | none => some 0 }
  else
    .refuse .badField (mapBusCounters (fun c => { c with restartRefusals := satInc c.restartRefusals }) n)

/-- The owner's decision of a request with a known code, the role it needs, and enough arguments. -/
def ownerReply (code src : Nat) (tag : Byte) (a : List Byte) (n : Node) : Reply :=
  match code with
  | 1 => ownCueAdd a n
  | 2 => ownCueRemove a n
  | 3 => ownCueClear n
  | 4 => decidePlay n
  | 5 => ownStop a n
  | 6 => ownSceneWrite a n
  | 7 => ownSceneSwap a n
  | 8 => ownClipOpen src tag a n
  | 9 => ownClipDelete a n
  | 10 => ownClaimSet a n
  | 11 => ownCallAnswer a n
  | 12 => ownCallScreen a n
  | 13 => ownCallTake src a n
  | 14 => ownCallHold src a n
  | 15 => ownCallDrop a n
  | 16 => ownAlertEndLocal a n
  | 17 => ownSiteClipSend a n
  | 18 => statusReply (byteAt a 0) (byteAt a 1) n
  | _ => ownRestart a n

/-- What is decided of a REQUEST in RUN, addressed to the station alone (R10). A RESTART with too few argument
bytes is answered here and not by its owner, so the restart-refusals counter of R198 does not advance, the
model's choice (log 13). -/
def decideRequest (code src : Nat) (tag : Byte) (a : List Byte) (n : Node) : Reply :=
  if code = 0 ∨ 19 < code then
    .refuse .unknownKind (mapBusCounters (fun c => { c with unknownRequests := satInc c.unknownRequests }) n)
  else if !roleServes n.cfg.roles code then .refuse .wrongRole n
  else if a.length < minArgs code then .refuse .badField n
  else ownerReply code src tag a n

/-- Whether an answer is the OK whose sending brings the pending soft restart: that of the RESTART which
made it pending (R198). -/
def bringsRestart (code : Nat) (r : Reply) (before : Node) : Bool :=
  decide (code = 19) && decide (r.result = .ok) && before.restart.isNone

/-- An accepted REQUEST (R8, R10, R11). What its decision offers to the bus is filed before its ANSWER, the
model's choice (log 18). -/
def requestPacket (src dst : Nat) (p : List Byte) (n : Node) : Node :=
  if n.inRun && decide (dst ≠ 31) then
    let code := byteAt p 0
    let tag := p.getD 1 0
    let r := decideRequest code src tag (p.drop 2) n
    offerPacket src (.answer code tag r.result r.data) (bringsRestart code r n) r.node
  else n

/-! ## Reception (R6 to R8) -/

/-- The form check of a kind (R6, order 4). -/
def formGood (kind src : Nat) (p : List Byte) : Bool :=
  match kind with
  | 1 => (parseBlock p).isSome
  | 2 => decide (p.length = 2) && decide (byteAt p 0 ≤ 2)
  | 3 => (parseRollcall src p).isSome
  | 4 => decide (2 ≤ p.length)
  | 5 => decide (3 ≤ p.length)
  | _ => true

/-- An accepted packet handed on (R8), with the words that a CLIPSEG writes. -/
def deliver (kind src dst : Nat) (p : List Byte) (n : Node) : Node × Option SegmentWrite :=
  match kind with
  | 1 =>
    match parseBlock p with
    | some f => (blockArrives src f n, none)
    | none => (n, none)
  | 2 => (claimPacket src p n, none)
  | 3 =>
    match parseRollcall src p with
    | some r => (rollcallHeard r n, none)
    | none => (n, none)
  | 4 => (requestPacket src dst p n, none)
  | 5 => (answerPacket src p n, none)
  | 6 => (alertPacket src p n, none)
  | 7 => if n.cfg.roles.studio then clipSegment p n else (n, none)
  | _ => (n, none)

/-- A packet of the station's own number (R7). -/
def ownNumber (kind : Nat) (n : Node) : Node :=
  if kind = 3 ∧ (n.station = .listen ∨ n.station = .run) then enterDuplicate n
  else mapBusCounters (fun c => { c with ownSource := satInc c.ownSource }) n

def countFormat (n : Node) : Node :=
  mapBusCounters (fun c => { c with formatErrors := satInc c.formatErrors }) n

/-- Checks 2 to 6 of R6 on a packet with a good CRC, its kind 1 to 7 and its length field agreeing. -/
def checkPacket (kind src dst : Nat) (p : List Byte) (n : Node) : Node × Option SegmentWrite :=
  if !addressGood src dst p.length then (countFormat n, none)
  else if !formGood kind src p then (countFormat n, none)
  else if n.station = .unconfigured then (n, none)
  else if src = n.cfg.number then (ownNumber kind n, none)
  else if dst ≠ n.cfg.number ∧ dst ≠ 31 then (n, none)
  else deliver kind src dst p (mapBusCounters (fun c => { c with accepted := satInc c.accepted }) n)

/-- The bus port receives: every state but CONFIG, and not a SITE chip (R6, R200). -/
def Node.receives (n : Node) : Bool := !n.cfg.roles.site && decide (n.station ≠ .config)

/-- The end of a received packet: carrier has fallen away. -/
def packetEnd (n : Node) : Node :=
  match n.bus.line with
  | .sending .. => n
  | _ => { n with bus := n.bus.lineIdle }

/-- A packet received with a good CRC. In CONFIG the row changes nothing, the line and the idle count included, the
model's choice (log 13). -/
def receivePacket (kind src dst : Nat) (p : List Byte) (n : Node) : Node × Option SegmentWrite :=
  if n.receives then checkPacket kind src dst p (packetEnd n) else (n, none)

/-- The bytes of a packet as received (R6): every check is made on them. In CONFIG the row changes nothing, as in
receivePacket (log 13). -/
def receiveBytes (bs : List Byte) (n : Node) : Node × Option SegmentWrite :=
  if !n.receives then (n, none)
  else
    let m := packetEnd n
    let h := headerOf bs
    if !crcGood bs then (mapBusCounters (fun c => { c with crcErrors := satInc c.crcErrors }) m, none)
    else if !(decide (h.len = bs.length - 9) && addressGood h.src h.dst h.len) then (countFormat m, none)
    else if h.kind = 0 ∨ 7 < h.kind then
      (mapBusCounters (fun c => { c with unknownKinds := satInc c.unknownKinds }) m, none)
    else checkPacket h.kind h.src h.dst (payloadOf bs) m

/-- The payload of a REQUEST. -/
def requestPayload (code : Nat) (tag : Byte) (a : List Byte) : List Byte :=
  BitVec.ofNat 8 code :: tag :: a

/-! ## Values after a soft restart (R23) -/

/-- The bus unit after a soft restart; a packet on the line is sent to its end before the queues are
emptied. -/
def Bus.soft (b : Bus) : Bus :=
  let kept : Bus :=
    { Bus.reset with line := b.line, idleCount := b.idleCount, counters := b.counters }
  match b.line with
  | .sending .. => { kept with q0 := b.q0, q1 := b.q1, q2 := b.q2, q3 := b.q3, drainAtEnd := true }
  | _ => kept

end Sys2Proof.Machine
end

