-- ==== Sys2Proof/Machine/Startup.lean ====
section
/-! DEFINITION. Start-up, the entry to RUN, and the soft restart (sections 11.4 to 11.7). -/

namespace Sys2Proof.Machine

/-- The fixed meter points that start on entry to LISTEN (R57). -/
def startPoints (n : Node) : Node :=
  let t := n.meters
  { n with
    meters :=
      { t with
        studio := if n.cfg.roles.studio then t.studio.begin else t.studio,
        linkOutput := if n.cfg.roles.link then t.linkOutput.begin else t.linkOutput } }

/-- Entry to LISTEN: the window count 0, the fixed meter points started (R200, R57). -/
def enterListen (n : Node) : Node := startPoints { n with station := .listen, windowCount := 0 }

/-- A good record's values handed to their owners (R199). -/
def takeSettings (c : Settings) (n : Node) : Node :=
  { n with cfg := c, mixer := .ofSettings c, store := .ofPages c.memPages }

/-- The site unit starts, and its two meter points (R192, R200). -/
def startSite (c : Settings) (n : Node) : Node :=
  let t := n.meters
  { n with
    station := .run, site := .ofSettings c,
    meters := { t with siteOutput := t.siteOutput.begin, incoming := t.incoming.begin } }

/-- The end of the reading of the configuration record (R199, R200). It comes in CONFIG alone. A bad record
whose role set is SITE makes the part an UNCONFIGURED site (R192, log 22). -/
def configRead (bytes : List Byte) (n : Node) : Node :=
  if n.station = .config then
    match readRecord bytes with
    | some c => if c.roles.site then startSite c (takeSettings c n) else enterListen (takeSettings c n)
    | none => { n with station := .unconfigured, badSite := siteRecord bytes }
  else n

/-! ## The LISTEN window (R200) -/

def windowCount (n : Node) : Node :=
  if n.station = .listen then { n with windowCount := n.windowCount + 1 } else n

def Node.windowDue (n : Node) : Bool :=
  decide (n.station = .listen) && decide (Config.listenWindow ≤ n.windowCount)

/-- Entry to RUN: the roll call, indices 0 and 5, the first selection (R200, R15, R24, R123). -/
def enterRun (n : Node) : Node :=
  select
    (activateOut 5
      (activateOut 0 { n with station := .run, bus := { n.bus with rollCountdown := some 1 } }))

/-! ## The soft restart (R198, R201) -/

/-- The local lines after a soft restart: a VOICE_OPEN key still held is reported held again at once. -/
def linesSoft (n : Node) : Lines :=
  { n.lines with pressed := [], voiceHeld := (List.range 8).map n.voiceAccepted }

/-- The clip store after a soft restart (R82): the loads in progress ended, the use counts 0. -/
def Store.soft (s : Store) : Store :=
  let ended := s.loads.foldl (fun x l => x.emptyClip l.clip) s
  { ended with loads := [], dir := ended.dir.map (fun e => { e with useCount := 0 }) }

/-- The stream unit after a soft restart (R41). -/
def Streams.soft (_ : Streams) : Streams := Streams.reset

/-- The meter points after a soft restart (R63). -/
def Meters.soft (t : Meters) : Meters :=
  { studio := t.studio.soft, slots := t.slots.map MeterPoint.soft, holderInput := t.holderInput.soft,
    linkOutput := t.linkOutput.soft, siteOutput := t.siteOutput.soft, incoming := t.incoming.soft }

/-- The soft restart: each block takes its soft-restart values, and the station enters LISTEN. -/
def softRestart (n : Node) : Node :=
  enterListen
    { n with
      restart := none, bus := n.bus.soft, streams := n.streams.soft, mixer := n.mixer.soft n.cfg,
      meters := n.meters.soft, store := n.store.soft, cue := n.cue.soft, air := n.air.soft,
      phone := n.phone.soft, take := n.take.soft, alert := n.alert.soft, link := n.link.soft,
      lines := linesSoft n }

/-- A boundary counted toward a pending soft restart. -/
def restartCount (n : Node) : Node := { n with restart := n.restart.map (fun k => k + 1) }

/-- The tenth boundary after the acceptance has come (R198). -/
def Node.restartDue (n : Node) : Bool :=
  match n.restart with
  | some k => decide (10 ≤ k)
  | none => false

/-- SEND_COMPLETE (R2): the packet leaves its queue; the OK answer of a RESTART brings the pending soft
restart (R198). -/
def sendingComplete (n : Node) : Node :=
  match n.bus.line with
  | .sending cls _ =>
    let m := { n with bus := n.bus.sentHead cls }
    match n.bus.head cls with
    | some p => if p.restartOk && m.restart.isSome then softRestart m else m
    | none => m
  | _ => n

/-- A pin reset (R200): every block at its pin-reset values. The levels at the pins are the outside
world's, and the free-value counter is the model's own. -/
def pinResetNode (n : Node) : Node := { Node.reset with pins := n.pins, fresh := n.fresh }

end Sys2Proof.Machine
end

