-- ==== Sys2Proof/Machine/Boundary.lean ====
section
/-! DEFINITION. The block boundary as a list of stages (log 1): what is due at each, what it does, their
order, and the four shapes that a command's meaning takes. -/

namespace Sys2Proof.Machine

/-! ## Stages -/

/-- Whether a stage has work at this boundary. A stage that counts always has. -/
def stageDue (st : Stage) (n : Node) : Bool :=
  match st with
  | .voiceOpenRelease => n.voiceReleaseDue
  | .voiceOpen => n.voiceOpenDue
  | .outgoingExpiry => n.outgoingDue
  | .requestTimeout => n.requestDue
  | .presenceExpiry => n.presenceDue
  | .slotTimeout => n.slotTimeoutDue
  | .loadTimeout => n.store.loads.any LoadContext.expired
  | .meterWindowClose => n.meters.anyDone
  | .ringStart => n.ringDue
  | .giveUp => n.giveUpDue
  | .hangUp => n.hangUpDue
  | .takeWatchExpiry => n.takeWatchDue
  | .callerWatchExpiry => n.callerWatchDue
  | .itemNaturalEnd => n.naturalEndDue
  | .faderRampDone => n.faderDue
  | .segueDue => n.segueDue
  | .segueCountdownDone => n.countdownDue
  | .fadeOutStart => n.fadeOutDue
  | .callerReleaseDone => n.releaseDue
  | .sceneSwapEnd => n.mixer.swapOver
  | .alertLineGapTimeout => n.gapDue
  | .alertClipDone => n.alertClipDue
  | .alertFadeDone => n.alertFadeDue
  | .alertCapDue => n.alertCapDue
  | .alertActivation => n.activationDue
  | .legDrop => n.legDropDue
  | .reservePlayerStart => n.reserveStartDue
  | .linkPhase => n.linkWorks
  | .linkFrameMade => n.frameDue
  | .returnLost => n.returnLostDue
  | .transferNoReport => n.noReportDue
  | .claimKey => n.keyDue isClaimKey
  | .playNext => n.keyDue (isFn .playNext)
  | .stopAll => n.keyDue (isFn .stopAll)
  | .takeNextCaller => n.keyDue (isFn .takeNextCaller)
  | .dropCaller => n.keyDue isDropKey
  | .keySceneSwap => n.keyDue (isFn .sceneSwap)
  | .answerNextLine => n.keyDue (isFn .answerNextLine)
  | .rollcallDue => n.rollDue
  | .listenWindowEnd => n.windowDue
  | .restartDeadline => n.restartDue
  | .siteFrameStall => n.stallDue
  | .siteContactChange => n.contactDue
  | .siteReservePlayerStart => n.siteReserveDue
  | .siteFrameBoundary => n.siteFrameDue
  | .siteConceal => n.concealDue
  | .siteReserveEntry => n.reserveEntryDue
  | _ => true

/-- What a stage does. -/
def stageRun (st : Stage) (m : Memory) (n : Node) : Node :=
  match st with
  | .tallyApply => tallyApply n
  | .keySample => keySample n
  | .voiceOpenRelease => voiceRelease n
  | .voiceOpen => voiceHold n
  | .outgoingAges => outgoingAges n
  | .outgoingExpiry => outgoingExpiry n
  | .requesterAges => requesterAges n
  | .requestTimeout => requestTimeouts n
  | .presenceAges => presenceAges n
  | .presenceExpiry => presenceExpiry n
  | .makeBlocks => makeBlocks n
  | .slotAges => slotAges n
  | .slotTimeout => slotTimeouts n
  | .slotRead => slotReads n
  | .loadAges => loadAges n
  | .loadTimeout => loadTimeouts n
  | .meterAdvance => meterAdvance n
  | .meterWindowClose => meterWindows n
  | .phoneCounts => phoneCounts n
  | .ringStart => ringStarts n
  | .giveUp => giveUps n
  | .hangUp => hangUps n
  | .takeWatch => takeWatches n
  | .takeWatchExpiry => takeWatchExpiries n
  | .callerWatch => callerWatches n
  | .callerWatchExpiry => callerWatchExpiries n
  | .cueReports => cueReports n
  | .cueCounts => cueCounts n
  | .countdownLower => countdownLower n
  | .itemNaturalEnd => naturalEnds n
  | .streamItemEnds => streamItemEnds n
  | .faderRampDone => faderReports n
  | .cueArm => cueArm n
  | .cueResume => cueResume n
  | .segueDue => seguesTake n
  | .segueCountdownDone => countdownDone n
  | .playStarts => playStarts n
  | .faderTargets => faderTargets n
  | .fadeOutStart => fadeOutStarts n
  | .callerReleaseDone => callerReleases n
  | .swapCount => { n with mixer := n.mixer.countSwap }
  | .sceneSwapEnd => endSwap n
  | .mixerTargets => mixerTargets n
  | .alertCounts => alertCounts n
  | .alertLineGapTimeout => abandonRecord n
  | .alertClipDone => alertClipDone n
  | .alertFadeDone => completeAlert n
  | .alertCapDue => alertCap n
  | .alertStartNext => alertStartNext n
  | .alertActivation => activateNext false n
  | .legDrop => legDrop n
  | .sourceChange => sourceChange n
  | .reserveStop => reserveStop n
  | .reservePlayerStart => reserveStart n
  | .linkPhase => linkPhase n
  | .linkFrameMade => linkFrameMade m n
  | .returnLost => returnLoss n
  | .transferNoReport => endTransfer .noReport n
  | .claimKey => claimKeys n
  | .playNext => playNextKeys n
  | .stopAll => stopAllKeys n
  | .takeNextCaller => takeNextKeys n
  | .dropCaller => dropKeys n
  | .keySceneSwap => sceneSwapKeys n
  | .answerNextLine => answerNextKeys n
  | .rollCount => rollCount n
  | .rollcallDue => rollcallOffered n
  | .windowCount => windowCount n
  | .listenWindowEnd => enterRun n
  | .restartCount => restartCount n
  | .restartDeadline => softRestart n
  | .closeBoundary => openHoldFeed { n with audio := .empty }
  | .siteStall => siteStall n
  | .siteFrameStall => frameStall n
  | .siteContactChange => sampleContacts n
  | .siteLegs => siteLegs n
  | .siteReserveStop => siteReserveStop n
  | .siteReservePlayerStart => siteReserveStart n
  | .sitePhase => sitePhase n
  | .siteFrameBoundary => siteFrame n
  | .siteConceal => enterConcealing n
  | .siteReserveEntry => enterReserve .linkLoss n

/-- A stage where it has work, and what follows its changes at once. -/
def runStage (m : Memory) (n : Node) (st : Stage) : Node :=
  if stageDue st n then (stageRun st m n).settled else n

/-- Stages one after another. -/
def runStages (m : Memory) (sts : List Stage) (n : Node) : Node := sts.foldl (runStage m) n

/-- The stages of a boundary of a station on the bus, in the model's order (log 1): the tally outputs, the
BLOCKs and the meter points' count of the block that ended, the report of the air unit and the hand-over to
the link unit that have waited for the boundary, the key inputs, the bus unit's tables, the receive slots,
the clip store, the meter points' windows, the phone unit (its counts before the ring starts, so that the loop
contact of a line answered by a ring start counts from the boundary after, and the hang-ups before the
take-watches, so that a line that hangs up counts no expiry) and take path, the cue engine's five steps (R88; a
countdown that completes before the starts that PLAY left pending, log 17),
the mixer, the alert unit (a clip that is done before a cap that falls due), the keys, the roll call, the
LISTEN window, the link unit with the hand-overs of this boundary, a soft restart that is due. -/
def stationStages : List Stage :=
  [.tallyApply, .makeBlocks, .meterAdvance, .cueReports, .legDrop, .sourceChange, .keySample, .voiceOpenRelease,
    .voiceOpen, .outgoingAges, .outgoingExpiry, .requesterAges, .requestTimeout, .presenceAges, .presenceExpiry, .slotAges,
    .slotTimeout, .slotRead, .loadAges, .loadTimeout, .meterWindowClose] ++
  [.phoneCounts, .ringStart, .giveUp, .hangUp, .takeWatch, .takeWatchExpiry, .callerWatch,
    .callerWatchExpiry] ++
  [.cueCounts, .countdownLower, .itemNaturalEnd, .streamItemEnds, .faderRampDone, .cueArm,
    .cueResume, .segueDue, .segueCountdownDone, .playStarts, .faderTargets, .fadeOutStart] ++
  [.callerReleaseDone, .swapCount, .sceneSwapEnd, .mixerTargets] ++
  [.alertCounts, .alertLineGapTimeout, .alertClipDone, .alertFadeDone, .alertCapDue, .alertStartNext,
    .alertActivation] ++
  [.claimKey, .playNext, .stopAll, .takeNextCaller, .dropCaller, .keySceneSwap, .answerNextLine,
    .rollCount, .rollcallDue, .windowCount, .listenWindowEnd] ++
  [.sourceChange, .reserveStop, .reservePlayerStart, .linkPhase, .linkFrameMade, .returnLost,
    .transferNoReport, .restartCount, .restartDeadline, .closeBoundary]

/-- The stages of a boundary of a SITE chip. -/
def siteStages : List Stage :=
  [.tallyApply, .siteStall, .siteFrameStall, .siteContactChange, .siteLegs, .siteReserveStop,
    .siteReservePlayerStart, .meterAdvance, .meterWindowClose, .sitePhase, .siteFrameBoundary,
    .siteConceal, .siteReserveEntry, .closeBoundary]

/-- The stages of the part's boundaries: in CONFIG no work is done, and in UNCONFIGURED the tally outputs
alone are set. -/
def Node.stages (n : Node) : List Stage :=
  if n.onBus then stationStages
  else if n.siteWorks then siteStages
  else if n.station = .unconfigured then [.tallyApply, .closeBoundary]
  else []

/-! ## The shapes of a meaning -/

/-- The boundary in progress run to its end. -/
def finishBoundary (s : State) : State :=
  { s with agenda := [], node := runStages s.mem s.agenda s.node }

/-- The standing, its indications and the staging pattern follow every change at once (R125, R126, R196). -/
def settle (s : State) : State := { s with node := s.node.settled }

/-- The meaning of a command that acts between two boundaries on the part. -/
def onNode (f : Memory → Node → Node) (s : State) : State :=
  let x := finishBoundary s
  settle { x with node := f x.mem x.node }

/-- The words of a CLIPSEG written to the sample memory. -/
def applySegment (w : Option SegmentWrite) (m : Memory) : Memory :=
  match w with
  | some x => m.writeAll x.first x.words
  | none => m

/-- The meaning of a packet's reception. -/
def onPacket (f : Node → Node × Option SegmentWrite) (s : State) : State :=
  let x := finishBoundary s
  let r := f x.node
  settle { x with mem := applySegment r.2 x.mem, node := r.1 }

/-- The meaning of bytes at the programme link port of a SITE chip. -/
def onSitePort (bs : List Byte) (s : State) : State :=
  let x := finishBoundary s
  let r := siteBytes bs x.mem x.node
  settle { x with mem := r.1, node := r.2 }

/-- A whole boundary, or the rest of the one in progress. -/
def wholeBoundary (s : State) : State :=
  match s.agenda with
  | [] => settle { s with node := runStages s.mem s.node.stages s.node }
  | _ => settle (finishBoundary s)

/-- The state at which the event of a stage is looked for: the boundary in progress where the stage is
still to come, else a new boundary. -/
def openBoundary (st : Stage) (s : State) : State :=
  if s.agenda.contains st then s
  else
    let x := settle (finishBoundary s)
    { x with agenda := x.node.stages }

/-- The meaning of a row that is one event of a block boundary: the stages before it are run, and then
it; where it is not due there, nothing happens (log 1). -/
def boundaryRow (st : Stage) (s : State) : State :=
  let x := openBoundary st s
  if x.agenda.contains st then
    let n := runStages x.mem (x.agenda.takeWhile (fun a => decide (a ≠ st))) x.node
    if stageDue st n then
      settle
        { x with
          agenda := (x.agenda.dropWhile (fun a => decide (a ≠ st))).drop 1, node := stageRun st x.mem n }
    else s
  else s

end Sys2Proof.Machine
end

