-- ==== Sys2Proof/Machine/BoundaryCommands.lean ====
section
/-! DEFINITION. The meanings of BLOCK_BOUNDARY and of the rows that are one event of a block boundary, the key presses among them. What each event does stands in its chapter's file. -/

namespace Sys2Proof.Machine

/-- BLOCK_BOUNDARY (R88): a whole boundary with all its events, or the rest of the one in progress. -/
def execBlockBoundary (s : State) : Host.Outcome State Fault Refusal := .next (wholeBoundary s)

/-- RESTART_DEADLINE (R198). -/
def execRestartDeadline (s : State) : Host.Outcome State Fault Refusal := .next (boundaryRow .restartDeadline s)

/-- ROLLCALL_DUE (R15). -/
def execRollcallDue (s : State) : Host.Outcome State Fault Refusal := .next (boundaryRow .rollcallDue s)

/-- REQUEST_TIMEOUT (R14). -/
def execRequestTimeout (s : State) : Host.Outcome State Fault Refusal := .next (boundaryRow .requestTimeout s)

/-- PRESENCE_EXPIRY (R17). -/
def execPresenceExpiry (s : State) : Host.Outcome State Fault Refusal := .next (boundaryRow .presenceExpiry s)

/-- SLOT_TIMEOUT (R37). -/
def execSlotTimeout (s : State) : Host.Outcome State Fault Refusal := .next (boundaryRow .slotTimeout s)

/-- SCENE_SWAP_END (R49). -/
def execSceneSwapEnd (s : State) : Host.Outcome State Fault Refusal := .next (boundaryRow .sceneSwapEnd s)

/-- FADER_RAMP_DONE (R50). -/
def execFaderRampDone (s : State) : Host.Outcome State Fault Refusal := .next (boundaryRow .faderRampDone s)

/-- CALLER_RELEASE_DONE (R52). -/
def execCallerReleaseDone (s : State) : Host.Outcome State Fault Refusal := .next (boundaryRow .callerReleaseDone s)

/-- METER_WINDOW_CLOSE (R58). -/
def execMeterWindowClose (s : State) : Host.Outcome State Fault Refusal := .next (boundaryRow .meterWindowClose s)

/-- LOAD_TIMEOUT (R76). -/
def execLoadTimeout (s : State) : Host.Outcome State Fault Refusal := .next (boundaryRow .loadTimeout s)

/-- FADE_OUT_START (R93). -/
def execFadeOutStart (s : State) : Host.Outcome State Fault Refusal := .next (boundaryRow .fadeOutStart s)

/-- SEGUE_DUE (R94). -/
def execSegueDue (s : State) : Host.Outcome State Fault Refusal := .next (boundaryRow .segueDue s)

/-- ITEM_NATURAL_END (R96). -/
def execItemNaturalEnd (s : State) : Host.Outcome State Fault Refusal := .next (boundaryRow .itemNaturalEnd s)

/-- SEGUE_COUNTDOWN_DONE (R95). -/
def execSegueCountdownDone (s : State) : Host.Outcome State Fault Refusal := .next (boundaryRow .segueCountdownDone s)

/-- OUTGOING_EXPIRY (R117). -/
def execOutgoingExpiry (s : State) : Host.Outcome State Fault Refusal := .next (boundaryRow .outgoingExpiry s)

/-- RING_START (R130). -/
def execRingStart (s : State) : Host.Outcome State Fault Refusal := .next (boundaryRow .ringStart s)

/-- GIVE_UP (R130). -/
def execGiveUp (s : State) : Host.Outcome State Fault Refusal := .next (boundaryRow .giveUp s)

/-- HANG_UP (R132). -/
def execHangUp (s : State) : Host.Outcome State Fault Refusal := .next (boundaryRow .hangUp s)

/-- TAKE_WATCH_EXPIRY (R138). -/
def execTakeWatchExpiry (s : State) : Host.Outcome State Fault Refusal := .next (boundaryRow .takeWatchExpiry s)

/-- CALLER_WATCH_EXPIRY (R145). -/
def execCallerWatchExpiry (s : State) : Host.Outcome State Fault Refusal := .next (boundaryRow .callerWatchExpiry s)

/-- ALERT_LINE_GAP_TIMEOUT (R150). -/
def execAlertLineGapTimeout (s : State) : Host.Outcome State Fault Refusal := .next (boundaryRow .alertLineGapTimeout s)

/-- ALERT_ACTIVATION (R159). -/
def execAlertActivation (s : State) : Host.Outcome State Fault Refusal := .next (boundaryRow .alertActivation s)

/-- ALERT_CLIP_DONE (R160). -/
def execAlertClipDone (s : State) : Host.Outcome State Fault Refusal := .next (boundaryRow .alertClipDone s)

/-- ALERT_FADE_DONE (R160). -/
def execAlertFadeDone (s : State) : Host.Outcome State Fault Refusal := .next (boundaryRow .alertFadeDone s)

/-- ALERT_CAP_DUE (R160). -/
def execAlertCapDue (s : State) : Host.Outcome State Fault Refusal := .next (boundaryRow .alertCapDue s)

/-- LEG_DROP (R170). -/
def execLegDrop (s : State) : Host.Outcome State Fault Refusal := .next (boundaryRow .legDrop s)

/-- RESERVE_PLAYER_START (R169). -/
def execReservePlayerStart (s : State) : Host.Outcome State Fault Refusal := .next (boundaryRow .reservePlayerStart s)

/-- LINK_FRAME_MADE (R173). -/
def execLinkFrameMade (s : State) : Host.Outcome State Fault Refusal := .next (boundaryRow .linkFrameMade s)

/-- TRANSFER_NO_REPORT (R178). -/
def execTransferNoReport (s : State) : Host.Outcome State Fault Refusal := .next (boundaryRow .transferNoReport s)

/-- RETURN_LOST (R179). -/
def execReturnLost (s : State) : Host.Outcome State Fault Refusal := .next (boundaryRow .returnLost s)

/-- SITE_FRAME_STALL (R182). -/
def execSiteFrameStall (s : State) : Host.Outcome State Fault Refusal := .next (boundaryRow .siteFrameStall s)

/-- SITE_FRAME_BOUNDARY (R184). -/
def execSiteFrameBoundary (s : State) : Host.Outcome State Fault Refusal := .next (boundaryRow .siteFrameBoundary s)

/-- SITE_CONCEAL (R185). -/
def execSiteConceal (s : State) : Host.Outcome State Fault Refusal := .next (boundaryRow .siteConceal s)

/-- SITE_RESERVE_ENTRY (R185). -/
def execSiteReserveEntry (s : State) : Host.Outcome State Fault Refusal := .next (boundaryRow .siteReserveEntry s)

/-- SITE_RESERVE_PLAYER_START (R187). -/
def execSiteReservePlayerStart (s : State) : Host.Outcome State Fault Refusal := .next (boundaryRow .siteReservePlayerStart s)

/-- SITE_CONTACT_CHANGE (R191). -/
def execSiteContactChange (s : State) : Host.Outcome State Fault Refusal := .next (boundaryRow .siteContactChange s)

/-- CLAIM_KEY (R109). -/
def execClaimKey (s : State) : Host.Outcome State Fault Refusal := .next (boundaryRow .claimKey s)

/-- PLAY_NEXT (R194). -/
def execPlayNext (s : State) : Host.Outcome State Fault Refusal := .next (boundaryRow .playNext s)

/-- STOP_ALL (R194). -/
def execStopAll (s : State) : Host.Outcome State Fault Refusal := .next (boundaryRow .stopAll s)

/-- TAKE_NEXT_CALLER (R144). -/
def execTakeNextCaller (s : State) : Host.Outcome State Fault Refusal := .next (boundaryRow .takeNextCaller s)

/-- DROP_CALLER (R147). -/
def execDropCaller (s : State) : Host.Outcome State Fault Refusal := .next (boundaryRow .dropCaller s)

/-- KEY_SCENE_SWAP (R49). -/
def execKeySceneSwap (s : State) : Host.Outcome State Fault Refusal := .next (boundaryRow .keySceneSwap s)

/-- ANSWER_NEXT_LINE (R194). -/
def execAnswerNextLine (s : State) : Host.Outcome State Fault Refusal := .next (boundaryRow .answerNextLine s)

/-- VOICE_OPEN (R53). -/
def execVoiceOpen (s : State) : Host.Outcome State Fault Refusal := .next (boundaryRow .voiceOpen s)

/-- VOICE_OPEN_RELEASE (R193). -/
def execVoiceOpenRelease (s : State) : Host.Outcome State Fault Refusal := .next (boundaryRow .voiceOpenRelease s)

/-- LISTEN_WINDOW_END (R200). -/
def execListenWindowEnd (s : State) : Host.Outcome State Fault Refusal := .next (boundaryRow .listenWindowEnd s)

end Sys2Proof.Machine
end

