-- ==== Sys2Proof/Machine/LineCommands.lean ====
section
/-! DEFINITION. The meanings of the rows of the studio bus line: deferral, the end of a sending, and the packets received. -/

namespace Sys2Proof.Machine

/-- DEFERRAL_EXPIRY (R1): the gap units pass, and the station starts sending where its wait is reached. -/
def execDeferralExpiry (gaps : Nat) (s : State) : Host.Outcome State Fault Refusal :=
  .next (onNode (fun _ => onLine (fun n => (gapsPass gaps n).1)) s)

/-- CARRIER_APPEARS (R1). -/
def execCarrierAppears (gaps : Nat) (s : State) : Host.Outcome State Fault Refusal :=
  .next (onNode (fun _ => onLine (carrier gaps)) s)

/-- SEND_COMPLETE (R2, R198). -/
def execSendComplete (s : State) : Host.Outcome State Fault Refusal :=
  .next (onNode (fun _ => onLine sendingComplete) s)

/-- SEND_COLLISION (R2, R20). -/
def execSendCollision (s : State) : Host.Outcome State Fault Refusal :=
  .next (onNode (fun _ => onLine collide) s)

/-- PACKET_DISCARDED (R6): the bytes of a packet, each check made on them; a packet that passes all six
is handed on as R8 lays down. -/
def execPacketDiscarded (bytes : List Byte) (s : State) : Host.Outcome State Fault Refusal :=
  .next (onPacket (fun n => receiveBytes bytes n) s)

/-- BLOCK (R31). -/
def execBlock (src dst : Nat) (payload : List Byte) (s : State) : Host.Outcome State Fault Refusal :=
  .next (onPacket (fun n => receivePacket 1 src dst payload n) s)

/-- CLAIM (R9). -/
def execClaim (src dst : Nat) (payload : List Byte) (s : State) : Host.Outcome State Fault Refusal :=
  .next (onPacket (fun n => receivePacket 2 src dst payload n) s)

/-- ROLLCALL (R16). -/
def execRollcall (src dst : Nat) (payload : List Byte) (s : State) : Host.Outcome State Fault Refusal :=
  .next (onPacket (fun n => receivePacket 3 src dst payload n) s)

/-- ANSWER (R13). -/
def execAnswer (src dst : Nat) (payload : List Byte) (s : State) : Host.Outcome State Fault Refusal :=
  .next (onPacket (fun n => receivePacket 5 src dst payload n) s)

/-- ALERT (R153). -/
def execAlert (src dst : Nat) (payload : List Byte) (s : State) : Host.Outcome State Fault Refusal :=
  .next (onPacket (fun n => receivePacket 6 src dst payload n) s)

/-- CLIPSEG (R72). -/
def execClipseg (src dst : Nat) (payload : List Byte) (s : State) : Host.Outcome State Fault Refusal :=
  .next (onPacket (fun n => receivePacket 7 src dst payload n) s)

end Sys2Proof.Machine
end

