-- ==== Sys2Proof/Machine/PortCommands.lean ====
section
/-! DEFINITION. The meanings of the rows of the alert line and of the programme link port. -/

namespace Sys2Proof.Machine

/-- ALERT_LINE_BYTE (R150): one character of the alert line. -/
def execAlertLineByte (b : Byte) (stopBit : Bool) (s : State) : Host.Outcome State Fault Refusal :=
  .next (onNode (fun _ n => alertByte b stopBit n) s)

/-- ALERT_LINE_RECORD (R151, R152): the characters of a record, one after another. -/
def execAlertLineRecord (bytes : List Byte) (s : State) : Host.Outcome State Fault Refusal :=
  .next (onNode (fun _ n => alertBytesHeard bytes n) s)

/-- LINK_FRAME_SENT (R175). -/
def execLinkFrameSent (s : State) : Host.Outcome State Fault Refusal :=
  .next (onNode (fun _ n => linkFrameSent n) s)

/-- RETURN_FRAME (R179, R178). -/
def execReturnFrame (bytes : List Byte) (s : State) : Host.Outcome State Fault Refusal :=
  .next (onNode (fun _ n => returnFrameHeard bytes n) s)

/-- SITE_LINK_FRAME (R182): the bytes of a link frame, one after another. -/
def execSiteLinkFrame (bytes : List Byte) (s : State) : Host.Outcome State Fault Refusal :=
  .next (onSitePort bytes s)

/-- SITE_LINK_BYTE (R182): one byte at the programme link port. -/
def execSiteLinkByte (b : Byte) (s : State) : Host.Outcome State Fault Refusal :=
  .next (onSitePort [b] s)

end Sys2Proof.Machine
end

