-- ==== Sys2Proof/Machine/RequestCommands.lean ====
section
/-! DEFINITION. The meanings of the requests (section 1.4): what the bus unit and the owner decide, and the answer offered. -/

namespace Sys2Proof.Machine

/-- A REQUEST received (R8, R10, R11). -/
def onRequest (src dst : Nat) (code : Byte) (tag : Byte) (a : List Byte) (s : State) : State :=
  onPacket (fun n => receivePacket 4 src dst (code :: tag :: a) n) s

/-- UNKNOWN_REQUEST (R10). A code of 1 to 19 is that request. -/
def execUnknownRequest (src dst : Nat) (code tag : Byte) (a : List Byte) (s : State) : Host.Outcome State Fault Refusal :=
  .next (onRequest src dst code tag a s)

/-- CUE_ADD, request code 1 (R84). -/
def execCueAdd (src dst : Nat) (tag : Byte) (a : List Byte) (s : State) : Host.Outcome State Fault Refusal :=
  .next (onRequest src dst 1 tag a s)

/-- CUE_REMOVE, request code 2 (R85). -/
def execCueRemove (src dst : Nat) (tag : Byte) (a : List Byte) (s : State) : Host.Outcome State Fault Refusal :=
  .next (onRequest src dst 2 tag a s)

/-- CUE_CLEAR, request code 3 (R86). -/
def execCueClear (src dst : Nat) (tag : Byte) (a : List Byte) (s : State) : Host.Outcome State Fault Refusal :=
  .next (onRequest src dst 3 tag a s)

/-- PLAY, request code 4 (R90). -/
def execPlay (src dst : Nat) (tag : Byte) (a : List Byte) (s : State) : Host.Outcome State Fault Refusal :=
  .next (onRequest src dst 4 tag a s)

/-- STOP, request code 5 (R98). -/
def execStop (src dst : Nat) (tag : Byte) (a : List Byte) (s : State) : Host.Outcome State Fault Refusal :=
  .next (onRequest src dst 5 tag a s)

/-- SCENE_WRITE, request code 6 (R48). -/
def execSceneWrite (src dst : Nat) (tag : Byte) (a : List Byte) (s : State) : Host.Outcome State Fault Refusal :=
  .next (onRequest src dst 6 tag a s)

/-- SCENE_SWAP, request code 7 (R49). -/
def execSceneSwap (src dst : Nat) (tag : Byte) (a : List Byte) (s : State) : Host.Outcome State Fault Refusal :=
  .next (onRequest src dst 7 tag a s)

/-- CLIP_OPEN, request code 8 (R70). -/
def execClipOpen (src dst : Nat) (tag : Byte) (a : List Byte) (s : State) : Host.Outcome State Fault Refusal :=
  .next (onRequest src dst 8 tag a s)

/-- CLIP_DELETE, request code 9 (R78). -/
def execClipDelete (src dst : Nat) (tag : Byte) (a : List Byte) (s : State) : Host.Outcome State Fault Refusal :=
  .next (onRequest src dst 9 tag a s)

/-- CLAIM_SET, request code 10 (R108). -/
def execClaimSet (src dst : Nat) (tag : Byte) (a : List Byte) (s : State) : Host.Outcome State Fault Refusal :=
  .next (onRequest src dst 10 tag a s)

/-- CALL_ANSWER, request code 11 (R131). -/
def execCallAnswer (src dst : Nat) (tag : Byte) (a : List Byte) (s : State) : Host.Outcome State Fault Refusal :=
  .next (onRequest src dst 11 tag a s)

/-- CALL_SCREEN, request code 12 (R134). -/
def execCallScreen (src dst : Nat) (tag : Byte) (a : List Byte) (s : State) : Host.Outcome State Fault Refusal :=
  .next (onRequest src dst 12 tag a s)

/-- CALL_TAKE, request code 13 (R136). -/
def execCallTake (src dst : Nat) (tag : Byte) (a : List Byte) (s : State) : Host.Outcome State Fault Refusal :=
  .next (onRequest src dst 13 tag a s)

/-- CALL_HOLD, request code 14 (R140). -/
def execCallHold (src dst : Nat) (tag : Byte) (a : List Byte) (s : State) : Host.Outcome State Fault Refusal :=
  .next (onRequest src dst 14 tag a s)

/-- CALL_DROP, request code 15 (R141). -/
def execCallDrop (src dst : Nat) (tag : Byte) (a : List Byte) (s : State) : Host.Outcome State Fault Refusal :=
  .next (onRequest src dst 15 tag a s)

/-- ALERT_END_LOCAL, request code 16 (R162). -/
def execAlertEndLocal (src dst : Nat) (tag : Byte) (a : List Byte) (s : State) : Host.Outcome State Fault Refusal :=
  .next (onRequest src dst 16 tag a s)

/-- SITE_CLIP_SEND, request code 17 (R176). -/
def execSiteClipSend (src dst : Nat) (tag : Byte) (a : List Byte) (s : State) : Host.Outcome State Fault Refusal :=
  .next (onRequest src dst 17 tag a s)

/-- STATUS_QUERY with record kind STATION, request code 18 (R22, R197). -/
def execStatusQueryStation (src dst : Nat) (tag index : Byte) (s : State) : Host.Outcome State Fault Refusal :=
  .next (onRequest src dst 18 tag [1, index] s)

/-- STATUS_QUERY with record kind SLOT, request code 18 (R40). -/
def execStatusQuerySlot (src dst : Nat) (tag index : Byte) (s : State) : Host.Outcome State Fault Refusal :=
  .next (onRequest src dst 18 tag [2, index] s)

/-- STATUS_QUERY with record kind CLIP, request code 18 (R80). -/
def execStatusQueryClip (src dst : Nat) (tag index : Byte) (s : State) : Host.Outcome State Fault Refusal :=
  .next (onRequest src dst 18 tag [3, index] s)

/-- STATUS_QUERY with record kind CUELIST, request code 18 (R103). -/
def execStatusQueryCueList (src dst : Nat) (tag index : Byte) (s : State) : Host.Outcome State Fault Refusal :=
  .next (onRequest src dst 18 tag [4, index] s)

/-- STATUS_QUERY with record kind PLAYER, request code 18 (R104, R62). -/
def execStatusQueryPlayer (src dst : Nat) (tag index : Byte) (s : State) : Host.Outcome State Fault Refusal :=
  .next (onRequest src dst 18 tag [5, index] s)

/-- STATUS_QUERY with record kind LINES, request code 18 (R148). -/
def execStatusQueryLines (src dst : Nat) (tag index : Byte) (s : State) : Host.Outcome State Fault Refusal :=
  .next (onRequest src dst 18 tag [6, index] s)

/-- STATUS_QUERY with record kind AIRVIEW, request code 18 (R127). -/
def execStatusQueryAirView (src dst : Nat) (tag index : Byte) (s : State) : Host.Outcome State Fault Refusal :=
  .next (onRequest src dst 18 tag [7, index] s)

/-- STATUS_QUERY with record kind ALERTHIST, request code 18 (R165). -/
def execStatusQueryAlertHist (src dst : Nat) (tag index : Byte) (s : State) : Host.Outcome State Fault Refusal :=
  .next (onRequest src dst 18 tag [8, index] s)

/-- STATUS_QUERY with record kind LINK, request code 18 (R180). -/
def execStatusQueryLink (src dst : Nat) (tag index : Byte) (s : State) : Host.Outcome State Fault Refusal :=
  .next (onRequest src dst 18 tag [9, index] s)

/-- RESTART, request code 19 (R198). -/
def execRestart (src dst : Nat) (tag : Byte) (a : List Byte) (s : State) : Host.Outcome State Fault Refusal :=
  .next (onRequest src dst 19 tag a s)

end Sys2Proof.Machine
end

