-- ==== Sys2Proof/Machine/StartCommands.lean ====
section
/-! DEFINITION. The meanings of PIN_RESET, CONFIG_READ_DONE and SAMPLE_SET_INSTANT. -/

namespace Sys2Proof.Machine

/-- PIN_RESET (R200): every block in its pin-reset values, the station state CONFIG. The sample memory is
not cleared (R82), and a boundary in progress is lost with the rest. -/
def execPinReset (s : State) : Host.Outcome State Fault Refusal :=
  .next { s with agenda := [], node := pinResetNode s.node }

/-- CONFIG_READ_DONE (R199, R200): LISTEN, RUN for a SITE record, or UNCONFIGURED. -/
def execConfigReadDone (bytes : List Byte) (s : State) : Host.Outcome State Fault Refusal :=
  .next (onNode (fun _ n => configRead bytes n) s)

/-- SAMPLE_SET_INSTANT (R42, R45). -/
def execSampleSetInstant (inp : Inputs) (s : State) : Host.Outcome State Fault Refusal :=
  .next (onNode (fun m n => instant m inp n) s)

end Sys2Proof.Machine
end

