-- ==== Sys2Proof/Machine/Dispatch.lean ====
section
/-! DEFINITION. One arm for each command. -/

namespace Sys2Proof.Machine

def exec (i : Instr) (s : State) : Host.Outcome State Fault Refusal :=
  match i with
  | .pinReset => Sys2Proof.Machine.execPinReset s
  | .configReadDone mem => Sys2Proof.Machine.execConfigReadDone mem s
  | .blockBoundary => Sys2Proof.Machine.execBlockBoundary s
  | .listenWindowEnd => Sys2Proof.Machine.execListenWindowEnd s
  | .deferralExpiry gaps => Sys2Proof.Machine.execDeferralExpiry gaps s
  | .sendComplete => Sys2Proof.Machine.execSendComplete s
  | .sendCollision => Sys2Proof.Machine.execSendCollision s
  | .packetDiscarded bytes => Sys2Proof.Machine.execPacketDiscarded bytes s
  | .block src dst payload => Sys2Proof.Machine.execBlock src dst payload s
  | .claim src dst payload => Sys2Proof.Machine.execClaim src dst payload s
  | .rollcall src dst payload => Sys2Proof.Machine.execRollcall src dst payload s
  | .answer src dst payload => Sys2Proof.Machine.execAnswer src dst payload s
  | .alert src dst payload => Sys2Proof.Machine.execAlert src dst payload s
  | .clipseg src dst payload => Sys2Proof.Machine.execClipseg src dst payload s
  | .unknownRequest src dst code tag args => Sys2Proof.Machine.execUnknownRequest src dst code tag args s
  | .cueAdd src dst tag args => Sys2Proof.Machine.execCueAdd src dst tag args s
  | .cueRemove src dst tag args => Sys2Proof.Machine.execCueRemove src dst tag args s
  | .cueClear src dst tag args => Sys2Proof.Machine.execCueClear src dst tag args s
  | .play src dst tag args => Sys2Proof.Machine.execPlay src dst tag args s
  | .stop src dst tag args => Sys2Proof.Machine.execStop src dst tag args s
  | .sceneWrite src dst tag args => Sys2Proof.Machine.execSceneWrite src dst tag args s
  | .sceneSwap src dst tag args => Sys2Proof.Machine.execSceneSwap src dst tag args s
  | .clipOpen src dst tag args => Sys2Proof.Machine.execClipOpen src dst tag args s
  | .clipDelete src dst tag args => Sys2Proof.Machine.execClipDelete src dst tag args s
  | .claimSet src dst tag args => Sys2Proof.Machine.execClaimSet src dst tag args s
  | .callAnswer src dst tag args => Sys2Proof.Machine.execCallAnswer src dst tag args s
  | .callScreen src dst tag args => Sys2Proof.Machine.execCallScreen src dst tag args s
  | .callTake src dst tag args => Sys2Proof.Machine.execCallTake src dst tag args s
  | .callHold src dst tag args => Sys2Proof.Machine.execCallHold src dst tag args s
  | .callDrop src dst tag args => Sys2Proof.Machine.execCallDrop src dst tag args s
  | .alertEndLocal src dst tag args => Sys2Proof.Machine.execAlertEndLocal src dst tag args s
  | .siteClipSend src dst tag args => Sys2Proof.Machine.execSiteClipSend src dst tag args s
  | .statusQueryStation src dst tag index => Sys2Proof.Machine.execStatusQueryStation src dst tag index s
  | .statusQuerySlot src dst tag index => Sys2Proof.Machine.execStatusQuerySlot src dst tag index s
  | .statusQueryClip src dst tag index => Sys2Proof.Machine.execStatusQueryClip src dst tag index s
  | .statusQueryCueList src dst tag index => Sys2Proof.Machine.execStatusQueryCueList src dst tag index s
  | .statusQueryPlayer src dst tag index => Sys2Proof.Machine.execStatusQueryPlayer src dst tag index s
  | .statusQueryLines src dst tag index => Sys2Proof.Machine.execStatusQueryLines src dst tag index s
  | .statusQueryAirView src dst tag index => Sys2Proof.Machine.execStatusQueryAirView src dst tag index s
  | .statusQueryAlertHist src dst tag index => Sys2Proof.Machine.execStatusQueryAlertHist src dst tag index s
  | .statusQueryLink src dst tag index => Sys2Proof.Machine.execStatusQueryLink src dst tag index s
  | .restart src dst tag args => Sys2Proof.Machine.execRestart src dst tag args s
  | .restartDeadline => Sys2Proof.Machine.execRestartDeadline s
  | .rollcallDue => Sys2Proof.Machine.execRollcallDue s
  | .requestTimeout => Sys2Proof.Machine.execRequestTimeout s
  | .presenceExpiry => Sys2Proof.Machine.execPresenceExpiry s
  | .slotTimeout => Sys2Proof.Machine.execSlotTimeout s
  | .sceneSwapEnd => Sys2Proof.Machine.execSceneSwapEnd s
  | .faderRampDone => Sys2Proof.Machine.execFaderRampDone s
  | .callerReleaseDone => Sys2Proof.Machine.execCallerReleaseDone s
  | .meterWindowClose => Sys2Proof.Machine.execMeterWindowClose s
  | .loadTimeout => Sys2Proof.Machine.execLoadTimeout s
  | .fadeOutStart => Sys2Proof.Machine.execFadeOutStart s
  | .segueDue => Sys2Proof.Machine.execSegueDue s
  | .itemNaturalEnd => Sys2Proof.Machine.execItemNaturalEnd s
  | .segueCountdownDone => Sys2Proof.Machine.execSegueCountdownDone s
  | .outgoingExpiry => Sys2Proof.Machine.execOutgoingExpiry s
  | .ringStart => Sys2Proof.Machine.execRingStart s
  | .giveUp => Sys2Proof.Machine.execGiveUp s
  | .hangUp => Sys2Proof.Machine.execHangUp s
  | .takeWatchExpiry => Sys2Proof.Machine.execTakeWatchExpiry s
  | .callerWatchExpiry => Sys2Proof.Machine.execCallerWatchExpiry s
  | .alertLineRecord bytes => Sys2Proof.Machine.execAlertLineRecord bytes s
  | .alertLineGapTimeout => Sys2Proof.Machine.execAlertLineGapTimeout s
  | .alertActivation => Sys2Proof.Machine.execAlertActivation s
  | .alertClipDone => Sys2Proof.Machine.execAlertClipDone s
  | .alertFadeDone => Sys2Proof.Machine.execAlertFadeDone s
  | .alertCapDue => Sys2Proof.Machine.execAlertCapDue s
  | .legDrop => Sys2Proof.Machine.execLegDrop s
  | .reservePlayerStart => Sys2Proof.Machine.execReservePlayerStart s
  | .linkFrameMade => Sys2Proof.Machine.execLinkFrameMade s
  | .linkFrameSent => Sys2Proof.Machine.execLinkFrameSent s
  | .transferNoReport => Sys2Proof.Machine.execTransferNoReport s
  | .returnLost => Sys2Proof.Machine.execReturnLost s
  | .returnFrame bytes => Sys2Proof.Machine.execReturnFrame bytes s
  | .siteLinkFrame bytes => Sys2Proof.Machine.execSiteLinkFrame bytes s
  | .siteFrameStall => Sys2Proof.Machine.execSiteFrameStall s
  | .siteFrameBoundary => Sys2Proof.Machine.execSiteFrameBoundary s
  | .siteConceal => Sys2Proof.Machine.execSiteConceal s
  | .siteReserveEntry => Sys2Proof.Machine.execSiteReserveEntry s
  | .siteReservePlayerStart => Sys2Proof.Machine.execSiteReservePlayerStart s
  | .siteContactChange => Sys2Proof.Machine.execSiteContactChange s
  | .claimKey => Sys2Proof.Machine.execClaimKey s
  | .playNext => Sys2Proof.Machine.execPlayNext s
  | .stopAll => Sys2Proof.Machine.execStopAll s
  | .takeNextCaller => Sys2Proof.Machine.execTakeNextCaller s
  | .dropCaller => Sys2Proof.Machine.execDropCaller s
  | .keySceneSwap => Sys2Proof.Machine.execKeySceneSwap s
  | .answerNextLine => Sys2Proof.Machine.execAnswerNextLine s
  | .voiceOpen => Sys2Proof.Machine.execVoiceOpen s
  | .voiceOpenRelease => Sys2Proof.Machine.execVoiceOpenRelease s
  | .sampleSetInstant inputs => Sys2Proof.Machine.execSampleSetInstant inputs s
  | .carrierAppears gaps => Sys2Proof.Machine.execCarrierAppears gaps s
  | .alertLineByte b stopBit => Sys2Proof.Machine.execAlertLineByte b stopBit s
  | .siteLinkByte b => Sys2Proof.Machine.execSiteLinkByte b s

end Sys2Proof.Machine
end

