-- ==== Sys2Proof/WellFormed.lean ====
section
/-! DEFINITION. Which commands are well formed: every operand within the range that the spec gives it. A
command that is not well formed spells nothing that the outside can bring to the part. -/

namespace Sys2Proof

/-- A source and a destination of the bus header (section 1.3): a station number, and a station number or
31. -/
def addressed (src dst : Nat) : Bool :=
  decide (1 ≤ src) && decide (src ≤ 30) && decide (1 ≤ dst) && decide (dst ≤ 31)

/-- A packet: its addresses, and a payload of at most 1,024 bytes (section 1.3). -/
def packetWf (src dst : Nat) (payload : List Byte) : Bool :=
  addressed src dst && decide (payload.length ≤ 1024)

/-- A REQUEST: the code and the tag stand before its arguments in the payload. -/
def requestWf (src dst : Nat) (args : List Byte) : Bool :=
  addressed src dst && decide (args.length ≤ 1022)

/-- The inputs of a sample set instant: one entry for each pin (00_scope.md, "Pin summary"). -/
def Inputs.wf (i : Inputs) : Bool :=
  decide (i.locals.length = 4) && decide (i.lines.length = 4) && decide (i.ring.length = 4) &&
    decide (i.loop.length = 4) && decide (i.keys.length = 8) && decide (i.contacts.length = 4)

/-- Every operand is in range. The spec bounds no length of the bytes received as one packet; that
PACKET_DISCARDED brings at most 1,033, the length of the longest packet, is the model's choice (log 13), and
its meaning takes any number. -/
def Instr.wf : Instr → Bool
  | .configReadDone mem => decide (mem.length ≤ 512)
  | .deferralExpiry gaps => decide (1 ≤ gaps)
  | .packetDiscarded bytes => decide (bytes.length ≤ 1033)
  | .block s d p => packetWf s d p
  | .claim s d p => packetWf s d p
  | .rollcall s d p => packetWf s d p
  | .answer s d p => packetWf s d p
  | .alert s d p => packetWf s d p
  | .clipseg s d p => packetWf s d p
  | .unknownRequest s d _ _ a => requestWf s d a
  | .cueAdd s d _ a => requestWf s d a
  | .cueRemove s d _ a => requestWf s d a
  | .cueClear s d _ a => requestWf s d a
  | .play s d _ a => requestWf s d a
  | .stop s d _ a => requestWf s d a
  | .sceneWrite s d _ a => requestWf s d a
  | .sceneSwap s d _ a => requestWf s d a
  | .clipOpen s d _ a => requestWf s d a
  | .clipDelete s d _ a => requestWf s d a
  | .claimSet s d _ a => requestWf s d a
  | .callAnswer s d _ a => requestWf s d a
  | .callScreen s d _ a => requestWf s d a
  | .callTake s d _ a => requestWf s d a
  | .callHold s d _ a => requestWf s d a
  | .callDrop s d _ a => requestWf s d a
  | .alertEndLocal s d _ a => requestWf s d a
  | .siteClipSend s d _ a => requestWf s d a
  | .statusQueryStation s d _ _ => addressed s d
  | .statusQuerySlot s d _ _ => addressed s d
  | .statusQueryClip s d _ _ => addressed s d
  | .statusQueryCueList s d _ _ => addressed s d
  | .statusQueryPlayer s d _ _ => addressed s d
  | .statusQueryLines s d _ _ => addressed s d
  | .statusQueryAirView s d _ _ => addressed s d
  | .statusQueryAlertHist s d _ _ => addressed s d
  | .statusQueryLink s d _ _ => addressed s d
  | .restart s d _ a => requestWf s d a
  | .alertLineRecord bytes => decide (bytes.length = 19)
  | .returnFrame bytes => decide (bytes.length = 27)
  | .siteLinkFrame bytes => decide (1176 ≤ bytes.length) && decide (bytes.length ≤ 1416)
  | .sampleSetInstant inputs => inputs.wf
  | .pinReset | .blockBoundary | .listenWindowEnd | .sendComplete | .sendCollision | .restartDeadline => true
  | .rollcallDue | .requestTimeout | .presenceExpiry | .slotTimeout | .sceneSwapEnd | .faderRampDone => true
  | .callerReleaseDone | .meterWindowClose | .loadTimeout | .fadeOutStart | .segueDue => true
  | .itemNaturalEnd | .segueCountdownDone | .outgoingExpiry | .ringStart | .giveUp | .hangUp => true
  | .takeWatchExpiry | .callerWatchExpiry | .alertLineGapTimeout | .alertActivation => true
  | .alertClipDone | .alertFadeDone | .alertCapDue | .legDrop | .reservePlayerStart => true
  | .linkFrameMade | .linkFrameSent | .transferNoReport | .returnLost | .siteFrameStall => true
  | .siteFrameBoundary | .siteConceal | .siteReserveEntry | .siteReservePlayerStart => true
  | .siteContactChange | .claimKey | .playNext | .stopAll | .takeNextCaller | .dropCaller => true
  | .keySceneSwap | .answerNextLine | .voiceOpen | .voiceOpenRelease => true
  | .carrierAppears _ | .alertLineByte _ _ | .siteLinkByte _ => true

end Sys2Proof
end

