-- ==== Sys2Proof/Safety.lean ====
section
/-! DEFINITION. What a safe run is, and the words that statements about commands are made of: a state
between two boundaries, a packet that reaches the station, a boundary standing at a stage, the rows that
are one event of a boundary; and the invariants of the caller queue and of the clip stores that statements
name. -/

namespace Sys2Proof.Machine

/-- A step that neither faults nor is refused. -/
def Safe (s : State) : Prop := ∃ t, step s = .next t

/-- The sample memory is in its canonical form (log 6). -/
def MemoryCanonical (s : State) : Prop := s.mem.wf = true

/-- The caller queue holds exactly the lines that are QUEUED or HELD, once each, and a line has an assigned studio
exactly while it is ON_AIR (R133). -/
def CallerQueueExact (s : State) : Prop :=
  let p := s.node.phone
  p.lines.length = 4 ∧ p.queue.Nodup ∧
    (∀ i, i ∈ p.queue ↔ 1 ≤ i ∧ i ≤ 4 ∧ ((p.line i).state = .queued ∨ (p.line i).state = .held)) ∧
    ∀ i, 1 ≤ i → i ≤ 4 → ((p.line i).studio ≠ none ↔ (p.line i).state = .onAir)

/-- Every clip that is LOADING has exactly one load context, of its serial, and no load context is of another clip
(R71); at a SITE chip the clip of a transfer that is RECEIVING is the one clip LOADING (R188). -/
def LoadsMatchClips (s : State) : Prop :=
  let d := s.node.store
  let x := s.node.site
  d.dir.length = 256 ∧ d.loads.length ≤ 4 ∧ (d.loads.map (fun l => l.clip)).Nodup ∧
    (∀ c, (d.clip c).state = .loading ↔ ∃ l ∈ d.loads, l.clip = c) ∧
    (∀ l ∈ d.loads, l.serial = (d.clip l.clip).serial) ∧ x.store.dir.length = 256 ∧
    ∀ c, (x.store.clip c).state = .loading ↔ x.transfer.state = .receiving ∧ x.transfer.clip = c

/-- The free extents of a clip store are ordered by first page, no two of them adjacent and none empty, and they
and the pages of the clips that are not EMPTY cover each page of the memory once and no other page (R67, R68). -/
def Store.Covered (d : Store) : Prop :=
  d.free.Pairwise (fun a b => a.first + a.count < b.first) ∧ (∀ e ∈ d.free, 0 < e.count) ∧
    ∀ page,
      d.free.countP (fun e => decide (e.first ≤ page ∧ page < e.first + e.count)) +
          d.dir.countP (fun e =>
            decide (e.state ≠ .empty ∧ e.firstPage ≤ page ∧ page < e.firstPage + e.pageCount)) =
        if page < d.pages then 1 else 0

/-- The clip store of the station, and that of a SITE chip, each cover their sample memory once (R67). -/
def PagesCoveredOnce (s : State) : Prop := s.node.store.Covered ∧ s.node.site.store.Covered

/-- No block boundary is in progress (log 1). -/
def Quiet (s : State) : Prop := s.agenda = []

/-- A boundary is in progress and stands at a stage. -/
def AtStage (st : Stage) (rest : List Stage) (s : State) : Prop := s.agenda = st :: rest

/-- The part after a packet has passed every check of R6: carrier has fallen away, and the
packets-accepted counter is advanced. -/
def Node.heard (n : Node) : Node :=
  { packetEnd n with
    bus :=
      { (packetEnd n).bus with
        counters :=
          { (packetEnd n).bus.counters with accepted := satInc (packetEnd n).bus.counters.accepted } } }

/-- A packet of another station that passes checks 2, 3, 5 and 6 of R6 at a station of the bus, between
two boundaries. -/
def Reached (src dst len : Nat) (s : State) : Prop :=
  Quiet s ∧ s.node.receives = true ∧ s.node.station ≠ .unconfigured ∧ 1 ≤ src ∧ src ≤ 30 ∧ len ≤ 1024 ∧
    src ≠ s.node.cfg.number ∧ 1 ≤ dst ∧ (dst = s.node.cfg.number ∧ dst ≤ 30 ∨ dst = 31)

/-- A REQUEST that its owner decides (R10): it reaches a station in RUN under its own number. -/
def Asked (src dst args : Nat) (s : State) : Prop :=
  Reached src dst (2 + args) s ∧ s.node.inRun = true ∧ dst ≠ 31

/-- The answer of a request offered, between two boundaries (R11). -/
def answered (src code : Nat) (tag : Byte) (r : Reply) (s : State) : State :=
  settle { s with node := offerPacket src (.answer code tag r.result r.data) false r.node }

/-- A row that is a REQUEST: its source, destination, code, tag and arguments (section 1.4). -/
structure RequestParts where
  src : Nat
  dst : Nat
  code : Byte
  tag : Byte
  args : List Byte
deriving DecidableEq, Repr

def requestParts : Instr → Option RequestParts
  | .unknownRequest s d c t a => some ⟨s, d, c, t, a⟩
  | .cueAdd s d t a => some ⟨s, d, 1, t, a⟩
  | .cueRemove s d t a => some ⟨s, d, 2, t, a⟩
  | .cueClear s d t a => some ⟨s, d, 3, t, a⟩
  | .play s d t a => some ⟨s, d, 4, t, a⟩
  | .stop s d t a => some ⟨s, d, 5, t, a⟩
  | .sceneWrite s d t a => some ⟨s, d, 6, t, a⟩
  | .sceneSwap s d t a => some ⟨s, d, 7, t, a⟩
  | .clipOpen s d t a => some ⟨s, d, 8, t, a⟩
  | .clipDelete s d t a => some ⟨s, d, 9, t, a⟩
  | .claimSet s d t a => some ⟨s, d, 10, t, a⟩
  | .callAnswer s d t a => some ⟨s, d, 11, t, a⟩
  | .callScreen s d t a => some ⟨s, d, 12, t, a⟩
  | .callTake s d t a => some ⟨s, d, 13, t, a⟩
  | .callHold s d t a => some ⟨s, d, 14, t, a⟩
  | .callDrop s d t a => some ⟨s, d, 15, t, a⟩
  | .alertEndLocal s d t a => some ⟨s, d, 16, t, a⟩
  | .siteClipSend s d t a => some ⟨s, d, 17, t, a⟩
  | .statusQueryStation s d t i => some ⟨s, d, 18, t, [1, i]⟩
  | .statusQuerySlot s d t i => some ⟨s, d, 18, t, [2, i]⟩
  | .statusQueryClip s d t i => some ⟨s, d, 18, t, [3, i]⟩
  | .statusQueryCueList s d t i => some ⟨s, d, 18, t, [4, i]⟩
  | .statusQueryPlayer s d t i => some ⟨s, d, 18, t, [5, i]⟩
  | .statusQueryLines s d t i => some ⟨s, d, 18, t, [6, i]⟩
  | .statusQueryAirView s d t i => some ⟨s, d, 18, t, [7, i]⟩
  | .statusQueryAlertHist s d t i => some ⟨s, d, 18, t, [8, i]⟩
  | .statusQueryLink s d t i => some ⟨s, d, 18, t, [9, i]⟩
  | .restart s d t a => some ⟨s, d, 19, t, a⟩
  | _ => none

/-- The stage of a row that is one event of a block boundary. -/
def eventStage : Instr → Option Stage
  | .listenWindowEnd => some .listenWindowEnd
  | .restartDeadline => some .restartDeadline
  | .rollcallDue => some .rollcallDue
  | .requestTimeout => some .requestTimeout
  | .presenceExpiry => some .presenceExpiry
  | .slotTimeout => some .slotTimeout
  | .sceneSwapEnd => some .sceneSwapEnd
  | .faderRampDone => some .faderRampDone
  | .callerReleaseDone => some .callerReleaseDone
  | .meterWindowClose => some .meterWindowClose
  | .loadTimeout => some .loadTimeout
  | .fadeOutStart => some .fadeOutStart
  | .segueDue => some .segueDue
  | .itemNaturalEnd => some .itemNaturalEnd
  | .segueCountdownDone => some .segueCountdownDone
  | .outgoingExpiry => some .outgoingExpiry
  | .ringStart => some .ringStart
  | .giveUp => some .giveUp
  | .hangUp => some .hangUp
  | .takeWatchExpiry => some .takeWatchExpiry
  | .callerWatchExpiry => some .callerWatchExpiry
  | .alertLineGapTimeout => some .alertLineGapTimeout
  | .alertActivation => some .alertActivation
  | .alertClipDone => some .alertClipDone
  | .alertFadeDone => some .alertFadeDone
  | .alertCapDue => some .alertCapDue
  | .legDrop => some .legDrop
  | .reservePlayerStart => some .reservePlayerStart
  | .linkFrameMade => some .linkFrameMade
  | .transferNoReport => some .transferNoReport
  | .returnLost => some .returnLost
  | .siteFrameStall => some .siteFrameStall
  | .siteFrameBoundary => some .siteFrameBoundary
  | .siteConceal => some .siteConceal
  | .siteReserveEntry => some .siteReserveEntry
  | .siteReservePlayerStart => some .siteReservePlayerStart
  | .siteContactChange => some .siteContactChange
  | .claimKey => some .claimKey
  | .playNext => some .playNext
  | .stopAll => some .stopAll
  | .takeNextCaller => some .takeNextCaller
  | .dropCaller => some .dropCaller
  | .keySceneSwap => some .keySceneSwap
  | .answerNextLine => some .answerNextLine
  | .voiceOpen => some .voiceOpen
  | .voiceOpenRelease => some .voiceOpenRelease
  | _ => none

/-- A command that acts between two boundaries: neither a reset, nor a boundary, nor one of its events. -/
def actsBetween (c : Instr) : Bool :=
  (eventStage c).isNone && decide (c ≠ .pinReset) && decide (c ≠ .blockBoundary)

end Sys2Proof.Machine
end

