-- ==== Sys2Proof/Certificates/Slice0/Obligations.lean ====
section
/-! DEFINITION. The statements for the provers. A counter's advance is written as its rule gives it, the
minimum of its value plus 1 and 65535; an event of a boundary is stated at its place in the boundary (log 1). -/

open Sys2Proof Sys2Proof.Machine

/-- A step takes the command at the front of the queue and runs it on the state with the queue's rest; on an
empty queue the part idles (log 10). -/
def Obligations.StepTakesTheFront : Prop :=
  (∀ (s : State) (c : Instr) (rest : List Instr),
    s.pending = c :: rest → step s = exec c { s with pending := rest }) ∧
  (∀ s : State, s.pending = [] → step s = .next s) ∧
  ∀ (s : State) (nbits w : Nat), s.withFetchWord nbits w = s

/-- BLOCK_BOUNDARY (R88) and the rows that are one event of a boundary (log 1): a command between boundaries
first lets the boundary in progress run out; BLOCK_BOUNDARY runs a whole boundary, or the rest of the one in
progress; a row whose event is due stops there with the rest to come, a row whose event is not due changes
nothing; and a row followed by BLOCK_BOUNDARY is BLOCK_BOUNDARY. -/
def Obligations.BoundaryAndItsRows : Prop :=
  (∀ (c : Instr) (s : State), actsBetween c = true →
    exec c s = exec c { s with agenda := [], node := runStages s.mem s.agenda s.node }) ∧
  (∀ s : State,
    (s.agenda = [] →
      exec .blockBoundary s = .next (settle { s with node := runStages s.mem s.node.stages s.node })) ∧
    (s.agenda ≠ [] →
      exec .blockBoundary s =
        .next (settle { s with agenda := [], node := runStages s.mem s.agenda s.node }))) ∧
  ∀ (c : Instr) (st : Stage), eventStage c = some st →
    (∀ (s : State) (before after : List Stage),
      s.agenda = before ++ st :: after → st ∉ before →
      let n := runStages s.mem before s.node
      (stageDue st n = true →
        exec c s = .next (settle { s with agenda := after, node := stageRun st s.mem n })) ∧
      (stageDue st n = false → exec c s = .next s) ∧
      ∀ t, exec c s = .next t → after ≠ [] → exec .blockBoundary t = exec .blockBoundary s) ∧
    ∀ (s : State) (before after : List Stage),
      Quiet s → settle s = s → s.node.stages = before ++ st :: after → st ∉ before →
      let n := runStages s.mem before s.node
      (stageDue st n = true →
        exec c s = .next (settle { s with agenda := after, node := stageRun st s.mem n })) ∧
      (stageDue st n = false → exec c s = .next s) ∧
      ∀ t, exec c s = .next t → after ≠ [] → exec .blockBoundary t = exec .blockBoundary s

/-- The sample memory stays in its canonical form: whatever command a step runs, words written are in rising
order and no word that reads as unwritten is listed (log 6). -/
def Obligations.MemoryStaysCanonical : Prop :=
  ∀ s t : State, MemoryCanonical s → step s = .next t → MemoryCanonical t

/-- Whatever command a step runs, where the caller queue held exactly the lines that are QUEUED or HELD, once each,
and exactly the lines ON_AIR had an assigned studio, both still hold after it (R133). The queue's order is not in this
invariant: the place that a line takes is stated where the lines change. -/
def Obligations.CallerQueueStaysExact : Prop :=
  ∀ s t : State, CallerQueueExact s → step s = .next t → CallerQueueExact t

/-- Whatever command a step runs, where every clip LOADING had exactly one load context, of its serial, and no context
was of another clip, it is so after it (R70, R71, R74 to R78); and at a SITE chip the one clip LOADING stays that of
the transfer that is RECEIVING (R188, R189). -/
def Obligations.LoadsStayMatched : Prop :=
  ∀ s t : State, LoadsMatchClips s → step s = .next t → LoadsMatchClips t

/-- Whatever command a step runs, where the free extents, ordered and with no two adjacent, and the page ranges of the
clips that are not EMPTY covered the sample memory exactly once, they do so after it (R67 to R69), at the station's
clip store and at a SITE chip's. The other invariant, of the loads, rules out the states in which a clip that has no
load is ended as one. -/
def Obligations.PagesStayCoveredOnce : Prop :=
  ∀ s t : State, LoadsMatchClips s → PagesCoveredOnce s → step s = .next t → PagesCoveredOnce t

/-- The part right after a pin reset: the values that R23, R41, R63, R82, R106, R129, R149, R167, R181,
R192, R200 and R201 give. What the spec leaves open there is not stated. The incoming leg of R181 and
the values of R192 hold from entry to LISTEN or from the end of start-up; the model has the two units at
them from the reset on, but for the free extent and the start of the meter points, which the record brings
(R199, R57). The invariants of the caller queue (R133), the loads (R71) and the pages (R67) hold there. -/
def Obligations.ResetState : Prop :=
  let s := State.reset
  let n := s.node
  s.pending = [] ∧ s.agenda = [] ∧ MemoryCanonical s ∧ CallerQueueExact s ∧ LoadsMatchClips s ∧
  PagesCoveredOnce s ∧
  (n.station = .config ∧ n.restart = none) ∧
  (n.bus.q0 = [] ∧ n.bus.q1 = [] ∧ n.bus.q2 = [] ∧ n.bus.q3 = [] ∧ n.bus.idleCount = 0 ∧
    n.bus.consecutive = 0 ∧ n.bus.linkStation = none ∧ n.bus.rollCountdown = none ∧
    n.bus.runawaySeen = false ∧ n.bus.clipFaultSeen = false ∧ n.bus.requesters = [] ∧ n.bus.tagCounter = 0 ∧
    n.bus.counters = .zero ∧ n.bus.presence.length = 30 ∧
    ∀ e ∈ n.bus.presence,
      e.present = false ∧ e.age = 400 ∧ e.roles = .empty ∧ e.level = 0 ∧ e.serial = 0 ∧ e.faults = .clear ∧
        e.link = none ∧ e.phone = none ∧ e.studio = none) ∧
  (n.streams.outgoing.length = 8 ∧ n.streams.listen.length = 8 ∧ n.streams.slots.length = 8 ∧
    (∀ o ∈ n.streams.outgoing, o.state = .inactive ∧ o.seq = 0 ∧ o.start = none ∧ o.next = none ∧ o.again = false) ∧
    (∀ o ∈ n.streams.outgoing.drop 6, o.line = 1) ∧
    (∀ e ∈ n.streams.listen, e.valid = false) ∧
    ∀ r ∈ n.streams.slots,
      r.state = .free ∧ r.blocks = [] ∧ r.lastSeq = none ∧ r.lastSupplied = none ∧ r.noArrival = 0 ∧
        r.overflowRun = 0 ∧ r.totals = .zero) ∧
  (n.mixer.live = 0 ∧ n.mixer.swap = none ∧ n.mixer.faderA.value = 0 ∧ n.mixer.faderB.value = 0 ∧
    n.mixer.caller1.state = .inactive ∧ n.mixer.caller1.source = .none ∧ n.mixer.caller1.fader.value = 0 ∧
    n.mixer.caller2.state = .inactive ∧ n.mixer.caller2.source = .none ∧ n.mixer.caller2.fader.value = 0 ∧
    n.mixer.duckOn = false ∧ n.mixer.duck.value = 16384 ∧
    n.mixer.mmClips1 = 0 ∧ n.mixer.mmClips2 = 0) ∧
  (n.meters.slots.length = 8 ∧
    ∀ p ∈ [n.meters.studio, n.meters.holderInput, n.meters.linkOutput, n.meters.siteOutput,
        n.meters.incoming] ++ n.meters.slots,
    p.running = false ∧ p.silent = false ∧ p.silentRun = 0 ∧ p.soundRun = 0 ∧ p.overload = false ∧
      p.clipTotal = 0 ∧ p.overTotal = 0) ∧
  (n.store.dir.length = 256 ∧ n.store.loads = [] ∧ n.store.counters = .zero ∧
    ∀ e ∈ n.store.dir, e.state = .empty ∧ e.serial = 0 ∧ e.useCount = 0 ∧ e.lastFailure = .none) ∧
  (n.cue.list = [] ∧ n.cue.countdown = none ∧ n.cue.heldFlag = false ∧ n.cue.preferB = false ∧
    n.cue.counters = .zero ∧
    ∀ p ∈ [n.cue.a, n.cue.b],
      p.state = .idle ∧ p.item = none ∧ p.pending = false ∧ p.saved = none ∧ p.lastEnd = none) ∧
  (n.air.ownLevel = 0 ∧ n.air.ownSerial = 0 ∧ n.air.arrivals = 0 ∧ n.air.holder.kind = .none ∧
    n.air.stack = [] ∧ n.air.outgoing = [] ∧ n.air.standing = .offAir ∧ n.air.waiting = false ∧
    n.air.alertOnAir = false ∧ n.air.counters = .zero ∧ n.air.claims.length = 30 ∧
    ∀ e ∈ n.air.alertClaim :: n.air.claims, e.claim = none ∧ e.lastSerial = none) ∧
  (n.phone.lines.length = 4 ∧ n.phone.queue = [] ∧ n.phone.holdEntry = none ∧ n.phone.blockCount = 0 ∧
    n.phone.counters = .zero ∧ n.take.ch1.state = .free ∧ n.take.ch2.state = .free ∧ n.take.counters = .zero ∧
    ∀ l ∈ n.phone.lines,
      l.state = .idle ∧ l.seized = false ∧ l.rangAt = none ∧ l.answeredAt = none ∧ l.studio = none ∧
        l.mmEntry = none ∧ l.watch = none ∧ l.ringAbsent = 0 ∧ l.loopAbsent = 0 ∧ l.screened = false ∧
        l.label = [] ∧ l.lastClear = .none) ∧
  (n.alert.gathered = [] ∧ n.alert.queue = [] ∧ n.alert.active = none ∧ n.alert.player.phase = .idle ∧
    n.alert.player.fader.value = 0 ∧ n.alert.history = [] ∧ n.alert.writePos = 0 ∧ n.alert.blockCount = 0 ∧
    n.alert.counters = .zero) ∧
  (n.link.incoming.source = .reserve ∧ n.link.incoming.gain.value = 16384 ∧
    n.link.reserve.playing = false ∧ n.link.outgoing = none ∧ n.link.seq = 0 ∧ n.link.blockSeq = 0 ∧
    n.link.buffer = [] ∧ n.link.transfer.phase = .none ∧ n.link.transfer.lastResult = none ∧
    n.link.transfer.serial = 0 ∧ n.link.returnLost = true ∧ n.link.returnAge = 125 ∧
    n.link.lastReturn = none ∧ n.link.deadAir = false ∧ n.link.phase = 0 ∧ n.link.counters = .zero) ∧
  (n.site.receiver = .hunting false ∧ n.site.buffer.state = .filling ∧ n.site.buffer.frames = [] ∧
    n.site.buffer.lastSeq = none ∧ n.site.buffer.lastOut = none ∧ n.site.phase = 0 ∧ n.site.mode = .reserve ∧
    n.site.reason = .linkLoss ∧ n.site.noFrame = 50 ∧ n.site.reserveCount = 0 ∧ n.site.goodRun = 0 ∧
    n.site.linkLeg.value = 0 ∧ n.site.reserveLeg.value = 16384 ∧ n.site.reserve.playing = false ∧
    n.site.store.dir.length = 256 ∧ (∀ e ∈ n.site.store.dir, e.state = .empty ∧ e.useCount = 0) ∧
    n.site.transfer.state = .none ∧ n.site.transfer.serial = 0 ∧ n.site.transfer.received = 0 ∧
    n.site.crcErrors = 0 ∧ n.site.lost = 0 ∧ n.site.accepted = 0 ∧ n.site.returnSeq = 0) ∧
  n.lines.outputs = List.replicate 8 false ∧ n.lines.staging = List.replicate 8 false ∧
  n.lines.lastRefusal = none ∧ n.lines.lastAlert = none ∧ n.lines.refusals = 0 ∧ n.lines.keys.length = 8 ∧
  ∀ k ∈ n.lines.keys, k.accepted = false ∧ k.stable = 0

/-- DEFERRAL_EXPIRY and CARRIER_APPEARS (R1, R5) in RUN with a packet held: the station starts sending the
head packet of its lowest-numbered class where the idle count reaches W within the gap units that pass, and
else the count goes on, or carrier takes the line. On a line not idle until then the count starts from 0,
and a packet queued at the count W itself waits for the next time round (log 13). The gap units as an operand
are the model's form of the two rows (log 11). At a SITE chip neither changes anything (R200). The
bytes then on the line (R5) are the header with the station's own number and the payload length, the payload, and
the CRC-32 over both. -/
def Obligations.DeferralReachesW : Prop :=
  ((∀ (s : State) (gaps : Nat), Quiet s → s.node.cfg.roles.site = true →
     exec (.deferralExpiry gaps) s = .next (settle s) ∧ exec (.carrierAppears gaps) s = .next (settle s)) ∧
   ∀ (s : State) (from_ gaps cls : Nat) (p : Packet) (rest : List Packet),
     Quiet s → s.node.inRun = true →
     (s.node.bus.line = .idle ∧ from_ = s.node.bus.idleCount ∨ s.node.bus.line = .busy ∧ from_ = 0) →
     1 ≤ s.node.cfg.number → s.node.cfg.number ≤ 30 → cls ≤ 3 → s.node.bus.queue cls = p :: rest →
     (∀ c, c < cls → s.node.bus.queue c = []) →
     let w := cls * 32 + s.node.cfg.number
     let count (k : Nat) : Nat := (from_ + k - 1) % 128 + 1
     let line (l : LineUse) (k : Nat) : Host.Outcome State Fault Refusal :=
       .next (settle { s with node := { s.node with bus := { s.node.bus with line := l, idleCount := k } } })
     (∀ k, 1 ≤ k → k ≤ gaps → count k = w →
       exec (.deferralExpiry gaps) s = line (.sending cls (wireBytes s.node.cfg.number p)) w ∧
       exec (.carrierAppears gaps) s = line (.sending cls (wireBytes s.node.cfg.number p)) w) ∧
     (1 ≤ gaps → (∀ k, 1 ≤ k → k ≤ gaps → count k ≠ w) →
       exec (.deferralExpiry gaps) s = line .idle (count gaps) ∧
       exec (.carrierAppears gaps) s = line .busy (count gaps))) ∧
  ∀ (own : Nat) (p : Packet),
    let pay := p.body.payload p.fresh
    let covered :=
      [BitVec.ofNat 8 p.body.kindCode, BitVec.ofNat 8 p.dst, BitVec.ofNat 8 own] ++ beBytes pay.length 2 ++ pay
    wireBytes own p = covered ++ beBytes (crc32 covered).toNat 4 ∧
    (wireBytes own p).length = 9 + pay.length

/-- SEND_COMPLETE and SEND_COLLISION (R2, R20), outside a soft restart: the packet leaves its queue and is
counted; a mismatch leaves it at the head, and the eighth in a row puts the station in DUPLICATE. That the
line then stands idle with the count 0, from which the station defers again, is the model's reading (log
13). At a SITE chip neither changes anything (R200). -/
def Obligations.SendingEnds : Prop :=
  (∀ s : State, Quiet s → s.node.cfg.roles.site = true →
    exec .sendComplete s = .next (settle s) ∧ exec .sendCollision s = .next (settle s)) ∧
  ∀ (s : State) (cls : Nat) (wire : List Byte) (p : Packet) (rest : List Packet),
    Quiet s → s.node.cfg.roles.site = false → s.node.bus.line = .sending cls wire →
    s.node.bus.queue cls = p :: rest → s.node.bus.drainAtEnd = false →
    let b := s.node.bus
    let free (x : Bus) : Bus := { x with line := .idle, idleCount := 0 }
    (p.restartOk = false ∨ s.node.restart = none →
      exec .sendComplete s =
        .next (settle
          { s with
            node :=
              { s.node with
                bus :=
                  { free (b.setQueue cls rest) with
                    consecutive := 0, counters := { b.counters with sent := min (b.counters.sent + 1) 65535 } } } })) ∧
    (b.consecutive + 1 < 8 →
      exec .sendCollision s =
        .next (settle
          { s with
            node :=
              { s.node with
                bus :=
                  { free b with
                    consecutive := b.consecutive + 1,
                    counters := { b.counters with collisions := min (b.counters.collisions + 1) 65535 } } } })) ∧
    (8 ≤ b.consecutive + 1 →
      exec .sendCollision s =
        .next (settle
          { s with
            node :=
              { s.node with
                station := .duplicate, restart := none,
                bus :=
                  { free b with
                    q0 := [], q1 := [], q2 := [], q3 := [], rollCountdown := none,
                    consecutive := b.consecutive + 1,
                    counters := { b.counters with collisions := min (b.counters.collisions + 1) 65535 } },
                streams :=
                  { s.node.streams with
                    outgoing :=
                      s.node.streams.outgoing.map
                        (fun o =>
                          { o with state := .inactive, start := none, next := none, again := false }) } } }))

/-- Offers to the transmit queues (R3, R4): refused outside RUN; filed at the end of the class's queue; at
capacity the oldest ALERT that is not being sent gives way, and any other packet is discarded and counted.
-/
def Obligations.OffersFiledByClass : Prop :=
  ∀ (n : Node) (dst : Nat) (body : PacketBody),
    let b := n.bus
    let c := b.counters
    let p : Packet := { dst := dst, body := body, restartOk := false, fresh := n.fresh }
    let filed (x : Bus) : Node := { n with bus := x, fresh := n.fresh + 1 }
    (n.inRun = false → offer dst body n = n) ∧
    (n.inRun = true → body.cls = 0 → b.q0.length < 4 → offer dst body n = filed { b with q0 := b.q0 ++ [p] }) ∧
    (n.inRun = true → body.cls = 1 → b.q1.length < 8 → offer dst body n = filed { b with q1 := b.q1 ++ [p] }) ∧
    (n.inRun = true → body.cls = 2 → b.q2.length < 8 → offer dst body n = filed { b with q2 := b.q2 ++ [p] }) ∧
    (n.inRun = true → body.cls = 3 → b.q3.length < 4 → offer dst body n = filed { b with q3 := b.q3 ++ [p] }) ∧
    (∀ h t, n.inRun = true → body.cls = 0 → 4 ≤ b.q0.length → b.q0 = h :: t →
      offer dst body n =
        filed
          { b with
            q0 :=
              (match b.line with
                | .sending 0 _ => h :: t.drop 1
                | _ => t) ++ [p],
            counters := { c with class0Evictions := min (c.class0Evictions + 1) 65535 } }) ∧
    (n.inRun = true → body.cls = 1 → 8 ≤ b.q1.length →
      offer dst body n = filed { b with counters := { c with class1Drops := min (c.class1Drops + 1) 65535 } }) ∧
    (n.inRun = true → body.cls = 2 → 8 ≤ b.q2.length →
      offer dst body n = filed { b with counters := { c with class2Drops := min (c.class2Drops + 1) 65535 } }) ∧
    (n.inRun = true → body.cls = 3 → 4 ≤ b.q3.length →
      offer dst body n = filed { b with counters := { c with class3Drops := min (c.class3Drops + 1) 65535 } })

/-- PACKET_DISCARDED (R6, R7): the checks in their order on the bytes received, and what each failure
counts; a packet of the station's own number is own-source, and a ROLLCALL of it in LISTEN or RUN puts the
station in DUPLICATE. -/
def Obligations.PacketChecks : Prop :=
  ∀ (s : State) (bytes : List Byte),
    Quiet s → s.node.receives = true →
    let result := exec (.packetDiscarded bytes) s
    let n := packetEnd s.node
    let c := n.bus.counters
    let counted (k : BusCounters) : Host.Outcome State Fault Refusal :=
      .next (settle { s with node := { n with bus := { n.bus with counters := k } } })
    let len := bytes.length - 9
    let kind := byteAt bytes 0
    let dst := byteAt bytes 1
    let src := byteAt bytes 2
    let pay := (bytes.drop 5).take len
    let check1 := 9 ≤ bytes.length ∧ crcBytes (bytes.take (bytes.length - 4)) = bytes.drop (bytes.length - 4)
    let check2 := fieldAt bytes 3 2 = len ∧ len ≤ 1024 ∧ 1 ≤ src ∧ src ≤ 30 ∧ 1 ≤ dst ∧ dst ≤ 31
    let check3 := 1 ≤ kind ∧ kind ≤ 7
    let check4 := formGood kind src pay = true
    let format := counted { c with formatErrors := min (c.formatErrors + 1) 65535 }
    (¬ check1 → result = counted { c with crcErrors := min (c.crcErrors + 1) 65535 }) ∧
    (check1 → ¬ check2 → result = format) ∧
    (check1 → check2 → ¬ check3 → result = counted { c with unknownKinds := min (c.unknownKinds + 1) 65535 }) ∧
    (check1 → check2 → check3 → ¬ check4 → result = format) ∧
    (check1 → check2 → check3 → check4 → s.node.station = .unconfigured → result = counted c) ∧
    (check1 → check2 → check3 → check4 → s.node.station ≠ .unconfigured → src = s.node.cfg.number →
      (kind = 3 → (s.node.station = .listen ∨ s.node.station = .run) →
        result = .next (settle { s with node := enterDuplicate n })) ∧
      (kind ≠ 3 ∨ (s.node.station ≠ .listen ∧ s.node.station ≠ .run) →
        result = counted { c with ownSource := min (c.ownSource + 1) 65535 })) ∧
    (check1 → check2 → check3 → check4 → s.node.station ≠ .unconfigured → src ≠ s.node.cfg.number →
      dst ≠ s.node.cfg.number → dst ≠ 31 → result = counted c)

/-- CLAIM (R9) and ROLLCALL (R16): what the presence table records of the source, and what is handed to the
air unit, with the link station determined again where the entry was absent or its roles changed. -/
def Obligations.PresenceRecorded : Prop :=
  ∀ (s : State) (src dst : Nat) (p : List Byte),
    Reached src dst p.length s →
    let n := s.node.heard
    let record (e : Presence) : Node :=
      { n with bus := { n.bus with presence := n.bus.presence.set (src - 1) e } }
    (p.length = 2 → byteAt p 0 ≤ 2 →
      exec (.claim src dst p) s =
        .next (settle
          { s with
            node :=
              claimHeard src (byteAt p 0) (p.getD 1 0)
                (record { s.node.bus.entry src with level := byteAt p 0, serial := p.getD 1 0 }) })) ∧
    (∀ r, parseRollcall src p = some r →
      let e := s.node.bus.entry src
      let m :=
        record
          { present := true, age := 0, roles := r.roles, level := r.level, serial := r.serial,
            faults := r.faults, link := r.link, phone := r.phone, studio := r.studio }
      let again := e.present = false ∨ e.roles ≠ r.roles
      let link := if again then m.bus.findLink else m.bus.linkStation
      let d : Node := { m with bus := { m.bus with linkStation := link } }
      exec (.rollcall src dst p) s =
        .next (settle
          { s with
            node :=
              rollcallClaim src r.level r.serial
                (refreshStanding
                  (if link ≠ s.node.bus.linkStation ∨ link = some src then judgeHoldFeed d else d)) }))

/-- ANSWER (R13) and REQUEST_TIMEOUT (R14): the pairing of an answer with the pending entry of its tag,
target and code, and the removal of the entries whose age stands at 100, each outcome handed to its
originator. Several that expire at one boundary are handed on in the order of the table (log 24). Last, the
sending of a request (R12): the tag, the entry of age 0, the REQUEST offered; refused with the table full. -/
def Obligations.RequestsPairedOrTimedOut : Prop :=
  (∀ s : State,
    (∀ src dst (p : List Byte), Reached src dst p.length s → 3 ≤ p.length →
      let n := s.node.heard
      let tag := p.getD 1 0
      (∀ e, n.bus.requesters.find? (fun e => decide (e.tag = tag)) = some e → e.target = src →
        e.code = byteAt p 0 →
        exec (.answer src dst p) s =
          .next (settle
            { s with
              node :=
                handOutcome e (some (byteAt p 2, p.drop 3))
                  { n with
                    bus :=
                      { n.bus with
                        requesters := n.bus.requesters.filter (fun x => decide (x.tag ≠ tag)) } } })) ∧
      ((∀ e, n.bus.requesters.find? (fun e => decide (e.tag = tag)) = some e →
          e.target ≠ src ∨ e.code ≠ byteAt p 0) →
        exec (.answer src dst p) s =
          .next (settle
            { s with
              node :=
                { n with
                  bus :=
                    { n.bus with
                      counters :=
                        { n.bus.counters with
                          unmatchedAnswers := min (n.bus.counters.unmatchedAnswers + 1) 65535 } } } }))) ∧
    (∀ rest, AtStage .requestTimeout rest s → (∃ e ∈ s.node.bus.requesters, 100 ≤ e.age) →
      exec .requestTimeout s =
        .next (settle
          { s with
            agenda := rest,
            node :=
              (s.node.bus.requesters.filter (fun e => decide (100 ≤ e.age))).foldl
                (fun x e => handOutcome e none x)
                { s.node with
                  bus :=
                    { s.node.bus with
                      requesters := s.node.bus.requesters.filter (fun e => !decide (100 ≤ e.age)) } } }))) ∧
  ∀ (n : Node) (code target : Nat) (args : List Byte) (origin : Originator),
    let b := n.bus
    let pending (t : Byte) : Prop := ∃ e ∈ b.requesters, e.tag = t
    let asks := sendRequest code target args origin n
    (n.inRun = false → asks = (.notSent, n)) ∧
    (n.inRun = true → 4 ≤ b.requesters.length →
      asks =
        (.dropped,
          { n with
            bus :=
              { b with
                counters :=
                  { b.counters with keyActionsDropped := min (b.counters.keyActionsDropped + 1) 65535 } } })) ∧
    (n.inRun = true → b.requesters.length < 4 →
      ∃ k : Nat,
        let tag := b.tagCounter + BitVec.ofNat 8 k
        k < 4 ∧ ¬ pending tag ∧ (∀ j, j < k → pending (b.tagCounter + BitVec.ofNat 8 j)) ∧
        asks =
          (.sent tag,
            offer target (.request code tag args)
              { n with
                bus :=
                  { b with
                    requesters :=
                      b.requesters ++
                        [{ tag := tag, code := code, target := target, age := 0, origin := origin }],
                    tagCounter := tag + 1 } }))

/-- Every REQUEST row (R8, R10, R11): ignored outside RUN and under destination 31; an unknown code, a role
that the station lacks and arguments too short are refused in that order, with the answer offered and nothing
else changed but the unknown-requests counter; that a RESTART too short does not count as a restart refusal is
the model's choice (log 13). UNKNOWN_REQUEST is the row of the codes outside 1 to 19. -/
def Obligations.RequestsRefusedByTheBus : Prop :=
  ∀ (s : State) (c : Instr) (r : RequestParts),
    requestParts c = some r → Reached r.src r.dst (2 + r.args.length) s →
    let n := s.node.heard
    let code := r.code.toNat
    let refused (x : Result) (m : Node) : Host.Outcome State Fault Refusal :=
      .next (answered r.src code r.tag { result := x, data := .none, node := m } s)
    (s.node.inRun = false ∨ r.dst = 31 → exec c s = .next (settle { s with node := n })) ∧
    (s.node.inRun = true → r.dst ≠ 31 →
      (code = 0 ∨ 19 < code →
        exec c s =
          refused .unknownKind
            { n with
              bus :=
                { n.bus with
                  counters :=
                    { n.bus.counters with
                      unknownRequests := min (n.bus.counters.unknownRequests + 1) 65535 } } }) ∧
      (1 ≤ code → code ≤ 19 → roleServes s.node.cfg.roles code = false → exec c s = refused .wrongRole n) ∧
      (1 ≤ code → code ≤ 19 → roleServes s.node.cfg.roles code = true → r.args.length < minArgs code →
        exec c s = refused .badField n))

/-- ROLLCALL_DUE (R15) and PRESENCE_EXPIRY (R17), each at its place in a boundary where it is due; what the
absence of a station does, after which the standing is worked out again (R125); the lines of the absent studio,
which return to HELD (R142); and the content of the roll call offered (R15, with the announced holder of R124).
The order among several stations that expire at one boundary, and among the lines of one studio, is the model's
(log 24), as is that the callers on air are those of the channels in ON_AIR alone (log 19). -/
def Obligations.RollCallAndAbsence : Prop :=
  (∀ (s : State) (rest : List Stage),
    (AtStage .rollcallDue rest s → s.node.inRun = true → s.node.bus.rollCountdown = some 0 →
      let m := offer 31 (.rollcall s.node.rollcall) s.node
      exec .rollcallDue s =
        .next (settle
          { s with
            agenda := rest,
            node :=
              { m with
                bus := { m.bus with rollCountdown := some 100, runawaySeen := false, clipFaultSeen := false } } })) ∧
    (AtStage .presenceExpiry rest s → (∃ p ∈ s.node.bus.presence, p.present = true ∧ 400 ≤ p.age) →
      exec .presenceExpiry s =
        .next (settle
          { s with
            agenda := rest,
            node :=
              ((List.range 30).map (· + 1)).foldl
                (fun m i =>
                  if (m.bus.entry i).present = true ∧ 400 ≤ (m.bus.entry i).age then stationGone i m else m)
                s.node }))) ∧
  ∀ (k : Nat) (n : Node),
    (let m : Node := { n with bus := { n.bus with presence := n.bus.presence.set (k - 1) .absent } }
     let told := studioAbsent k (stationAbsent k m)
     let d : Node := { told with bus := { told.bus with linkStation := told.bus.findLink } }
     stationGone k n =
       refreshStanding (if told.bus.findLink ≠ told.bus.linkStation then judgeHoldFeed d else d)) ∧
    (studioAbsent k n =
      [1, 2, 3, 4].foldl
        (fun m i =>
          if (m.phone.line i).state = .onAir ∧ (m.phone.line i).studio = some (.station k) then
            let x := returnHeld i m
            { x with
              phone :=
                { x.phone with
                  counters :=
                    { x.phone.counters with studioLosses := min (x.phone.counters.studioLosses + 1) 65535 } } }
          else m)
        n) ∧
    let h := n.air.holder
    let announced : Announced × Nat :=
      match h.kind with
      | .peer => (.station h.station, h.level)
      | .own => (.station n.cfg.number, h.level)
      | .alert => (.alert h.alertId, h.level)
      | .reserve => (if n.link.reserve.playing then .reserve else .silence, 0)
      | .none => (.silence, 0)
    let caller (r : TakeRecord) : Option (Nat × Nat) :=
      match r.state, r.phone, r.line with
      | .onAir, some (.station j), some l => some (j, l)
      | .onAir, some .own, some l => some (n.cfg.number, l)
      | _, _, _ => none
    n.rollcall =
      { station := n.cfg.number, roles := n.cfg.roles, level := n.air.ownLevel, serial := n.air.ownSerial,
        faults :=
          { silent := n.meters.studio.silent, runaway := n.bus.runawaySeen, clipFault := n.bus.clipFaultSeen },
        link :=
          if n.cfg.roles.link then
            some { holder := announced.1, level := announced.2, lost := n.link.returnLost }
          else none,
        phone :=
          if n.cfg.roles.phone then
            some { lines := n.phone.lines.map (fun l => l.state), queue := n.phone.queue }
          else none,
        studio :=
          if n.cfg.roles.studio then some { caller1 := caller n.take.ch1, caller2 := caller n.take.ch2 }
          else none }

/-- The nine rows of STATUS_QUERY (R22, R40, R62, R80, R103, R104, R127, R148, R165, R180, R197): each is
answered OK with its record of that moment where the index is in range, and BAD_FIELD elsewhere, and changes
nothing. Every record is written out field by field. The AIRVIEW record lists the entries of the claims table
that hold a claim or a last serial, each with its kind. The result data begin with the kind and the index; the
bytes of the record that follow are free values (log 3). The model's choices beside the fields: an entry that is
not valid shows what it last named (log 14); the clips LOADING stand in the order of their opening, and there is no
largest extent where no page is free (log 25); a start that PLAY left pending for a player not yet armed is shown
at the player that arming would take (log 17). -/
def Obligations.StatusRecordsAnswered : Prop :=
  ∀ (s : State) (src dst : Nat) (tag index : Byte),
    Asked src dst 2 s →
    let n := s.node.heard
    let i := index.toNat
    let gives (c : Instr) (kind : Byte) (ok : Prop) (d : ResultData) : Prop :=
      (∀ fresh, (resultBytes fresh d).take 2 = [kind, index]) ∧
      (ok → exec c s = .next (answered src 18 tag { result := .ok, data := d, node := n } s)) ∧
      (¬ ok → exec c s = .next (answered src 18 tag { result := .badField, data := .none, node := n } s))
    let b := n.bus
    let q := n.cue
    let x := n.mixer
    let a := n.alert
    let l := n.link
    let ramp (r : Ramp) : RampView := { value := r.value, target := r.target }
    let meter (m : MeterPoint) : MeterView :=
      { silent := m.silent, lastPeak := m.lastPeak, lastClips := m.lastClips, overload := m.overload,
        silentRun := m.silentRun, soundRun := m.soundRun, clipTotal := m.clipTotal, overTotal := m.overTotal }
    let slot := n.streams.slot i
    let extents := n.store.free
    let player := if i = 1 then q.b else q.a
    let armsNext : Prop :=
      q.a.state ≠ .armed ∧ q.b.state ≠ .armed ∧ player.state = .idle ∧
        (q.a.state = .idle → q.b.state = .idle → q.preferB = decide (i = 1))
    let contacts (levels : List Bool) : List Bool :=
      if n.cfg.roles.phone then levels else [false, false, false, false]
    let leg (g : Leg) : LegView :=
      { source := g.source, value := g.gain.value, target := g.gain.target,
        blocksToRun := (g.gain.len - g.gain.pos + 47) / 48 }
    gives (.statusQueryStation src dst tag index) 1 True
      (.station i
        { station := n.station, number := n.cfg.number, roles := n.cfg.roles,
          queueCounts := [b.q0.length, b.q1.length, b.q2.length, b.q3.length], consecutive := b.consecutive,
          linkStation := b.linkStation, presentBits := b.presence.map (fun e => e.present),
          presence :=
            ((List.range 30).map (fun k => (k + 1, b.presence.getD k .absent))).filter (fun e => e.2.present),
          pendingRequests := b.requesters.length, counters := b.counters, keys := n.lines.keys,
          tallies := List.zip n.cfg.tallyFns n.lines.outputs, staging := n.lines.staging,
          lastRefusal := n.lines.lastRefusal, lastAlert := n.lines.lastAlert, keyRefusals := n.lines.refusals }) ∧
    gives (.statusQuerySlot src dst tag index) 2 (i ≤ 7)
      (.slot i
        { entry := n.streams.entry i, state := slot.state, count := slot.blocks.length, lastSeq := slot.lastSeq,
          noArrival := slot.noArrival, overflowRun := slot.overflowRun, totals := slot.totals,
          startDepth := n.cfg.startDepth, highMark := n.cfg.highMark, outgoing := n.streams.outgoing }) ∧
    (∃ largest : Option Extent,
      (largest = none ↔ extents = []) ∧
      (∀ e, largest = some e →
        ∃ before after,
          extents = before ++ e :: after ∧ (∀ y ∈ before, y.count < e.count) ∧ ∀ y ∈ after, y.count ≤ e.count) ∧
      gives (.statusQueryClip src dst tag index) 3 True
        (.clip i
          { entry := n.store.clip i, load := n.store.loads.find? (fun c => decide (c.clip = i)),
            pages := n.store.pages, freeTotal := (extents.map (fun e => e.count)).sum, extents := extents.length,
            largest := largest, loadsInUse := n.store.loads.length,
            loading := n.store.loads.map (fun c => c.clip), counters := n.store.counters })) ∧
    gives (.statusQueryCueList src dst tag index) 4 (i ≤ 31)
      (.cueList i { count := q.list.length, entries := (q.list.drop i).take 16 }) ∧
    (∃ pending : Bool,
      (pending = true ↔ player.pending = true ∨ (q.armStart = true ∧ armsNext)) ∧
      gives (.statusQueryPlayer src dst tag index) 5 (i ≤ 1)
        (.player i
          { player := { player with pending := pending }, countdown := q.countdown, heldFlag := q.heldFlag,
            preferB := q.preferB, counters := q.counters,
            mixer :=
              { live := x.live, swap := x.swap.map (fun w => (w.len, w.remaining)), bank0 := x.bank0,
                bank1 := x.bank1, gains := x.gains.map ramp, playerFaders := [ramp x.faderA, ramp x.faderB],
                callerFaders := [ramp x.caller1.fader, ramp x.caller2.fader],
                callers := [(x.caller1.state, x.caller1.source), (x.caller2.state, x.caller2.source)],
                duckOn := x.duckOn, duck := ramp x.duck, mmClips := [x.mmClips1, x.mmClips2],
                voiceFlags := n.cfg.voiceFlags,
                meters :=
                  (if n.cfg.roles.studio then [meter n.meters.studio] else []) ++
                    (if n.cfg.roles.site then [] else n.meters.slots.map meter) ++
                    (if n.cfg.roles.link then [meter n.meters.holderInput, meter n.meters.linkOutput] else []) ++
                    (if n.cfg.roles.site then [meter n.meters.siteOutput, meter n.meters.incoming] else []),
                silenceThreshold := n.cfg.silenceThreshold, silenceTime := n.cfg.silenceTime,
                overloadThreshold := n.cfg.overloadThreshold } })) ∧
    gives (.statusQueryLines src dst tag index) 6 True
      (.lines i
        { blockCount := n.phone.blockCount, autoAnswer := n.cfg.autoAnswer, lines := n.phone.lines,
          ring := contacts n.pins.ring, loop := contacts n.pins.loop, queue := n.phone.queue,
          holdFeed :=
            if n.cfg.roles.link then .direct
            else
              match n.phone.holdEntry with
              | some k => .entry k
              | none => .none,
          takes := [n.take.ch1, n.take.ch2], phoneCounters := n.phone.counters,
          takeCounters := n.take.counters }) ∧
    (∀ r : ClaimRow,
      r ∈ n.airView.claims ↔
        r.station ≤ 30 ∧ r.entry = n.air.entry r.station ∧ (r.entry.claim ≠ none ∨ r.entry.lastSerial ≠ none) ∧
          r.kind = if r.station = 0 then .alert else if r.station = n.cfg.number then .own else .peer) ∧
    (n.airView.claims.map (fun r => r.station)).Pairwise (· < ·) ∧
    gives (.statusQueryAirView src dst tag index) 7 True
      (.airView i
        { level := n.air.ownLevel, serial := n.air.ownSerial, ownView := n.air.ownView,
          linkStation := b.linkStation, standing := n.air.standing, waiting := n.air.waiting,
          alertOnAir := n.air.alertOnAir,
          announced :=
            if n.air.ownView then none
            else
              match b.linkStation with
              | some k => (b.entry k).link.map (fun v => (v.holder, v.level))
              | none => none,
          holder := n.air.holder, stack := n.air.stack.reverse, arrivals := n.air.arrivals,
          claims := n.airView.claims, outgoing := n.air.outgoing, counters := n.air.counters }) ∧
    gives (.statusQueryAlertHist src dst tag index) 8 True
      (.alertHist i
        { blockCount := a.blockCount, active := a.active, phase := a.player.phase,
          repetition := a.player.repetition, blocksLeft := a.player.blocksLeft, fader := a.player.fader.value,
          queue := a.queue, entryCount := a.entryCount,
          entries :=
            ((List.range 16).map (fun k => a.ring.getD ((a.writePos + 15 - k) % 16) none)).filterMap id,
          areaCodes := n.cfg.areaCodes, areaHash := n.cfg.areaHash, testAlerts := n.cfg.testAlerts,
          gathering := decide (a.gathered ≠ []), gathered := a.gathered, counters := a.counters }) ∧
    gives (.statusQueryLink src dst tag index) 9 (s.node.cfg.roles.link = true)
      (.link i
        { linkId := n.cfg.linkId, siteId := n.cfg.siteId, phase := l.phase, seq := l.seq, blockSeq := l.blockSeq,
          incoming := leg l.incoming, outgoing := l.outgoing.map leg,
          selectorMode :=
            match l.incoming.source with
            | .peer _ k => { kind := .programme, arg := k }
            | .own => { kind := .programme, arg := n.cfg.number }
            | .alert => { kind := .alert, arg := l.alertId }
            | .reserve => { kind := if l.reserve.playing then .reserve else .silence, arg := 0 },
          frameMode := l.frameMode, reservePlaying := l.reserve.playing, reserveClip := n.cfg.reserveClip,
          reservePos := l.reserve.pos, framesHeld := l.buffer.length, transfer := l.transfer,
          returnLost := l.returnLost, returnAge := l.returnAge, lastReturn := l.lastReturn, deadAir := l.deadAir,
          linkOutput := meter n.meters.linkOutput, holderInput := meter n.meters.holderInput,
          counters := l.counters })

/-- BLOCK (R31 to R33): what an arrival does to the slot of the entry that names its stream, by its distance
from the last sequence; a BLOCK of a stream that no entry names is discarded. Nothing else of the part
changes but the packets-accepted counter, the line, and the runaway-seen flag. The read position after an
emptying is the model's choice (log 9). -/
def Obligations.BlockPlacedBySequence : Prop :=
  ∀ (s : State) (src dst : Nat) (payload : List Byte) (f : BlockFields),
    Reached src dst payload.length s → parseBlock payload = some f →
    (s.node.streams.find src f.index = none →
      exec (.block src dst payload) s = .next (settle { s with node := s.node.heard })) ∧
    ∀ i, s.node.streams.find src f.index = some i →
    let old := s.node.streams.slot i
    let b : HeldBlock := { seq := f.seq, channels := f.channels, endFlag := f.endFlag, audio := f.audio }
    let behind := (old.readPos + old.blocks.length) % 16
    let base : Slot := { old with noArrival := 0, lastSeq := some f.seq }
    let appended (x : Slot) : Slot × Bool :=
      if x.blocks.length < 16 then ({ x with blocks := x.blocks ++ [b] }, false)
      else if min (x.overflowRun + 1) 15 = 15 then
        ({ x with
            blocks := [b], readPos := behind, state := .filling, overflowRun := 0,
            totals :=
              { x.totals with
                drops := min (x.totals.drops + 1) 65535, runaways := min (x.totals.runaways + 1) 65535 } },
          true)
      else
        ({ x with
            blocks := x.blocks.drop 1 ++ [b], readPos := (x.readPos + 1) % 16,
            overflowRun := min (x.overflowRun + 1) 15,
            totals := { x.totals with drops := min (x.totals.drops + 1) 65535 } },
          false)
    let put (x : Slot × Bool) : Host.Outcome State Fault Refusal :=
      .next (settle
        { s with
          node :=
            { s.node.heard with
              streams := { s.node.streams with slots := s.node.streams.slots.set i x.1 },
              bus := { s.node.heard.bus with runawaySeen := s.node.bus.runawaySeen || x.2 } } })
    let result := exec (.block src dst payload) s
    (old.lastSeq = none →
      result = put (appended { base with state := if old.state = .ended then .filling else old.state })) ∧
    ∀ last, old.lastSeq = some last →
      let d := (f.seq - last).toNat
      (d = 1 → result = put (appended base)) ∧
      (2 ≤ d → d ≤ 8 →
        result =
          put (appended { base with totals := { old.totals with lost := min (old.totals.lost + (d - 1)) 65535 } })) ∧
      (9 ≤ d → d ≤ 32768 →
        result =
          put
            ({ base with
                blocks := [b], readPos := behind, state := .filling,
                totals := { old.totals with resyncs := min (old.totals.resyncs + 1) 65535 } },
              false)) ∧
      (d = 0 ∨ 32769 ≤ d →
        result =
          put
            ({ old with
                noArrival := 0, totals := { old.totals with stale := min (old.totals.stale + 1) 65535 } },
              false))

/-- The receive slots at a block boundary (R34 to R37): the no-arrival counts; SLOT_TIMEOUT, which ends every
RUNNING or REFILLING slot whose count stands at 50; what each slot then gives out, with the slip of R35 in
RUNNING and at a release alike; and the report of every ending, with its reason, to the requester block of the
entry: those by TIMEOUT before any slot is read out, then those by END, each in slot order once all of its
reason have ended, the model's choice (log 24). Where the read position of an emptied slot stands is the
model's choice (log 9). -/
def Obligations.SlotsAtABoundary : Prop :=
  (∀ (x : Slot) (startDepth highMark : Nat),
    let released :=
      x.state = .running ∨ ((x.state = .filling ∨ x.state = .refilling) ∧
        (startDepth ≤ x.blocks.length ∨ ∃ c ∈ x.blocks, c.endFlag = true))
    let reads (y : Slot) (b : HeldBlock) (rest : List HeldBlock) : Slot × Bool :=
      let read : Slot :=
        { y with
          state := .running, blocks := rest, readPos := (y.readPos + 1) % 16, lastSupplied := some b,
          overflowRun := 0, out := { channels := b.channels, audio := b.audio } }
      if b.endFlag then
        ({ read with
            state := .ended, lastSeq := none, blocks := [], readPos := (read.readPos + rest.length) % 16 },
          true)
      else (read, false)
    (x.state = .free → x.boundary startDepth highMark = (x, false)) ∧
    (x.state = .ended → x.boundary startDepth highMark = ({ x with out := .silence }, false)) ∧
    ((x.state = .filling ∨ x.state = .refilling) → ¬ released →
      x.boundary startDepth highMark = ({ x with out := .silence }, false)) ∧
    (x.state = .running → x.blocks = [] →
      x.boundary startDepth highMark =
        ({ x with
            state := .refilling,
            out :=
              match x.lastSupplied with
              | some b => { channels := b.channels, audio := b.audio }
              | none => .silence,
            totals := { x.totals with underruns := min (x.totals.underruns + 1) 65535 } },
          false)) ∧
    (∀ a rest, x.blocks = a :: rest → released →
      (x.blocks.length < highMark ∨ a.endFlag = true → x.boundary startDepth highMark = reads x a rest) ∧
      ∀ b tail, rest = b :: tail → highMark ≤ x.blocks.length → a.endFlag = false →
        x.boundary startDepth highMark =
          reads
            { x with
              readPos := (x.readPos + 1) % 16,
              totals := { x.totals with slips := min (x.totals.slips + 1) 65535 } }
            b tail)) ∧
  (∀ (m : Memory) (n : Node),
    (stageRun .slotAges m n =
      { n with
        streams :=
          { n.streams with
            slots :=
              n.streams.slots.map (fun x =>
                if x.state = .running ∨ x.state = .refilling then
                  { x with noArrival := min (x.noArrival + 1) 50 }
                else x) } }) ∧
    let given := n.streams.slots.map (fun x => x.boundary n.cfg.startDepth n.cfg.highMark)
    stageRun .slotRead m n =
      (((List.range 8).filter (fun i => (given.getD i (.reset, false)).2)).map
          (fun i => ({ entry := i, reason := .endFlag } : SlotReport))).foldl
        (fun x r => reportSlotEnd r x)
        { n with streams := { n.streams with slots := given.map Prod.fst } }) ∧
  (∀ (s : State) (rest : List Stage),
    AtStage .slotTimeout rest s →
    let due (x : Slot) : Prop := (x.state = .running ∨ x.state = .refilling) ∧ 50 ≤ x.noArrival
    (∃ x ∈ s.node.streams.slots, due x) →
    ∃ (ended : Slot → Slot) (which : List SlotReport),
      (∀ x, due x →
        ended x =
          { x with
            blocks := [], readPos := (x.readPos + x.blocks.length) % 16, state := .ended, lastSeq := none,
            out := .silence }) ∧
      (∀ x, ¬ due x → ended x = x) ∧
      (∀ r, r ∈ which ↔ r.entry < 8 ∧ due (s.node.streams.slot r.entry) ∧ r.reason = .timeout) ∧
      which.Pairwise (fun a b => a.entry < b.entry) ∧
      exec .slotTimeout s =
        .next (settle
          { s with
            agenda := rest,
            node :=
              which.foldl (fun x r => reportSlotEnd r x)
                { s.node with
                  streams := { s.node.streams with slots := s.node.streams.slots.map ended } } })) ∧
  ∀ (r : SlotReport) (n : Node),
    reportSlotEnd r n =
      match (n.streams.entry r.entry).purpose with
      | .follow => airSlotEnded r n
      | .watch => airSlotEnded r n
      | .caller => callerSlotEnded r n
      | .mixminus => mixMinusSlotEnded r n
      | .onair => n
      | .item => itemSlotEnded r n

/-- The outgoing stream set (R24 to R26): what a start and a stop request do, the BLOCK that each index makes
at a block boundary in RUN with the audio of the block that ended, the index after it, and the start that an
index takes at a boundary outside RUN, where no BLOCK is made and the sequence holds. That the first BLOCK of
a started index is made at the boundary at which it becomes ACTIVE is log 14; that an index with a start kept
stays ENDING from its END block to the boundary after is the model's reading (log 14); that the BLOCKs are
offered in index order is log 24. -/
def Obligations.BlocksMade : Prop :=
  ∀ (m : Memory) (n : Node) (i : Nat),
    (∀ line, sendsIndex n.cfg.roles i = false → startOut i line n = n ∧ stopOut i n = n) ∧
    stageRun .makeBlocks m n = (List.range 8).foldl (fun x k => makeBlock k x) n ∧
    ∀ o, n.streams.outgoing[i]? = some o →
      let put (x : OutIndex) : Node :=
        { n with streams := { n.streams with outgoing := n.streams.outgoing.set i x } }
      (sendsIndex n.cfg.roles i = true →
        (∀ line,
          (o.state = .active → startOut i line n = put { o with next := some line }) ∧
          (o.state ≠ .active → startOut i line n = put { o with start := some line })) ∧
        (o.state = .active → stopOut i n = put { o with state := .ending }) ∧
        (o.state ≠ .active → stopOut i n = n)) ∧
      (n.inRun = false →
        (∀ l, o.start = some l → o.state = .inactive ∨ (o.state = .ending ∧ o.again = true) →
          makeBlock i n = put { o with state := .active, line := l, start := none, next := none, again := false }) ∧
        (o.start = none ∨ o.state = .active ∨ (o.state = .ending ∧ o.again = false) → makeBlock i n = n)) ∧
      (n.inRun = true →
        let sends (ends : Bool) (line : Nat) (x : OutIndex) : Prop :=
          makeBlock i n =
            offer 31
              (.block i (if i = 0 ∨ i = 5 then 2 else 1) o.seq ends (if 6 ≤ i then line else 0)
                (n.audio.forIndex i))
              (put { x with seq := o.seq + 1 })
        let line := o.next.getD o.line
        (o.state = .inactive → o.start = none → makeBlock i n = n) ∧
        (∀ l, o.state = .inactive → o.start = some l →
          sends false l { o with state := .active, line := l, start := none, next := none, again := false }) ∧
        (o.state = .active → sends false line { o with line := line, next := none }) ∧
        (o.state = .ending → o.start = none →
          sends true line { o with state := .inactive, line := line, next := none }) ∧
        (∀ l, o.state = .ending → o.start = some l →
          (o.again = false → sends true line { o with line := line, next := none, again := true }) ∧
          (o.again = true →
            sends false l { o with state := .active, line := l, start := none, next := none, again := false }))) ∧
      (n.audio.programme.length = 48 → n.audio.forIndex 0 = n.audio.programme) ∧
      (n.audio.selector.length = 48 → n.audio.forIndex 5 = n.audio.selector) ∧
      (n.audio.mixMinus1.length = 48 → n.audio.forIndex 6 = n.audio.mixMinus1.map (fun x => (x, x))) ∧
      (n.audio.mixMinus2.length = 48 → n.audio.forIndex 7 = n.audio.mixMinus2.map (fun x => (x, x))) ∧
      ∀ xs, 1 ≤ i → i ≤ 4 → n.audio.lines[i - 1]? = some xs → xs.length = 48 →
        n.audio.forIndex i = xs.map (fun x => (x, x))

/-- The listen table (R28 to R30). ADDED takes the lowest-numbered entry that is not valid and makes its slot
ready; a stream named already is IN_USE, and a full table FULL, with no change. The slot's meter point
starts (R57). A change of purpose within the requester block's own purposes changes that field alone, any other is
refused. A removal makes the entry not valid, empties and frees its slot with the totals kept, and stops the
slot's meter point; an entry that is not valid stays as it is. The read position a slot keeps when it is made ready
or flushed is the model's choice (log 9), as is that a removed entry keeps what it named and its slot its last
sequence, no-arrival count and overflow run (log 14). -/
def Obligations.ListenTableChanges : Prop :=
  let owner (p : Purpose) : RequesterBlock :=
    match p with
    | .follow => .airUnit
    | .watch => .airUnit
    | .caller => .takePath
    | .mixminus => .phoneUnit
    | .onair => .phoneUnit
    | .item => .cueEngine
  (∀ (station index : Nat) (p : Purpose) (n : Node),
    let named (e : ListenEntry) : Prop := e.valid = true ∧ e.station = station ∧ e.index = index
    ((∃ e ∈ n.streams.listen, named e) → addListen station index p n = (.refused .inUse, n)) ∧
    ((∀ e ∈ n.streams.listen, ¬ named e) → (∀ e ∈ n.streams.listen, e.valid = true) →
      addListen station index p n = (.refused .full, n)) ∧
    (∀ before e after, n.streams.listen = before ++ e :: after → (∀ x ∈ before, x.valid = true) →
      e.valid = false → (∀ x ∈ n.streams.listen, ¬ named x) →
      let i := before.length
      addListen station index p n =
        (.added i,
          { n with
            streams :=
              { n.streams with
                listen :=
                  before ++
                    { valid := true, station := station, index := index, purpose := p,
                      requester := owner p } :: after,
                slots :=
                  n.streams.slots.modify i (fun x =>
                    { state := .filling, blocks := [], readPos := x.readPos, lastSeq := none,
                      lastSupplied := none, noArrival := 0, overflowRun := 0, totals := .zero,
                      out := .silence }) },
            meters :=
              { n.meters with
                slots :=
                  n.meters.slots.modify i (fun m =>
                    { m with
                      running := true, waiting := true, pos := 0, peak := 0, clips := 0, lastPeak := 0,
                      lastClips := 0, silent := false, silentRun := 0, soundRun := 0, overload := false }) } }))) ∧
  ∀ (i : Nat) (p : Purpose) (n : Node),
    let e := n.streams.entry i
    (e.valid = true → e.requester = owner p →
      changePurpose i p n =
        { n with streams := { n.streams with listen := n.streams.listen.set i { e with purpose := p } } }) ∧
    (e.valid = false ∨ e.requester ≠ owner p → changePurpose i p n = n) ∧
    (e.valid = true →
      removeListen i n =
        { n with
          streams :=
            { n.streams with
              listen := n.streams.listen.set i { e with valid := false },
              slots :=
                n.streams.slots.modify i (fun x =>
                  { x with
                    state := .free, blocks := [], readPos := (x.readPos + x.blocks.length) % 16,
                    lastSupplied := none, out := .silence }) },
          meters :=
            { n.meters with
              slots := n.meters.slots.modify i (fun m => { m with running := false, waiting := false }) } }) ∧
    (e.valid = false → removeListen i n = n) ∧ removeListen? none n = n ∧
    removeListen? (some i) n = removeListen i n

/-- The ramp law (R45, R46): the value at each instant, the jump of a length of 0, the turn of a new target
and the later of two targets given between two boundaries. -/
def Obligations.RampsTurnAndRun : Prop :=
  ∀ r : Ramp,
    (r.pos < r.len →
      r.advance = { r with pos := r.pos + 1 } ∧
        (r.advance.value : Int) =
          (if r.pos + 1 < r.len then
            (r.start : Int) + (((r.target : Int) - r.start) * ((r.pos : Int) + 1)).tdiv r.len
          else (r.target : Int)) ∧
        min r.start r.target ≤ r.advance.value ∧ r.advance.value ≤ max r.start r.target) ∧
      (r.len ≤ r.pos → r.advance = r ∧ r.value = r.target) ∧
      (Nat.repeat Ramp.advance (r.len - r.pos) r).value = r.target ∧
      (∀ t, (r.retarget t 0).value = t ∧ (r.retarget t 0).pos = (r.retarget t 0).len) ∧
      (∀ t n, 0 < n →
        r.retarget t n =
          { start := r.value, target := t, len := 48 * n, pos := 0, running := true, pending := none } ∧
        (r.retarget t n).value = r.value) ∧
      ∀ t n t' n', (r.give t n).value = r.value ∧ ((r.give t n).give t' n').applyPending = r.retarget t' n'

/-- SAMPLE_SET_INSTANT at a STUDIO station of the bus (R42, R45, R54 to R56): the ramps advance, the
effective gains are formed from them, and the programme and both mix-minus samples come of the exact sums.
The samples and the pins' levels are operands, a short list standing for 0 beyond its end (log 2); the
mix-minus clip totals are 16 bits wide and saturate (log 16). -/
def Obligations.InstantMixesTheProgramme : Prop :=
  ∀ (s : State) (inp : Inputs),
    Quiet s → s.node.onBus = true → s.node.cfg.roles.studio = true →
    let m0 := s.node.mixer
    let m := m0.advance
    let n : Node := { takeInputs inp s.node with mixer := m }
    let duck := m.duck.value
    let voice (i : Nat) := s.node.cfg.voiceFlags.getD i false
    let locals (i : Nat) : Nat := if voice i then m.gain i else scaleGain (m.gain i) duck
    let a := playerGives s.mem n s.node.cue.a
    let b := playerGives s.mem n s.node.cue.b
    let c1 := callerGives n inp m.caller1
    let c2 := callerGives n inp m.caller2
    let gA : Nat := scaleGain (scaleGain (m.gain 4) m.faderA.value) duck
    let gB : Nat := scaleGain (scaleGain (m.gain 5) m.faderB.value) duck
    let mono : Int :=
      (inp.locals.getD 0 0).toInt * locals 0 + (inp.locals.getD 1 0).toInt * locals 1 +
        (inp.locals.getD 2 0).toInt * locals 2 + (inp.locals.getD 3 0).toInt * locals 3
    let t1 : Int := c1.toInt * scaleGain (m.gain 6) m.caller1.fader.value
    let t2 : Int := c2.toInt * scaleGain (m.gain 7) m.caller2.fader.value
    let accL : Int := mono + a.1.toInt * gA + b.1.toInt * gB + t1 + t2
    let accR : Int := mono + a.2.toInt * gA + b.2.toInt * gB + t1 + t2
    let left := (accL + 8192).fdiv 16384
    let right := (accR + 8192).fdiv 16384
    let minus1 := (accL - t1 + (accR - t1) + 16384).fdiv 32768
    let minus2 := (accL - t2 + (accR - t2) + 16384).fdiv 32768
    let clamped : Nat := (if clamps left then 1 else 0) + (if clamps right then 1 else 0)
    let mixed : Mixer :=
      { m with
        programme := (saturate left, saturate right), mixMinus1 := saturate minus1,
        mixMinus2 := saturate minus2,
        mmClips1 := if clamps minus1 then satInc m.mmClips1 else m.mmClips1,
        mmClips2 := if clamps minus2 then satInc m.mmClips2 else m.mmClips2 }
    let x : Node :=
      { takeInputs inp s.node with
        mixer := mixed, cue := { s.node.cue with a := s.node.cue.a.readOn, b := s.node.cue.b.readOn },
        meters :=
          { s.node.meters with
            studio := s.node.meters.studio.take [saturate left, saturate right] clamped } }
    exec (.sampleSetInstant inp) s =
      .next (settle
        { s with
          node :=
            gatherAudio inp
              (slotMeters
                (linesInstant
                  (if s.node.cfg.roles.link then selectorInstant s.mem (advanceLink x) else x))) })

/-- SAMPLE_SET_INSTANT beside the mixer (R168, R171, R187, R135, R38, R25). At the link selector, with or
without STUDIO, and at the site crossfade the output is the exact sum of the legs' terms, rounded and
saturated, the gains having advanced. The phone lines give what their states say, and silence between a
return to HELD and the next boundary (log 19); each slot's meter point takes what its slot gives out, as
held; the block in progress gathers its audio. In CONFIG and UNCONFIGURED the instant brings the pins'
levels alone: samples and levels as operands are the model's form (log 2). -/
def Obligations.InstantAtSelectorAndSite : Prop :=
  ∀ (s : State) (inp : Inputs), Quiet s →
    let n := takeInputs inp s.node
    let mixed (p q : SampleSet) (g h : Nat) : SampleSet :=
      (saturate ((p.1.toInt * g + q.1.toInt * h + 8192).fdiv 16384),
        saturate ((p.2.toInt * g + q.2.toInt * h + 8192).fdiv 16384))
    let l := s.node.link
    (s.node.onBus = true → s.node.cfg.roles.link = true → s.node.cfg.roles.studio = false →
      let x := advanceLink n
      let gives := sourceGives s.mem x
      let inGain := l.incoming.gain.advance.value
      ∃ t : State,
        exec (.sampleSetInstant inp) s = .next t ∧ t.mem = s.mem ∧ t.node.mixer = s.node.mixer ∧
          t.node.link.out =
            (match l.outgoing with
            | some o => mixed (gives l.incoming.source) (gives o.source) inGain o.gain.advance.value
            | none => mixed (gives l.incoming.source) (0, 0) inGain 0) ∧
          t.node.link.incoming = { l.incoming with gain := l.incoming.gain.advance } ∧
          t.node.link.outgoing = l.outgoing.map (fun o => { o with gain := o.gain.advance })) ∧
    (s.node.onBus = false → s.node.siteWorks = true →
      let c := s.node.site
      let clip := c.store.clip s.node.cfg.reserveClip
      let reserve : SampleSet := if c.reserve.playing then readClip s.mem clip c.reserve.pos else (0, 0)
      let linkGives : SampleSet := c.buffer.given.getD (c.phase * 48 + s.node.audio.index) (0, 0)
      let next := if clip.length ≤ c.reserve.pos + 1 then 0 else c.reserve.pos + 1
      ∃ t : State,
        exec (.sampleSetInstant inp) s = .next t ∧ t.mem = s.mem ∧
          t.node.site =
            { c with
              out := mixed linkGives reserve c.linkLeg.advance.value c.reserveLeg.advance.value,
              linkLeg := c.linkLeg.advance, reserveLeg := c.reserveLeg.advance,
              reserve := if c.reserve.playing then { c.reserve with pos := next } else c.reserve }) ∧
    (s.node.onBus = false → s.node.siteWorks = false →
      exec (.sampleSetInstant inp) s = .next (settle { s with node := n })) ∧
    (s.node.onBus = true → s.node.cfg.roles.studio = false →
      exec (.sampleSetInstant inp) s =
        .next (settle
          { s with
            node :=
              gatherAudio inp
                (slotMeters
                  (linesInstant
                    (if s.node.cfg.roles.link then selectorInstant s.mem (advanceLink n) else n))) })) ∧
    ∀ (m : Memory) (x : Node),
      let y := advanceLink x
      let k := x.link
      let give := sourceGives m y
      ((selectorInstant m y).link.out =
        match k.outgoing with
        | some o =>
          mixed (give k.incoming.source) (give o.source) k.incoming.gain.advance.value o.gain.advance.value
        | none => mixed (give k.incoming.source) (0, 0) k.incoming.gain.advance.value 0) ∧
      give .own = (if x.cfg.roles.studio then x.mixer.programme else (0, 0)) ∧
      (x.cfg.roles.phone = false → linesInstant x = x) ∧
      (x.cfg.roles.phone = true →
        let slot (i : Nat) : Sample := (x.streams.slot i).out.monoAt x.audio.index
        let hold : Sample :=
          if x.cfg.roles.link then monoOf x.link.out
          else
            match x.phone.holdEntry with
            | some i => slot i
            | none => 0
        ∃ give : Nat → Sample,
          linesInstant x = { x with phone := { x.phone with outgoing := [give 1, give 2, give 3, give 4] } } ∧
          ∀ i,
            let r := x.phone.line i
            (r.state = .idle ∨ r.state = .ringing → give i = 0) ∧
            (r.state = .queued ∨ r.state = .held → give i = if r.holdLater then 0 else hold) ∧
            (∀ st e, r.state = .onAir → r.studio = some (.station st) → r.mmEntry = some e → give i = slot e) ∧
            (r.state = .onAir → r.studio = some .own → give i = x.localMixMinus i)) ∧
      (slotMeters x =
        { x with
          meters :=
            { x.meters with
              slots :=
                List.zipWith
                  (fun (p : MeterPoint) (z : Slot) =>
                    let v := z.out.set x.audio.index
                    let seen := if z.out.channels = 2 then [v.1, v.2] else [v.1]
                    if p.running && !p.waiting then
                      { p with
                        peak := seen.foldl (fun a b => max a (magnitude b)) p.peak,
                        clips := p.clips + seen.countP atFullScale }
                    else p)
                  x.meters.slots x.streams.slots } }) ∧
      gatherAudio inp x =
        { x with
          audio :=
            { index := x.audio.index + 1, programme := x.audio.programme ++ [x.mixer.programme],
              mixMinus1 := x.audio.mixMinus1 ++ [x.mixer.mixMinus1],
              mixMinus2 := x.audio.mixMinus2 ++ [x.mixer.mixMinus2],
              lines := List.zipWith (fun xs i => xs ++ [inp.lines.getD i 0]) x.audio.lines [0, 1, 2, 3],
              selector := x.audio.selector ++ [x.link.out] } }

/-- SCENE_WRITE (R48) at a STUDIO station: its table, row by row. -/
def Obligations.SceneWriteDecided : Prop :=
  ∀ (s : State) (src dst : Nat) (tag : Byte) (a : List Byte),
    Asked src dst a.length s → s.node.cfg.roles.studio = true → 4 ≤ a.length →
    let n := s.node.heard
    let x := s.node.mixer
    let bank := byteAt a 0
    let item := byteAt a 1
    let v := fieldAt a 2 2
    let gives (r : Result) (m : Node) : Prop :=
      exec (.sceneWrite src dst tag a) s =
        .next (answered src 6 tag { result := r, data := .none, node := m } s)
    let stored : Mixer :=
      if bank = 0 then { x with bank0 := x.bank0.store item v } else { x with bank1 := x.bank1.store item v }
    (x.swap ≠ none → gives .busy n) ∧
    (x.swap = none → 1 < bank ∨ 8 < item → gives .badField n) ∧
    (x.swap = none → bank ≤ 1 → item ≤ 8 → bank ≠ x.live → gives .ok { n with mixer := stored }) ∧
    (x.swap = none → bank ≤ 1 → item ≤ 7 → bank = x.live →
      gives .ok
        { n with mixer := { stored with gains := x.gains.modify item (fun r => { r with pending := some (v, 2) }) } }) ∧
    (x.swap = none → bank ≤ 1 → item = 8 → bank = x.live →
      (x.duckOn = true →
        gives .ok { n with mixer := { stored with duck := { x.duck with pending := some (v, 2) } } }) ∧
      (x.duckOn = false → gives .ok { n with mixer := stored }))

/-- The mixer's part of a boundary at a STUDIO station (R46, R49, R51 to R53): callers, the start of a swap,
the targets given before, and the duck last. That the releases carried out include those that an earlier event of
the same boundary made is the model's choice (log 26).
SCENE_SWAP_END (R49), CALLER_RELEASE_DONE (R52, R147), VOICE_OPEN (R53, R194) and VOICE_OPEN_RELEASE
(R193) at their places in a boundary, where they are due.
SCENE_SWAP (R49): BUSY while one is in progress; else the banks exchange their roles at once and the swap waits
for the next boundary with its length. -/
def Obligations.MixerBoundaryAndSceneSwap : Prop :=
  ((∀ (m : Memory) (n : Node), n.cfg.roles.studio = true →
      let x := n.mixer
      let caller (c : Caller) : Caller :=
        match c.pending, c.state with
        | some (.activate src), .active => { c with pending := none, source := src }
        | some (.activate src), _ =>
          { c with pending := none, state := .active, source := src, fader := c.fader.retarget 16384 5 }
        | some .release, .active => { c with pending := none, state := .releasing, fader := c.fader.retarget 0 5 }
        | _, _ => { c with pending := none }
      let live := if x.live = 0 then x.bank0 else x.bank1
      let given (r : Ramp) : Ramp :=
        match r.pending with
        | some (t, k) => r.retarget t k
        | none => r
      let after (gains : List Ramp) (duck : Ramp) (swap : Option Swap) : Mixer :=
        let c1 := caller x.caller1
        let c2 := caller x.caller2
        let gain (i : Nat) : Nat := (gains.getD i (.settled 0)).value
        let holds : Prop :=
          (n.lines.voiceHeld.any id = true) ∨ (c1.state = .active ∧ 0 < gain 6) ∨ (c2.state = .active ∧ 0 < gain 7)
        { x with
          caller1 := c1, caller2 := c2, gains := gains, faderA := given x.faderA, faderB := given x.faderB,
          swap := swap, duckOn := decide holds,
          duck :=
            if holds ∧ x.duckOn = false then duck.retarget live.duckDepth 5
            else if ¬ holds ∧ x.duckOn = true then duck.retarget 16384 5
            else duck }
      ((∀ w, x.swap = some w → w.started = true) →
        stageRun .mixerTargets m n = { n with mixer := after (x.gains.map given) (given x.duck) x.swap }) ∧
      ∀ w, x.swap = some w → w.started = false → 0 < w.len →
        stageRun .mixerTargets m n =
          { n with
            mixer :=
              after (List.zipWith (fun r g => r.retarget g w.len) x.gains live.gains)
                (if x.duckOn then x.duck.retarget live.duckDepth w.len else given x.duck)
                (some { w with started := true }) }) ∧
   (∀ (s : State) (rest : List Stage),
      let x := s.node.mixer
      let done (n : Node) : Host.Outcome State Fault Refusal := .next (settle { s with agenda := rest, node := n })
      let ended (c : Caller) : Prop := c.state = .releasing ∧ c.fader.running = true ∧ c.fader.len ≤ c.fader.pos
      let inactive (c : Caller) : Caller := { c with state := .inactive, source := .none, fader := .settled 0 }
      let told (ch : Nat) (n : Node) : Node :=
        if (n.take.channel ch).state = .releasing then
          setTake ch .reset (removeListen? (n.take.channel ch).entry n)
        else n
      let accepted (i : Nat) : Bool :=
        decide (s.node.cfg.keyFns.getD i .none = .voiceOpen) && (s.node.lines.keys.getD i .reset).accepted
      (∀ w, AtStage .sceneSwapEnd rest s → x.swap = some w → w.started = true → w.remaining = 0 →
        exec .sceneSwapEnd s = done { s.node with mixer := { x with swap := none } }) ∧
      (AtStage .callerReleaseDone rest s → ended x.caller1 → ¬ ended x.caller2 →
        exec .callerReleaseDone s =
          done (told 1 { s.node with mixer := { x with caller1 := inactive x.caller1 } })) ∧
      (AtStage .callerReleaseDone rest s → ¬ ended x.caller1 → ended x.caller2 →
        exec .callerReleaseDone s =
          done (told 2 { s.node with mixer := { x with caller2 := inactive x.caller2 } })) ∧
      (AtStage .callerReleaseDone rest s → ended x.caller1 → ended x.caller2 →
        exec .callerReleaseDone s =
          done (told 2 (told 1
            { s.node with mixer := { x with caller1 := inactive x.caller1, caller2 := inactive x.caller2 } }))) ∧
      (AtStage .voiceOpen rest s → s.node.pressedWith (isFn .voiceOpen) ≠ [] →
        exec .voiceOpen s =
          done
            { s.node with
              lines :=
                { s.node.lines with
                  voiceHeld := (List.range 8).map accepted,
                  pressed := s.node.lines.pressed.filter (fun k => !isFn .voiceOpen (s.node.cfg.keyFn k)) } }) ∧
      (AtStage .voiceOpenRelease rest s →
        (∃ i < 8, s.node.lines.voiceHeld.getD i false = true ∧ accepted i = false) →
        exec .voiceOpenRelease s =
          done
            { s.node with
              lines :=
                { s.node.lines with
                  voiceHeld := (List.range 8).map (fun i => s.node.lines.voiceHeld.getD i false && accepted i) } }))) ∧
  ∀ (s : State) (src dst : Nat) (tag : Byte) (a : List Byte),
    Asked src dst a.length s → s.node.cfg.roles.studio = true → 2 ≤ a.length →
    let n := s.node.heard
    let x := s.node.mixer
    let raw := fieldAt a 0 2
    let len := if raw = 0 then 1 else if 1000 < raw then 1000 else raw
    let live := if x.live = 0 then 1 else 0
    (x.swap ≠ none →
      exec (.sceneSwap src dst tag a) s =
        .next (answered src 7 tag { result := .busy, data := .none, node := n } s)) ∧
    (x.swap = none →
      exec (.sceneSwap src dst tag a) s =
        .next (answered src 7 tag
          { result := .ok, data := .swapped live len,
            node :=
              { n with
                mixer := { x with live := live, swap := some { len := len, remaining := len, started := false } } } }
          s))

/-- METER_WINDOW_CLOSE (R58 to R61). In every state, whatever holds the air and whatever claim is SILENT, at a
station and at a SITE chip: the points whose windows have run ten blocks close in one order, which is the
model's (log 16), the studio point, the slots' points 0 to 7, the holder input point, the link output point,
the site output point, the incoming point, each point's report handed on before the next closes. What the
closing of one point makes of it, and the link output point's report (R172), are written out here; the first
three parts are `SilenceAndRecovery`, the last two `SiteRowsAtABoundary`. And the whole of the next state where
no claim is SILENT and no PEER or LOCAL claim holds the air, so that no report of a closing point reaches the air
unit's tables (R60). That a hand-over of the air unit that waits is taken by R170 before the holder input point
closes is the model's choice (logs 1 and 21). -/
def Obligations.MeterWindowsClose : Prop :=
  let ended (p : MeterPoint) : Prop := p.running = true ∧ p.waiting = false ∧ 10 ≤ p.pos
  let closed (cfg : Settings) (p : MeterPoint) : MeterPoint :=
    let quietWindow := p.peak < cfg.silenceThreshold
    let j : MeterPoint :=
      if p.silent then
        if quietWindow then { p with soundRun := 0 }
        else if 200 ≤ p.soundRun + 1 then
          { p with soundRun := p.soundRun + 1, silent := false, silentRun := 0 }
        else { p with soundRun := p.soundRun + 1 }
      else if quietWindow then
        if cfg.silenceTime ≤ p.silentRun + 1 then
          { p with silentRun := p.silentRun + 1, silent := true, soundRun := 0 }
        else { p with silentRun := p.silentRun + 1 }
      else { p with silentRun := 0 }
    let overloaded := cfg.overloadThreshold < 8388608 ∧ 0 < p.clips ∧ cfg.overloadThreshold ≤ p.peak
    if ended p then
      { j with
        lastPeak := p.peak, lastClips := p.clips, clipTotal := min (p.clipTotal + p.clips) 65535,
        overload := decide overloaded,
        overTotal := if overloaded then min (p.overTotal + 1) 65535 else p.overTotal,
        pos := 0, peak := 0, clips := 0 }
    else p
  (∀ (s : State) (rest : List Stage),
    AtStage .meterWindowClose rest s →
    let t := s.node.meters
    (ended t.studio ∨ (∃ p ∈ t.slots, ended p) ∨ ended t.holderInput ∨ ended t.linkOutput ∨
      ended t.siteOutput ∨ ended t.incoming) →
    exec .meterWindowClose s =
      .next (settle
        { s with
          agenda := rest,
          node :=
            closeIncoming (closeSiteOutput (closeLinkOutput (closeHolder
              ([0, 1, 2, 3, 4, 5, 6, 7].foldl (fun n i => closeSlot i n) (closeStudio s.node))))) })) ∧
  (∀ (cfg : Settings) (p : MeterPoint),
    let f := p.finish cfg
    f.point = closed cfg p ∧
    (ended p → p.silent = false → f.point.silent = true → f.report = some true) ∧
    (ended p → p.silent = true → f.point.silent = false → f.report = some false) ∧
    (¬ ended p ∨ f.point.silent = p.silent → f.report = none) ∧
    (f.sounding = true ↔ ended p ∧ ¬ p.peak < cfg.silenceThreshold ∧ f.point.silent = false)) ∧
  (∀ n : Node,
    let f := n.meters.linkOutput.finish n.cfg
    let m : Node := { n with meters := { n.meters with linkOutput := f.point } }
    closeLinkOutput n =
      if f.report = some true then
        { m with
          link :=
            { n.link with
              deadAir := true,
              counters :=
                { n.link.counters with deadAirOnsets := min (n.link.counters.deadAirOnsets + 1) 65535 } } }
      else if f.report = some false then { m with link := { n.link with deadAir := false } }
      else m) ∧
  ∀ (s : State) (rest : List Stage),
    AtStage .meterWindowClose rest s →
    let close := closed s.node.cfg
    let t := s.node.meters
    let o := close t.linkOutput
    let x := sourceChange s.node
    (ended t.studio ∨ (∃ p ∈ t.slots, ended p) ∨ ended t.holderInput ∨ ended t.linkOutput) →
    ¬ ended t.siteOutput → ¬ ended t.incoming →
    (∀ k, s.node.claimIn k .silent = none) → s.node.air.holder.kind ≠ .peer → s.node.air.holder.kind ≠ .own →
    ∃ slots : List MeterPoint,
      (∀ i < 8, slots.getD i .reset = close (t.slots.getD i .reset)) ∧ slots.length = t.slots.length ∧
      exec .meterWindowClose s =
        .next (settle
          { s with
            agenda := rest,
            node :=
              { s.node with
                meters :=
                  { t with
                    studio := close t.studio, slots := slots, holderInput := close x.meters.holderInput,
                    linkOutput := o },
                link :=
                  if t.linkOutput.silent = o.silent then x.link
                  else if o.silent then
                    { x.link with
                      deadAir := true,
                      counters :=
                        { x.link.counters with
                          deadAirOnsets := min (x.link.counters.deadAirOnsets + 1) 65535 } }
                  else { x.link with deadAir := false } } })

/-- CLIP_OPEN (R69 to R71), at a STUDIO station, for every ten argument bytes: the five outcomes in the
order of R70's table, with the store after each. The freed store is the one after the clip's present pages,
if any, have been freed and its load context, if any, has been given up. That NO_SPACE carries 0 where no
extent is free is the model's choice (log 25).
CLIP_DELETE (R78), at a STUDIO station: the four rows of its table. -/
def Obligations.ClipOpenAndDeleteDecided : Prop :=
  (∀ (s : State) (src dst : Nat) (tag : Byte) (a : List Byte),
     Asked src dst a.length s → s.node.cfg.roles.studio = true → 10 ≤ a.length →
     let clip := byteAt a 0
     let channels := byteAt a 1
     let length := fieldAt a 2 4
     let st := s.node.store
     let e := st.clip clip
     let gives (r : Result) (d : ResultData) (x : Store) : Prop :=
       exec (.clipOpen src dst tag a) s =
         .next (answered src 8 tag { result := r, data := d, node := { s.node.heard with store := x } } s)
     let good := (channels = 1 ∨ channels = 2) ∧ 1 ≤ length ∧ length ≤ 16777215
     let full := 4 ≤ st.loads.length ∧ ∀ l ∈ st.loads, l.clip ≠ clip
     let pages := (length * channels + 4095) / 4096
     let freed := (st.emptyClip clip).dropLoad clip
     let lost (k : StoreCounters) : StoreCounters :=
       if e.state = .loading then { k with abandoned := min (k.abandoned + 1) 65535 } else k
     (¬ good → gives .badField .none st) ∧
     (good → 0 < e.useCount → gives .inUse .none st) ∧
     (good → e.useCount = 0 → full → gives .busy .none st) ∧
     (good → e.useCount = 0 → ¬ full → (∀ x ∈ freed.free, x.count < pages) →
       gives .noSpace (.noSpace pages ((freed.free.map Extent.count).foldl max 0))
         { freed with
           counters := lost { freed.counters with noSpace := min (freed.counters.noSpace + 1) 65535 } }) ∧
     (good → e.useCount = 0 → ¬ full →
       ∀ before x after, freed.free = before ++ x :: after → (∀ y ∈ before, y.count < pages) →
       pages ≤ x.count →
       let serial := (e.serial + 1) % 256
       gives .ok (.opened clip serial)
         { freed with
           dir :=
             freed.dir.set clip
               { state := .loading, channels := channels, length := length, firstPage := x.first,
                 pageCount := pages, serial := serial, expectedCrc := BitVec.ofNat 32 (fieldAt a 6 4),
                 received := 0, useCount := 0, lastFailure := e.lastFailure },
           free :=
             before ++
               if x.count = pages then after
               else { first := x.first + pages, count := x.count - pages } :: after,
           loads :=
             freed.loads ++
               [{ clip := clip, opener := src, tag := tag, serial := serial, crc := 0xFFFFFFFF#32,
                  idleAge := 0 }],
           counters := lost freed.counters })) ∧
  ∀ (s : State) (src dst : Nat) (tag : Byte) (a : List Byte),
    Asked src dst a.length s → s.node.cfg.roles.studio = true → 1 ≤ a.length →
    let clip := byteAt a 0
    let st := s.node.store
    let e := st.clip clip
    let gives (r : Result) (x : Store) : Prop :=
      exec (.clipDelete src dst tag a) s =
        .next (answered src 9 tag { result := r, data := .none, node := { s.node.heard with store := x } } s)
    (e.state = .empty → gives .notFound st) ∧
    (e.state ≠ .empty → 0 < e.useCount → gives .inUse st) ∧
    (e.state = .ready → e.useCount = 0 → gives .ok (st.emptyClip clip)) ∧
    (e.state = .loading → e.useCount = 0 →
      let freed := (st.emptyClip clip).dropLoad clip
      gives .ok
        { freed with
          counters := { freed.counters with abandoned := min (freed.counters.abandoned + 1) 65535 } })

/-- CLIPSEG (R72, R73) at a STUDIO station: the segments that are discarded, the duplicate, the segment that
fails the load, and the segment in order, whose samples are written to the sample memory and nowhere else. A
segment in order that carries LAST is closed as the end of a load is stated below.
The end of a load (R74 to R76): what LAST decides, what a completion and a failure do, and LOAD_TIMEOUT,
which at its place in a boundary fails every load whose idle age stands at 2,000, one after another, a load
opened earlier first (log 24). -/
def Obligations.ClipLoadGoesOn : Prop :=
  (∀ (s : State) (src dst : Nat) (p : List Byte),
     Reached src dst p.length s → s.node.cfg.roles.studio = true →
     let clip := byteAt p 0
     let st := s.node.store
     let e := st.clip clip
     let off := fieldAt p 2 3
     let count := byteAt p 5
     let result := exec (.clipseg src dst p) s
     let keep (k : StoreCounters) : Host.Outcome State Fault Refusal :=
       .next (settle { s with node := { s.node.heard with store := { st with counters := k } } })
     let form := 7 ≤ p.length ∧ 1 ≤ count ∧ count ≤ 128 ∧ byteAt p 6 ≤ 1
     (¬ form →
       result = keep { st.counters with malformed := min (st.counters.malformed + 1) 65535 }) ∧
     (form → (e.state ≠ .loading ∨ byteAt p 1 ≠ e.serial ∨ st.loadOf clip = none) →
       result = keep { st.counters with stray := min (st.counters.stray + 1) 65535 }) ∧
     ∀ l, form → e.state = .loading → byteAt p 1 = e.serial → st.loadOf clip = some l →
       (p.length ≠ 7 + count * e.channels * 3 →
         result = keep { st.counters with malformed := min (st.counters.malformed + 1) 65535 }) ∧
       (p.length = 7 + count * e.channels * 3 →
         let young : LoadContext := { l with idleAge := 0 }
         let st1 := st.mapLoad clip (fun _ => young)
         let n1 : Node := { s.node.heard with store := st1 }
         (off < e.received →
           result =
             .next (settle
               { s with
                 node :=
                   { s.node.heard with
                     store :=
                       { st1 with
                         counters := { st1.counters with duplicate := min (st1.counters.duplicate + 1) 65535 } } } })) ∧
         (e.received < off → result = .next (settle { s with node := failLoad young .gap n1 })) ∧
         (off = e.received → e.length < e.received + count →
           result = .next (settle { s with node := failLoad young .overrun n1 })) ∧
         (off = e.received → e.received + count ≤ e.length →
           let crc := crcUpdate l.crc (p.drop 7)
           let written : LoadContext := { young with crc := crc }
           let st2 :=
             (st1.setClip clip { e with received := e.received + count }).mapLoad clip (fun _ => written)
           let n2 : Node := { s.node.heard with store := st2 }
           result =
             .next (settle
               { s with
                 mem :=
                   s.mem.writeAll (e.firstPage * 4096 + off * e.channels)
                     ((samplesOf (p.drop 7)).map (fun x => x.signExtend 32)),
                 node := if byteAt p 6 = 1 then closeLoad written n2 else n2 })))) ∧
  ((∀ (s : State) (rest : List Stage),
     AtStage .loadTimeout rest s →
     (∃ l ∈ s.node.store.loads, 2000 ≤ l.idleAge) →
     exec .loadTimeout s =
       .next (settle
         { s with
           agenda := rest,
           node :=
             (s.node.store.loads.filter (fun l => decide (2000 ≤ l.idleAge))).foldl
               (fun n l => failLoad l .timeout n) s.node })) ∧
   ∀ (l : LoadContext) (n : Node),
     let e := n.store.clip l.clip
     (e.received = e.length → ~~~l.crc = e.expectedCrc → closeLoad l n = completeLoad l n) ∧
     (e.received = e.length → ~~~l.crc ≠ e.expectedCrc → closeLoad l n = failLoad l .crc n) ∧
     (e.received < e.length → closeLoad l n = failLoad l .short n) ∧
     completeLoad l n =
       offer l.opener (.answer 8 l.tag .ok (.complete l.clip l.serial))
         { n with
           store :=
             { n.store with
               dir := n.store.dir.set l.clip { e with state := .ready },
               loads := n.store.loads.filter (fun x => decide (x.clip ≠ l.clip)),
               counters :=
                 { n.store.counters with completed := min (n.store.counters.completed + 1) 65535 } } } ∧
     ∀ reason,
       let freed := (n.store.emptyClip l.clip).dropLoad l.clip
       failLoad l reason n =
         offer l.opener (.answer 8 l.tag .notReady (.loadFailed l.clip l.serial reason))
           { n with
             store :=
               { freed with
                 dir := freed.dir.set l.clip { freed.clip l.clip with lastFailure := reason },
                 counters := { freed.counters with failed := min (freed.counters.failed + 1) 65535 } },
             bus := { n.bus with clipFaultSeen := true } })

/-- The free-extent list (R67 to R69): an extent freed beside clips joins the free extents it touches, so
that the list stays ordered with no two adjacent, and the free page total rises by its count; first fit
takes exactly the pages asked for. -/
def Obligations.FreeExtentsKept : Prop :=
  let ordered (l : List Extent) : Prop := l.Pairwise (fun a b => a.first + a.count < b.first)
  (∀ (e : Extent) (l : List Extent),
    ordered l → 0 < e.count → (∀ x ∈ l, 0 < x.count) →
    (∀ x ∈ l, e.first + e.count ≤ x.first ∨ x.first + x.count ≤ e.first) →
    ordered (freeExtent e l) ∧ freeTotal (freeExtent e l) = freeTotal l + e.count) ∧
  (∀ (p : Nat) (l : List Extent), (∀ x ∈ l, x.count < p) → allocate p l = none) ∧
  (∀ (p : Nat) (l : List Extent) (first : Nat) (after : List Extent),
    ordered l → allocate p l = some (first, after) →
    ordered after ∧ freeTotal after + p = freeTotal l)

/-- CUE_ADD, CUE_REMOVE and CUE_CLEAR (R83 to R86) at a STUDIO station: the checks in their order, the entry
appended, removed or all removed, and the clips' references. -/
def Obligations.CueListRequestsDecided : Prop :=
  ∀ (s : State) (src dst : Nat) (tag : Byte) (a : List Byte),
    Asked src dst a.length s → s.node.cfg.roles.studio = true →
    let n := s.node.heard
    let q := s.node.cue
    let held (id : Nat) : Prop :=
      (q.a.state ≠ .idle ∧ q.a.cueId = id) ∨ (q.b.state ≠ .idle ∧ q.b.cueId = id)
    let freed (e : CueEntry) (d : Store) : Store :=
      match e.source with
      | .clip c => d.setClip c { d.clip c with useCount := (d.clip c).useCount - 1 }
      | .stream .. => d
    let gives (c : Instr) (code : Nat) (r : Result) (d : ResultData) (m : Node) : Prop :=
      exec c s = .next (answered src code tag { result := r, data := d, node := m } s)
    (17 ≤ a.length →
      let add (r : Result) (d : ResultData) (m : Node) : Prop := gives (.cueAdd src dst tag a) 1 r d m
      let e : CueEntry :=
        { id := byteAt a 0,
          source := if byteAt a 1 = 0 then .clip (byteAt a 2) else .stream (byteAt a 2) (byteAt a 3),
          startOffset := fieldAt a 4 3, segue := signedByte (a.getD 7 0), fadeIn := min (fieldAt a 8 2) 1000,
          fadeOut := min (fieldAt a 10 2) 1000, level := fieldAt a 12 2, auto := decide (byteAt a 14 = 1),
          pausable := (byteAt a 15).testBit 0, label := a.drop 17 }
      let bad :=
        byteAt a 0 = 0 ∨ 1 < byteAt a 1 ∨ 1 < byteAt a 14 ∨ 2 ≤ byteAt a 15 ∨ 16 < byteAt a 16 ∨
          a.length ≠ 17 + byteAt a 16 ∨
          (byteAt a 1 = 1 ∧
            (byteAt a 2 = 0 ∨ 30 < byteAt a 2 ∨ byteAt a 2 = s.node.cfg.number ∨ 7 < byteAt a 3 ∨
              fieldAt a 4 3 ≠ 0))
      let taken := (∃ x ∈ q.list, x.id = e.id) ∨ held e.id
      let clip := s.node.store.clip (byteAt a 2)
      let list := q.list ++ [e]
      (bad → add .badField .none n) ∧
      (¬ bad → 32 ≤ q.list.length → add .full .none n) ∧
      (¬ bad → q.list.length < 32 → taken → add .badField .none n) ∧
      (¬ bad → q.list.length < 32 → ¬ taken → byteAt a 1 = 1 →
        add .ok (.cueAdded e.id list.length) { n with cue := { q with list := list } }) ∧
      (¬ bad → q.list.length < 32 → ¬ taken → byteAt a 1 = 0 →
        (clip.state ≠ .ready → add .notReady .none n) ∧
        (clip.state = .ready → clip.length ≤ e.startOffset → add .badField .none n) ∧
        (clip.state = .ready → e.startOffset < clip.length →
          add .ok (.cueAdded e.id list.length)
            { n with
              cue := { q with list := list },
              store := s.node.store.setClip (byteAt a 2) { clip with useCount := clip.useCount + 1 } }))) ∧
    (1 ≤ a.length →
      let remove (r : Result) (m : Node) : Prop := gives (.cueRemove src dst tag a) 2 r .none m
      let id := byteAt a 0
      (∀ e, q.list.find? (fun x => decide (x.id = id)) = some e →
        remove .ok
          { n with
            cue := { q with list := q.list.filter (fun x => decide (x.id ≠ id)) },
            store := freed e s.node.store }) ∧
      ((∀ x ∈ q.list, x.id ≠ id) → held id → remove .inUse n) ∧
      ((∀ x ∈ q.list, x.id ≠ id) → ¬ held id → remove .notFound n)) ∧
    gives (.cueClear src dst tag a) 3 .ok (.cueCleared q.list.length)
      { n with cue := { q with list := [] }, store := q.list.foldl (fun d e => freed e d) s.node.store }

/-- PLAY (R90) and STOP (R98) at a STUDIO station: the orders of PLAY's table with the pending starts, and
STOP's table for each player and for both. That a countdown stopped above 0 gives up its count, and that a STOP
clears the resume-ramp flag at once (`resumeRamp := false`, which the PLAYER record shows), are the model's
choices (log 17). -/
def Obligations.PlayAndStopDecided : Prop :=
  ∀ (s : State) (src dst : Nat) (tag : Byte) (a : List Byte),
    Asked src dst a.length s → s.node.cfg.roles.studio = true →
    let n := s.node.heard
    let q := s.node.cue
    let play (r : Result) (d : ResultData) (m : Node) : Prop :=
      exec (.play src dst tag a) s = .next (answered src 4 tag { result := r, data := d, node := m } s)
    let inState (st : PlayerState) : List (Bool × Nat) :=
      (if q.a.state = st then [(false, q.a.cueId)] else []) ++ (if q.b.state = st then [(true, q.b.cueId)] else [])
    let waits (st : PlayerState) (p : Player) : Player := if p.state = st then { p with pending := true } else p
    let some_ (st : PlayerState) : Prop := q.a.state = st ∨ q.b.state = st
    let busy (p : Player) : Prop := p.state = .playing ∨ p.state = .stopping
    let stop (k : Nat) (r : Result) (m : Node) : Prop :=
      byteAt a 0 = k →
        exec (.stop src dst tag a) s = .next (answered src 5 tag { result := r, data := .none, node := m } s)
    let idleAfter (p : Player) : Player := { Player.reset with lastEnd := some (.stopped, p.cueId) }
    let releases (p : Player) : Prop := p.state = .armed ∨ (p.state = .paused ∧ p.held = true)
    let fades (p : Player) : Prop := p.state = .playing ∨ (p.state = .paused ∧ p.held = false)
    let fadeLen (p : Player) : Nat :=
      match p.item with
      | some e => if e.fadeOut = 0 then 1 else e.fadeOut
      | none => 1
    let counted (m : Node) : Node :=
      { m with
        cue :=
          { m.cue with
            counters := { m.cue.counters with stopped := min (m.cue.counters.stopped + 1) 65535 } } }
    let one (b : Bool) (m : Node) : Node :=
      let p := m.player b
      if releases p then counted (setPlayer b (idleAfter p) (releaseItem p m))
      else if fades p then
        setFader b { m.fader b with pending := some (0, fadeLen p) }
          (setPlayer b { p with state := .stopping, pending := false, wake := false, resumeRamp := false } m)
      else m
    let acts (p : Player) : Prop := releases p ∨ fades p
    (some_ .paused →
      play .ok (.players (inState .paused))
        { n with cue := { q with a := waits .paused q.a, b := waits .paused q.b } }) ∧
    (¬ some_ .paused → some_ .armed →
      play .ok (.players (inState .armed))
        { n with cue := { q with a := waits .armed q.a, b := waits .armed q.b } }) ∧
    (¬ some_ .paused → ¬ some_ .armed → some_ .idle → ∀ e rest, q.list = e :: rest →
      let b := if q.a.state = .idle ∧ q.b.state = .idle then q.preferB else decide (q.b.state = .idle)
      play .ok (.players [(b, e.id)]) { n with cue := { q with armStart := true } }) ∧
    (¬ some_ .paused → ¬ some_ .armed → some_ .idle → q.list = [] → play .notFound .none n) ∧
    (busy q.a → busy q.b → play .busy .none n) ∧
    (1 ≤ a.length →
      (2 < byteAt a 0 →
        exec (.stop src dst tag a) s =
          .next (answered src 5 tag { result := .badField, data := .none, node := n } s)) ∧
      (acts q.a → stop 0 .ok (one false n)) ∧ (¬ acts q.a → stop 0 .notFound n) ∧
      (acts q.b → stop 1 .ok (one true n)) ∧ (¬ acts q.b → stop 1 .notFound n) ∧
      (let both := one true (one false n)
       let m := { both with cue := { both.cue with countdown := none } }
       (acts q.a ∨ acts q.b ∨ q.countdown ≠ none → stop 2 .ok m) ∧
       (¬ acts q.a → ¬ acts q.b → q.countdown = none → stop 2 .notFound n)))

/-- The arming of a boundary (R89) and the start of a player (R91, R92, R94). That a player with a start of
PLAY pending, which a segue starts first, is not started paused and leaves a running countdown on, is the model's
reading (log 17), as is what stands in the fields of a player that R106 does not name. -/
def Obligations.ArmingAndStart : Prop :=
  (∀ (m : Memory) (n : Node) (b : Bool) (e : CueEntry) (rest : List CueEntry),
    let q := n.cue
    let other := n.player !b
    (n.player b).state = .idle → other.state ≠ .armed → (other.state = .idle → b = q.preferB) →
    q.list = e :: rest →
    let x : Node := { n with cue := { q with armStart := false, list := rest } }
    let armed (entry : Option Nat) : Player :=
      { Player.reset with
        state := .armed, item := some e, entry := entry, pending := q.armStart,
        lastEnd := (n.player b).lastEnd }
    (∀ c, e.source = .clip c → stageRun .cueArm m n = setPlayer b (armed none) x) ∧
    (∀ k i, e.source = .stream k i →
      (∀ j, n.streams.addOutcome k i = .added j →
        stageRun .cueArm m n = setPlayer b (armed (some j)) (addListen k i .item x).2) ∧
      (∀ why, n.streams.addOutcome k i = .refused why →
        let y := setPlayer b { n.player b with lastEnd := some (.noSlot, e.id) } x
        stageRun .cueArm m n =
          { y with
            cue :=
              { y.cue with
                counters := { q.counters with noSlot := min (q.counters.noSlot + 1) 65535 } } }))) ∧
  (∀ (m : Memory) (n : Node),
    ((n.cue.a.state = .armed ∨ n.cue.b.state = .armed) ∨ (n.cue.a.state ≠ .idle ∧ n.cue.b.state ≠ .idle) ∨
      n.cue.list = []) →
    stageRun .cueArm m n = { n with cue := { n.cue with armStart := false } }) ∧
  ∀ (n : Node) (b byPlay : Bool) (e : CueEntry), (n.player b).item = some e →
    let p := n.player b
    let clipLength :=
      match e.source with
      | .clip c => (n.store.clip c).length
      | .stream .. => 0
    let blocks := if e.isClip then (clipLength - e.startOffset + 47) / 48 else 0
    let segue := if e.isClip then max 1 ((blocks : Int) + e.segue).toNat else 0
    let paused := byPlay = false ∧ p.pending = false ∧ n.cue.heldFlag = true ∧ e.pausable = true
    let started : Player :=
      { p with
        state := if paused then .paused else .playing, blocks := blocks, segueBlock := segue,
        readPos := e.startOffset, count := 0, segueTaken := false, fadeOutBegun := false, resumeRamp := false,
        saved := if paused then some e.startOffset else none, held := decide paused,
        pending := false, wake := false, order := if paused then none else some .start }
    let y := setPlayer b started n
    startPlayer b byPlay n =
      { y with
        cue :=
          { y.cue with
            preferB := !b,
            counters := { n.cue.counters with started := min (n.cue.counters.started + 1) 65535 } } }

/-- ITEM_NATURAL_END (R96), FADER_RAMP_DONE (R99, R101), SEGUE_DUE (R94), SEGUE_COUNTDOWN_DONE (R95) and
FADE_OUT_START (R93) at their places in a boundary, where they are due for a player or for both. That player
A is handled before player B, so that the countdown takes B's count where both come to their ends, is log
17. -/
def Obligations.CueRowsAtABoundary : Prop :=
  ∀ (s : State) (rest : List Stage),
    let q := s.node.cue
    let done (n : Node) : Host.Outcome State Fault Refusal := .next (settle { s with agenda := rest, node := n })
    let both (one : Bool → Node → Node) : Node := one true (one false s.node)
    let clip (p : Player) : Prop := ∃ e c, p.item = some e ∧ e.source = .clip c
    let auto (p : Player) : Prop := ∃ e, p.item = some e ∧ e.auto = true
    let sounds (p : Player) : Prop :=
      p.state = .playing ∨ p.state = .stopping ∨ (p.state = .paused ∧ p.held = false)
    let count (f : CueCounters → CueCounters) (n : Node) : Node :=
      { n with cue := { n.cue with counters := f n.cue.counters } }
    let inc (k : Nat) : Nat := min (k + 1) 65535
    let idleAfter (k : EndKind) (p : Player) : Player := { Player.reset with lastEnd := some (k, p.cueId) }
    let ends (p : Player) : Prop := clip p ∧ sounds p ∧ p.blocks ≤ p.count
    let naturally (b : Bool) (n : Node) : Node :=
      let p := n.player b
      if p.naturalEnd then
        let stopped := p.state = .stopping
        let x :=
          setFader b (.settled 0)
            (setPlayer b (idleAfter (if stopped then .stopped else .complete) p) (releaseItem p n))
        let y :=
          if stopped then count (fun c => { c with stopped := inc c.stopped }) x
          else count (fun c => { c with completed := inc c.completed }) x
        if ¬ stopped ∧ p.auto = true ∧ p.segueTaken = false then
          { y with cue := { y.cue with countdown := some (p.segueBlock - p.blocks) } }
        else y
      else n
    let reported (b : Bool) (n : Node) : Node :=
      let p := n.player b
      let r := n.fader b
      if r.running = true ∧ r.len ≤ r.pos then
        let x := setFader b { r with running := false } n
        if p.state = .stopping then
          if r.target = 0 then
            count (fun c => { c with stopped := inc c.stopped })
              (setPlayer b (idleAfter .stopped p) (releaseItem p x))
          else x
        else if p.state = .paused then
          if r.target = 0 ∧ p.held = false ∧ p.order = none then
            setPlayer b { p with held := true, saved := if p.playsClip then some p.readPos else none } x
          else x
        else setPlayer b { p with resumeRamp := false } x
      else n
    let taken (n : Node) : Node :=
      if n.cue.a.state = .armed then
        count (fun c => { c with seguesTaken := inc c.seguesTaken }) (startPlayer false false n)
      else if n.cue.b.state = .armed then
        count (fun c => { c with seguesTaken := inc c.seguesTaken }) (startPlayer true false n)
      else count (fun c => { c with seguesMissed := inc c.seguesMissed }) n
    let falls (p : Player) : Prop :=
      p.state = .playing ∧ clip p ∧ auto p ∧ p.segueTaken = false ∧ p.segueBlock ≤ p.count
    let segues (b : Bool) (n : Node) : Node :=
      let p := n.player b
      if p.segueDue then taken (setPlayer b { p with segueTaken := true } n) else n
    let fades (p : Player) : Prop :=
      p.state = .playing ∧ clip p ∧ (∃ e, p.item = some e ∧ 0 < e.fadeOut ∧ p.blocks - p.count ≤ e.fadeOut) ∧
        p.fadeOutBegun = false ∧ p.resumeRamp = false
    let fadesOut (b : Bool) (n : Node) : Node :=
      let p := n.player b
      if p.fadeOutDue then
        setFader b ((n.fader b).retarget 0 (p.blocks - p.count)) (setPlayer b { p with fadeOutBegun := true } n)
      else n
    (∀ p : Player,
      (p.naturalEnd = true ↔ ends p) ∧ (p.segueDue = true ↔ falls p) ∧ (p.fadeOutDue = true ↔ fades p)) ∧
    (AtStage .itemNaturalEnd rest s → ends q.a ∨ ends q.b → exec .itemNaturalEnd s = done (both naturally)) ∧
    (AtStage .faderRampDone rest s →
      (s.node.mixer.faderA.running = true ∧ s.node.mixer.faderA.len ≤ s.node.mixer.faderA.pos) ∨
        (s.node.mixer.faderB.running = true ∧ s.node.mixer.faderB.len ≤ s.node.mixer.faderB.pos) →
      exec .faderRampDone s = done (both reported)) ∧
    (AtStage .segueDue rest s → falls q.a ∨ falls q.b → exec .segueDue s = done (both segues)) ∧
    (AtStage .segueCountdownDone rest s → q.countdown = some 0 → q.heldFlag = false →
      exec .segueCountdownDone s = done (taken { s.node with cue := { q with countdown := none } })) ∧
    (AtStage .fadeOutStart rest s → fades q.a ∨ fades q.b → exec .fadeOutStart s = done (both fadesOut))

/-- The end of a stream item (R97), a report of the standing taken (R100, R101), a resume (R102), the starts
that PLAY left pending (R90) and the fader targets of step 5 (R91, R101, R102), each at its stage and player
A before player B. That the saved position is none from the resume on, that a countdown PLAY stops above 0 gives
up its count, and that a report made at a boundary is taken at the next, are the model's readings (log 17). -/
def Obligations.CueItemsEndPauseResumeAndPlay : Prop :=
  ∀ (m : Memory) (n : Node),
    let q := n.cue
    let both (one : Bool → Node → Node) : Node := one true (one false n)
    let inc (k : Nat) : Nat := min (k + 1) 65535
    let count (f : CueCounters → CueCounters) (x : Node) : Node :=
      { x with cue := { x.cue with counters := f x.cue.counters } }
    let segue (x : Node) : Node :=
      if x.cue.a.state = .armed then
        count (fun c => { c with seguesTaken := inc c.seguesTaken }) (startPlayer false false x)
      else if x.cue.b.state = .armed then
        count (fun c => { c with seguesTaken := inc c.seguesTaken }) (startPlayer true false x)
      else count (fun c => { c with seguesMissed := inc c.seguesMissed }) x
    let marked (r : SlotReport) (p : Player) : Player :=
      if p.state ≠ .idle ∧ p.entry = some r.entry then { p with slotEnded := true } else p
    let streamEnds (b : Bool) (x : Node) : Prop :=
      let p := x.player b
      let stopped : Prop := p.state = .stopping
      let idle : Player :=
        { Player.reset with lastEnd := some (if p.state = .stopping then .stopped else .streamEnded, p.cueId) }
      let y := setFader b (.settled 0) (setPlayer b idle (releaseItem p x))
      (¬ p.slotEnded = true → streamItemEnd b x = x) ∧
      (p.slotEnded = true → stopped →
        streamItemEnd b x = count (fun c => { c with stopped := inc c.stopped }) y) ∧
      (p.slotEnded = true → ¬ stopped →
        let z := count (fun c => { c with streamEnds := inc c.streamEnds }) y
        ((p.state ≠ .playing ∨ p.auto = false) → streamItemEnd b x = z) ∧
        (p.state = .playing → p.auto = true →
          streamItemEnd b x = { z with cue := { z.cue with streamStarts := z.cue.streamStarts + 1 } }))
    let paused (p : Player) : Player :=
      if p.state = .playing ∧ p.pausable = true then
        { p with
          state := .paused, held := false, saved := none, resumeRamp := false, fadeOutBegun := false,
          order := some .pause }
      else p
    let resumed (p : Player) : Player :=
      if p.state = .paused ∧ (p.pending = true ∨ p.wake = true) then
        { p with
          state := .playing, readPos := p.saved.getD p.readPos, saved := none, held := false, pending := false,
          wake := false, resumeRamp := true, order := some .resume }
      else { p with wake := false }
    let plays (b : Bool) (x : Node) : Node :=
      let p := x.player b
      if p.pending = true ∧ p.state = .armed then
        let y := startPlayer b true x
        { y with cue := { y.cue with countdown := none } }
      else if p.pending = true then setPlayer b { p with pending := false } x
      else x
    let level (p : Player) : Nat :=
      match p.item with
      | some e => e.level
      | none => 0
    let fadeIn (p : Player) : Nat :=
      match p.item with
      | some e => e.fadeIn
      | none => 0
    let targets (b : Bool) (x : Node) : Prop :=
      let p := x.player b
      let taken := setPlayer b { p with order := none } x
      let given (t len : Nat) : Node := setFader b ((x.fader b).retarget t len) taken
      (p.order = none → faderTarget b x = x) ∧
      (p.order = some .start → ¬ p.fadeOutDue = true → faderTarget b x = given (level p) (fadeIn p)) ∧
      (p.order = some .start → p.fadeOutDue = true → faderTarget b x = taken) ∧
      (p.order = some .pause → p.state = .paused → faderTarget b x = given 0 5) ∧
      (p.order = some .pause → p.state ≠ .paused → faderTarget b x = taken) ∧
      (p.order = some .resume → faderTarget b x = given (level p) 5)
    (∀ r : SlotReport, (n.streams.entry r.entry).purpose = .item →
      reportSlotEnd r n = { n with cue := { q with a := marked r q.a, b := marked r q.b } }) ∧
    (∀ b x, streamEnds b x) ∧ stageRun .streamItemEnds m n = both streamItemEnd ∧
    (q.standing = none → stageRun .cueReports m n = n) ∧
    (q.standing = some .offAir →
      stageRun .cueReports m n = { n with cue := { q with standing := none, heldFlag := false } }) ∧
    (q.standing = some .holding →
      let wakes (p : Player) : Player := if p.state = .paused then { p with wake := true } else p
      stageRun .cueReports m n =
        { n with cue := { q with standing := none, heldFlag := false, a := wakes q.a, b := wakes q.b } }) ∧
    (q.standing = some .preempted →
      stageRun .cueReports m n =
        { n with cue := { q with standing := none, heldFlag := true, a := paused q.a, b := paused q.b } }) ∧
    stageRun .cueResume m n =
      Nat.repeat segue q.streamStarts
        { n with cue := { q with streamStarts := 0, a := resumed q.a, b := resumed q.b } } ∧
    stageRun .playStarts m n = both plays ∧
    (∀ b x, targets b x) ∧ stageRun .faderTargets m n = both faderTarget

/-- CLAIM_SET (R107, R108) at a STUDIO station: BAD_FIELD above 2; a repeated level answers the serial held;
another level is set with the next serial, offered as a CLAIM packet to all, applied to the entry of the
station's own number, and followed by the standing. That the CLAIM is filed before the ANSWER is the model's
choice (log 18). -/
def Obligations.ClaimSetDecided : Prop :=
  ∀ (s : State) (src dst : Nat) (tag : Byte) (a : List Byte),
    Asked src dst a.length s → s.node.cfg.roles.studio = true → 1 ≤ a.length →
    let n := s.node.heard
    let level := byteAt a 0
    let serial := s.node.air.ownSerial + 1
    let gives (r : Result) (d : ResultData) (m : Node) : Prop :=
      exec (.claimSet src dst tag a) s = .next (answered src 10 tag { result := r, data := d, node := m } s)
    (2 < level → gives .badField .none n) ∧
    (level ≤ 2 → level = s.node.air.ownLevel → gives .ok (.claimHeld level s.node.air.ownSerial) n) ∧
    (level ≤ 2 → level ≠ s.node.air.ownLevel →
      let offered :=
        offerPacket 31 (.claim level serial) false
          { n with air := { s.node.air with ownLevel := level, ownSerial := serial } }
      let m := refreshStanding (applyClaim s.node.cfg.number .own level serial offered)
      m.air.ownLevel = level ∧ m.air.ownSerial = serial ∧ gives .ok (.claimHeld level serial) m)

/-- A claim heard on the bus, at any station (R111, steps 1 to 3), and a claim applied, evaluated, removed and
selected (R111 step 3, R112, R114 to R116) at a station without LINK, in RUN or DUPLICATE, where no listen
entry is at stake. Entry k is that of station k. That the holder record takes the new arrival number at a
raised level too, and that a NONE holder is judged as of level 0, are the model's readings (log 18). -/
def Obligations.ClaimsPreemptAndResume : Prop :=
  (∀ (n : Node) (k : Nat), n.cfg.roles.link = false → n.judging = true →
     let a := n.air
     let h := a.holder
     let entry := a.entry k
     let setState (st : ClaimState) (e : ClaimEntry) : ClaimEntry :=
       { e with claim := e.claim.map (fun c => { c with state := st, reason := none }) }
     let filled (c : Claim) (j : Nat) : Holder :=
       { kind :=
           if c.kind = ClaimKind.peer then HolderKind.peer
           else if c.kind = ClaimKind.own then HolderKind.own else HolderKind.alert,
         station := j, level := c.level, arrival := c.arrival, alertId := c.alertId, entry := none }
     (∀ c, entry.claim = some c → c.state = .waiting →
       (c.level ≤ h.level → evaluate k n = n) ∧
       (h.level < c.level → h.kind = .reserve ∨ h.kind = .none ∨ h.kind = .alert →
         evaluate k n =
           { n with
             air :=
               { ({ a with holder := filled c k }).modifyEntry k (setState .holding) with
                 counters := { a.counters with preemptions := min (a.counters.preemptions + 1) 65535 } } }) ∧
       (h.level < c.level → h.kind = .peer ∨ h.kind = .own →
         evaluate k n =
           { n with
             air :=
               { (({ a with
                     holder := filled c k,
                     stack :=
                       { station := h.station, level := h.level, arrival := h.arrival,
                         isOwn := decide (h.kind = HolderKind.own) } :: a.stack }).modifyEntry h.station
                   (setState .stacked)).modifyEntry k (setState .holding) with
                 counters := { a.counters with preemptions := min (a.counters.preemptions + 1) 65535 } } })) ∧
     (a.stack = [] → n.bestWaiting = none →
       select n =
         { n with
           air :=
             { a with
               holder := { kind := .reserve, station := 0, level := 0, arrival := 0, alertId := 0, entry := none },
               counters := { a.counters with reserveFallbacks := min (a.counters.reserveFallbacks + 1) 65535 } } }) ∧
     (∀ j c, n.bestWaiting = some (j, c) → (∀ t rest, a.stack = t :: rest → t.level < c.level) →
       select n =
         { n with
           air :=
             { ({ a with holder := filled c j }).modifyEntry j (setState .holding) with
               counters := { a.counters with takesByWaiting := min (a.counters.takesByWaiting + 1) 65535 } } }) ∧
     (∀ t rest, a.stack = t :: rest → (∀ j c, n.bestWaiting = some (j, c) → c.level ≤ t.level) →
       select n =
         { n with
           air :=
             { ({ a with
                   stack := rest,
                   holder :=
                     { kind := if t.isOwn then .own else .peer, station := t.station, level := t.level,
                       arrival := t.arrival, alertId := 0, entry := none } }).modifyEntry t.station
                 (setState .holding) with
               counters := { a.counters with resumptions := min (a.counters.resumptions + 1) 65535 } } }) ∧
     ∀ (c : Claim) (kind : ClaimKind) (level : Nat) (serial : Byte),
       let x := a.arrivals
       let noted : ClaimEntry := { entry with lastSerial := some serial }
       let withEntry (e : ClaimEntry) (b : Air) : Node := { n with air := b.modifyEntry k (fun _ => e) }
       let next : Air := { a with arrivals := x + 1 }
       let renewed (st : ClaimState) : ClaimEntry :=
         { noted with claim := some { c with level := level, arrival := x, state := st } }
       let waiting : ClaimEntry :=
         { noted with claim := some { c with level := level, arrival := x, state := .waiting, reason := none } }
       let emptied : ClaimEntry := { noted with claim := none }
       (k = 0 ∨ k - 1 < a.claims.length) →
       (entry.claim = none → applyClaim k kind 0 serial n = withEntry noted a) ∧
       (entry.claim = some c → entry.listen = none →
         (c.state = .waiting ∨ c.state = .unreachable ∨ c.state = .silent →
           applyClaim k kind 0 serial n = withEntry emptied a) ∧
         (c.state = .stacked →
           applyClaim k kind 0 serial n =
             withEntry emptied { a with stack := a.stack.filter (fun r => decide (r.station ≠ k)) }) ∧
         (c.state = .holding → applyClaim k kind 0 serial n = select (withEntry emptied a))) ∧
       (level ≠ 0 →
         (entry.claim = none →
           applyClaim k kind level serial n =
             evaluate k
               (withEntry
                 { noted with
                   claim :=
                     some
                       { kind := kind, level := level, arrival := x, state := .waiting, reason := none,
                         alertId := 0 } }
                 next)) ∧
         (entry.claim = some c →
           (c.state = .silent → applyClaim k kind level serial n = withEntry (renewed .silent) next) ∧
           (c.state = .waiting → level ≤ c.level →
             applyClaim k kind level serial n = withEntry (renewed .waiting) next) ∧
           (c.state = .waiting → c.level < level →
             applyClaim k kind level serial n = evaluate k (withEntry (renewed .waiting) next)) ∧
           (c.state = .holding → c.level ≤ level →
             applyClaim k kind level serial n =
               withEntry (renewed .holding) { next with holder := { h with level := level, arrival := x } }) ∧
           (c.state = .holding → level < c.level →
             applyClaim k kind level serial n = select (withEntry waiting next)) ∧
           (c.state = .stacked → level = c.level →
             applyClaim k kind level serial n =
               withEntry (renewed .stacked)
                 { next with
                   stack := a.stack.map (fun r => if r.station = k then { r with arrival := x } else r) }) ∧
           (c.state = .stacked → level ≠ c.level →
             let m := withEntry waiting { next with stack := a.stack.filter (fun r => decide (r.station ≠ k)) }
             applyClaim k kind level serial n = if c.level < level then evaluate k m else m) ∧
           (c.state = .unreachable → applyClaim k kind level serial n = evaluate k (withEntry waiting next))))) ∧
  ∀ (n : Node) (k level : Nat) (serial : Byte),
    let entry := n.air.entry k
    let inc (x : Nat) : Nat := min (x + 1) 65535
    let counted (x : AirCounters) : Node := { n with air := { n.air with counters := x } }
    ((n.bus.entry k).present = false →
      claimHeard k level serial n =
        counted { n.air.counters with absentSource := inc n.air.counters.absentSource }) ∧
    ((n.bus.entry k).present = true →
      (entry.lastSerial = none → claimHeard k level serial n = applyClaim k .peer level serial n) ∧
      ∀ last, entry.lastSerial = some last →
        let d := (serial - last).toNat
        (d = 0 → claimHeard k level serial n = n) ∧
        (1 ≤ d → d ≤ 127 → claimHeard k level serial n = applyClaim k .peer level serial n) ∧
        (128 ≤ d →
          claimHeard k level serial n = counted { n.air.counters with stale := inc n.air.counters.stale }))

/-- OUTGOING_EXPIRY (R117) at its place in a boundary with some member's count at 0: each such member leaves
the set, to WATCH where its station's claim is STACKED, SILENT or WAITING, and else removed. -/
def Obligations.OutgoingMembersLeave : Prop :=
  ∀ (s : State) (rest : List Stage),
    AtStage .outgoingExpiry rest s →
    let set := s.node.air.outgoing
    let gone := set.filter (fun m => decide (m.count = 0))
    let stays (n : Node) (k : Nat) : Prop :=
      ∃ c, (n.air.entry k).claim = some c ∧ (c.state = .stacked ∨ c.state = .silent ∨ c.state = .waiting)
    let watches (k i : Nat) (n : Node) : Node :=
      mapEntry k (fun e => { e with listen := some i }) (changePurpose i .watch n)
    let removed (k i : Nat) (n : Node) : Node :=
      removeListen i (mapEntry k (fun e => { e with listen := none }) n)
    (∃ m ∈ set, m.count = 0) →
    (∀ (n : Node) (i : Nat),
      (stays n (n.streams.entry i).station → memberLeaves i n = watches (n.streams.entry i).station i n) ∧
      (¬ stays n (n.streams.entry i).station → memberLeaves i n = removed (n.streams.entry i).station i n)) ∧
    exec .outgoingExpiry s =
      .next (settle
        { s with
          agenda := rest,
          node :=
            gone.foldl (fun n m => memberLeaves m.entry n)
              { s.node with
                air := { s.node.air with outgoing := set.filter (fun m => decide (m.count ≠ 0)) } } })

/-- How a station with LINK hears its claimants and its holder: a FOLLOW entry obtained or refused (R117), a
claimant that pre-empts or is UNREACHABLE (R114, R118), its retry at a ROLLCALL, a holder's entry passed to
the outgoing set, the rounds of selection over the stack and the waiting claims (R116), a removal (R115), and
what is handed to the link unit (R124). -/
def Obligations.LinkStationFollows : Prop :=
  ∀ (n : Node) (k : Nat), n.cfg.roles.link = true →
    let a := n.air
    let t := n.streams
    let had : Option Nat := (t.find k 0).filter (fun i => decide ((t.entry i).requester = .airUnit))
    let listens (i : Nat) (x : Node) : Node := mapEntry k (fun e => { e with listen := some i }) x
    let count (f : AirCounters → AirCounters) (x : Node) : Node :=
      { x with air := { x.air with counters := f x.air.counters } }
    let setState (j : Nat) (st : ClaimState) (why : Option AddFailure) (x : Node) : Node :=
      mapEntry j (fun e => { e with claim := e.claim.map (fun c => { c with state := st, reason := why }) }) x
    let unheard (j : Nat) (why : AddFailure) (x : Node) : Node :=
      count (fun z => { z with unreachable := min (z.unreachable + 1) 65535 })
        (setState j .unreachable (some why) x)
    let heard (j : Nat) (c : Claim) (x : Node) : Prop :=
      (c.kind = .peer ∧ ∃ i, obtainFollow j n = (.added i, x)) ∨ (c.kind ≠ .peer ∧ x = n)
    let takes (j : Nat) (c : Claim) (x : Node) : Node :=
      let h : Holder :=
        { kind :=
            if c.kind = ClaimKind.peer then HolderKind.peer
            else if c.kind = ClaimKind.own then HolderKind.own else HolderKind.alert,
          station := j, level := c.level, arrival := c.arrival, alertId := c.alertId,
          entry := if c.kind = ClaimKind.peer then (x.air.entry j).listen else none }
      setState j .holding none { x with air := { x.air with holder := h } }
    let pushed (x : Node) : Node :=
      let h := x.air.holder
      let top : StackRecord :=
        { station := h.station, level := h.level, arrival := h.arrival, isOwn := decide (h.kind = .own) }
      if h.kind = .peer ∨ h.kind = .own then
        setState h.station .stacked none
          (passOut h.entry { x with air := { x.air with stack := top :: x.air.stack } })
      else x
    let ended (top : StackRecord) : Prop :=
      top.isOwn = false ∧ ∃ i, (a.entry top.station).listen = some i ∧ (t.slot i).state = .ended
    let member (i : Nat) : Prop := ∃ m ∈ a.outgoing, m.entry = i
    (∀ i, had = some i →
      obtainFollow k n =
        (.added i,
          listens i
            (changePurpose i .follow
              { n with air := { a with outgoing := a.outgoing.filter (fun m => decide (m.entry ≠ i)) } }))) ∧
    (had = none →
      (∀ i, t.addOutcome k 0 = .added i → obtainFollow k n = (.added i, listens i (addListen k 0 .follow n).2)) ∧
      (∀ why, t.addOutcome k 0 = .refused why → obtainFollow k n = (.refused why, n))) ∧
    (∀ i, (member i → passOut (some i) n = n) ∧
      (¬ member i →
        passOut (some i) n = { n with air := { a with outgoing := a.outgoing ++ [{ entry := i, count := 10 }] } })) ∧
    (∀ c, (a.entry k).claim = some c → c.state = .waiting → n.judging = true →
      (c.level ≤ a.holder.level → evaluate k n = n) ∧
      (a.holder.level < c.level →
        (∀ why x, c.kind = .peer → obtainFollow k n = (.refused why, x) → evaluate k n = unheard k why x) ∧
        ∀ x, heard k c x →
          x.air.holder = a.holder ∧
          evaluate k n =
            handOver
              (count (fun z => { z with preemptions := min (z.preemptions + 1) 65535 })
                (takes k c (pushed x))))) ∧
    select n = (if n.judging = true then handOver (selectLoop 40 n) else n) ∧
    (∀ round : Nat,
      (∀ top rest, a.stack = top :: rest →
        (ended top →
          selectLoop (round + 1) n =
            selectLoop round
              (count (fun z => { z with stackDiscards := min (z.stackDiscards + 1) 65535 })
                (setState top.station .silent none { n with air := { a with stack := rest } }))) ∧
        (¬ ended top → (∀ j c, n.bestWaiting = some (j, c) → c.level ≤ top.level) →
          let popped : Node := { n with air := { a with stack := rest } }
          let x := if top.isOwn = true then popped else (obtainFollow top.station popped).2
          let h : Holder :=
            { kind := if top.isOwn = true then .own else .peer, station := top.station, level := top.level,
              arrival := top.arrival, alertId := 0,
              entry := if top.isOwn = true then none else (x.air.entry top.station).listen }
          selectLoop (round + 1) n =
            count (fun z => { z with resumptions := min (z.resumptions + 1) 65535 })
              (setState top.station .holding none { x with air := { x.air with holder := h } }))) ∧
      (∀ j c, n.bestWaiting = some (j, c) →
        (∀ top rest, a.stack = top :: rest → ¬ ended top ∧ top.level < c.level) →
        (∀ why x, c.kind = .peer → obtainFollow j n = (.refused why, x) →
          selectLoop (round + 1) n = selectLoop round (unheard j why x)) ∧
        ∀ x, heard j c x →
          selectLoop (round + 1) n =
            count (fun z => { z with takesByWaiting := min (z.takesByWaiting + 1) 65535 }) (takes j c x)) ∧
      (a.stack = [] → n.bestWaiting = none →
        selectLoop (round + 1) n =
          count (fun z => { z with reserveFallbacks := min (z.reserveFallbacks + 1) 65535 })
            { n with
              air :=
                { a with
                  holder :=
                    { kind := .reserve, station := 0, level := 0, arrival := 0, alertId := 0,
                      entry := none } } })) ∧
    (∀ c, (a.entry k).claim = some c → c.state = .unreachable →
      retryUnreachable k n = evaluate k (setState k .waiting none n)) ∧
    (∀ c, (a.entry k).claim = some c →
      let left (x : Node) : Node := mapEntry k (fun e => { e with claim := none, listen := none }) x
      let dropped (x : Node) : Node :=
        match (x.air.entry k).listen with
        | some i => if x.air.outgoing.any (fun m => decide (m.entry = i)) then x else removeListen i x
        | none => x
      (c.state = .waiting ∨ c.state = .unreachable ∨ c.state = .silent → removeClaim k n = left (dropped n)) ∧
      (c.state = .stacked →
        removeClaim k n =
          left (dropped { n with air := { a with stack := a.stack.filter (fun r => decide (r.station ≠ k)) } })) ∧
      (c.state = .holding → removeClaim k n = select (left (passOut a.holder.entry n)))) ∧
    (∀ serial : Byte,
      stationAbsent k n = removeClaim k (mapEntry k (fun e => { e with lastSerial := none }) n) ∧
      ((n.bus.entry k).present = true → (a.entry k).lastSerial = some serial →
        claimHeard k 0 serial n = n ∧
        claimHeard k 0 (serial + 1) n =
          removeClaim k (mapEntry k (fun e => { e with lastSerial := some (serial + 1) }) n))) ∧
    (let src : Source :=
       match a.holder.kind with
       | .own => .own
       | .alert => .alert
       | .peer => .peer (a.holder.entry.getD 0) a.holder.station
       | _ => .reserve
     handOver n =
       { n with
         link :=
           { n.link with
             alertId := if a.holder.kind = .alert then a.holder.alertId else n.link.alertId, handed := src,
             pending := if src = n.link.handed then n.link.pending else some src } })

/-- The marking of a silent holder (R119, R120) and the recovery of a SILENT entry (R121), and the standing
that follows each. A change of source that waits is taken before the holder input point's window is closed,
so that a point it restarts closes none (R119, R170); its place in the boundary is the model's choice (log 1). -/
def Obligations.SilenceAndRecovery : Prop :=
  (∀ n : Node,
    let h := n.air.holder
    let marked :=
      refreshStanding
        (select
          (mapAirCounters (fun c => { c with silenceMarkings := min (c.silenceMarkings + 1) 65535 })
            (setClaimState h.station .silent (passOut h.entry n))))
    let m := sourceChange n
    let point := m.meters.holderInput.finish n.cfg
    let closed : Node := { m with meters := { m.meters with holderInput := point.point } }
    (h.kind = .peer ∨ h.kind = .own → markHolderSilent n = marked) ∧
    (h.kind ≠ .peer → h.kind ≠ .own → markHolderSilent n = n) ∧
    closeHolder n = (if point.report = some true then markHolderSilent closed else closed) ∧
    ∀ r : SlotReport,
      (n.cfg.roles.link = true → h.kind = .peer → h.entry = some r.entry → airSlotEnded r n = markHolderSilent n) ∧
      (h.kind ≠ .peer ∨ h.entry ≠ some r.entry → airSlotEnded r n = n)) ∧
  (∀ (n : Node) (k : Nat),
    (∀ c, (n.air.entry k).claim = some c → c.state = .silent →
      recover k n =
        refreshStanding
          (evaluate k
            (mapAirCounters (fun x => { x with recoveries := min (x.recoveries + 1) 65535 })
              (setClaimState k .waiting n)))) ∧
    ((∀ c, (n.air.entry k).claim = some c → c.state ≠ .silent) → recover k n = n)) ∧
  ∀ n : Node,
    let own := n.meters.studio.finish n.cfg
    (own.sounding = true ↔
      n.meters.studio.windowDone = true ∧ n.meters.studio.windowSilent n.cfg = false ∧ own.point.silent = false) ∧
    closeStudio n =
      (if own.sounding = true then recover n.cfg.number { n with meters := { n.meters with studio := own.point } }
       else { n with meters := { n.meters with studio := own.point } }) ∧
    ∀ i : Nat,
      let p := (n.meters.slots.getD i .reset).finish n.cfg
      let m : Node := { n with meters := { n.meters with slots := n.meters.slots.set i p.point } }
      let k := (n.streams.entry i).station
      closeSlot i n =
        if p.sounding = true ∧ (n.air.entry k).listen = some i ∧ (n.streams.slot i).state ≠ .ended then recover k m
        else m

/-- The standing and its two indications, worked out after every change (R125, R126), and the report of a
change of standing to the cue engine (R100). -/
def Obligations.StandingFollows : Prop :=
  ∀ n : Node,
    let own := n.air.ownLevel
    let h := n.air.holder
    let ownView : Prop := n.cfg.roles.link = true ∨ n.bus.linkStation = none
    let link : Option RollLink :=
      match n.bus.linkStation with
      | some k => (n.bus.entry k).link
      | none => none
    let another (x : Announced) : Prop :=
      (∃ k, x = .station k ∧ k ≠ n.cfg.number) ∨ ∃ i, x = .alert i
    let holding : Prop :=
      (ownView ∧ h.kind = .own) ∨
        (¬ ownView ∧ own ≠ 0 ∧ ∃ l, link = some l ∧ l.holder = .station n.cfg.number)
    let preempted : Prop :=
      own ≠ 0 ∧
        ((ownView ∧ (h.kind = .peer ∨ h.kind = .alert) ∧ own < h.level) ∨
          (¬ ownView ∧ ∃ l, link = some l ∧ another l.holder ∧ own < l.level))
    let m := refreshStanding n
    let waits : Prop := ∃ c, (n.air.claims.getD (n.cfg.number - 1) .empty).claim = some c ∧ c.state = .waiting
    (holding → m.air.standing = .holding) ∧ (preempted → m.air.standing = .preempted) ∧
    (¬ holding → ¬ preempted → m.air.standing = .offAir) ∧
    (m.air.ownView = true ↔ ownView) ∧
    (m.air.waiting = true ↔ (ownView ∧ waits) ∨ (¬ ownView ∧ own ≠ 0 ∧ m.air.standing = .offAir)) ∧
    (m.air.alertOnAir = true ↔
      (ownView ∧ h.kind = .alert) ∨ (¬ ownView ∧ ∃ l i, link = some l ∧ l.holder = .alert i)) ∧
    (m.air.standing = n.air.standing → m.cue = n.cue) ∧
    (m.air.standing ≠ n.air.standing → m.cue = { n.cue with standing := some m.air.standing }) ∧
    m =
      { n with
        air :=
          { n.air with
            ownView := m.air.ownView, standing := m.air.standing, waiting := m.air.waiting,
            alertOnAir := m.air.alertOnAir },
        cue := m.cue } ∧
    (∀ s : State, (settle s).node = restage (refreshStanding s.node)) ∧
    ∀ (mem : Memory) (st : Stage), stageDue st n = true →
      runStage mem n st = restage (refreshStanding (stageRun st mem n))

/-- CALL_ANSWER (R131), CALL_SCREEN (R134), CALL_HOLD (R140) and CALL_DROP (R141) at a PHONE station. NEXT
names the RINGING line that has rung longest by the phone unit's block count, the lowest number among equals;
that the count is compared modulo 4,294,967,296 is the model's reading (log 19). What answering, returning to
HELD and clearing a line do is `PhoneLinesChange`. A CALL_HOLD or CALL_DROP of line 0, which names no line, is
answered as an IDLE line's, the model's reading (log 19). -/
def Obligations.CallRequestsDecided : Prop :=
  ∀ (s : State) (src dst : Nat) (tag : Byte) (a : List Byte),
    Asked src dst a.length s → s.node.cfg.roles.phone = true →
    let n := s.node.heard
    let p := s.node.phone
    let i := byteAt a 0
    let l := p.line i
    let gives (c : Instr) (code : Nat) (r : Result) (d : ResultData) (m : Node) : Prop :=
      exec c s = .next (answered src code tag { result := r, data := d, node := m } s)
    let inc (k : Nat) : Nat := min (k + 1) 65535
    let counted (f : PhoneCounters → PhoneCounters) (m : Node) : Node :=
      { m with phone := { m.phone with counters := f m.phone.counters } }
    (let ringing (j : Nat) : Prop := 1 ≤ j ∧ j ≤ 4 ∧ (p.line j).state = .ringing
     let age (j : Nat) : Nat := (p.blockCount - (p.line j).rangAt.getD 0).toNat
     (p.nextRinging = none ↔ ∀ j, ¬ ringing j) ∧
     ∀ j, p.nextRinging = some j →
       ringing j ∧
       ((∀ k, ringing k → (p.line k).rangAt ≠ none ∧ age k ≤ 2147483647) →
         ∀ k, ringing k → age k < age j ∨ (age k = age j ∧ j ≤ k))) ∧
    (1 ≤ a.length →
      let answer (r : Result) (d : ResultData) (m : Node) : Prop := gives (.callAnswer src dst tag a) 11 r d m
      let takes (j : Nat) : Prop :=
        answer .ok (.lineAnswered j) (answerLine j (fun c => { c with answers := inc c.answers }) n)
      (4 < i → answer .badField .none n) ∧
      (i = 0 → p.nextRinging = none → answer .notFound .none n) ∧
      (∀ j, i = 0 → p.nextRinging = some j →
        ((p.line j).state = .ringing → takes j) ∧ ((p.line j).state ≠ .ringing → answer .notReady .none n)) ∧
      (1 ≤ i → i ≤ 4 → (l.state = .ringing → takes i) ∧ (l.state ≠ .ringing → answer .notReady .none n))) ∧
    (3 ≤ a.length →
      let screen (r : Result) (m : Node) : Prop := gives (.callScreen src dst tag a) 12 r .none m
      let len := byteAt a 2
      let bad := i = 0 ∨ 4 < i ∨ 1 < byteAt a 1 ∨ 16 < len ∨ a.length ≠ 3 + len
      (bad → screen .badField n) ∧
      (¬ bad → l.state = .idle ∨ l.state = .ringing → screen .notReady n) ∧
      (¬ bad → l.state ≠ .idle → l.state ≠ .ringing →
        screen .ok
          { n with
            phone :=
              { p with
                lines :=
                  p.lines.set (i - 1) { l with screened := decide (byteAt a 1 = 1), label := a.drop 3 } } })) ∧
    (1 ≤ a.length →
      let hold (r : Result) (m : Node) : Prop := gives (.callHold src dst tag a) 14 r .none m
      (4 < i → hold .badField n) ∧ (i = 0 → hold .notReady n) ∧
      (1 ≤ i → i ≤ 4 → l.state ≠ .onAir → hold .notReady n) ∧
      (1 ≤ i → i ≤ 4 → l.state = .onAir → l.studio ≠ some (.station src) → hold .inUse n) ∧
      (1 ≤ i → i ≤ 4 → l.state = .onAir → l.studio = some (.station src) →
        hold .ok (counted (fun c => { c with holds := inc c.holds }) (returnHeld i n)))) ∧
    (1 ≤ a.length →
      let drop (r : Result) (m : Node) : Prop := gives (.callDrop src dst tag a) 15 r .none m
      (4 < i → drop .badField n) ∧ (i = 0 → drop .notFound n) ∧
      (1 ≤ i → i ≤ 4 → l.state = .idle → drop .notFound n) ∧
      (1 ≤ i → i ≤ 4 → l.state ≠ .idle →
        drop .ok (counted (fun c => { c with drops := inc c.drops }) (clearLine i .dropped n))))

/-- CALL_TAKE (R136, R137) at a PHONE station: the nine checks in their order, and the take made. -/
def Obligations.CallTakeDecided : Prop :=
  ∀ (s : State) (src dst : Nat) (tag : Byte) (a : List Byte),
    Asked src dst a.length s → s.node.cfg.roles.phone = true → 2 ≤ a.length →
    let n := s.node.heard
    let p := s.node.phone
    let line := byteAt a 0
    let index := byteAt a 1
    let inc (k : Nat) : Nat := min (k + 1) 65535
    let gives (r : Result) (d : ResultData) (m : Node) : Prop :=
      exec (.callTake src dst tag a) s = .next (answered src 13 tag { result := r, data := d, node := m } s)
    let refused (r : Result) : Prop :=
      gives r .none
        { n with phone := { p with counters := { p.counters with takesRefused := inc p.counters.takesRefused } } }
    let who : Party := .station src
    let serves (j : Nat) : Prop :=
      (p.line j).state = .onAir ∧ (p.line j).studio = some who ∧ (p.line j).mmIndex = some index
    let named (i : Nat) : Prop :=
      (line = 0 ∧
        ((p.queue.find? (fun j => (p.line j).screened) = some i) ∨
          ((∀ j ∈ p.queue, (p.line j).screened = false) ∧ p.queue.head? = some i))) ∨
      (1 ≤ line ∧ line ≤ 4 ∧ i = line)
    (4 < line ∨ (index ≠ 6 ∧ index ≠ 7) → refused .badField) ∧
    (index = 6 ∨ index = 7 → line = 0 → p.queue = [] → refused .notFound) ∧
    ∀ i, index = 6 ∨ index = 7 → named i →
      let l := p.line i
      (l.state = .onAir → l.studio ≠ some who → refused .takenElsewhere) ∧
      (serves i → gives .ok (.taken i l.screened l.label) n) ∧
      (l.state = .onAir → l.studio = some who → l.mmIndex ≠ some index → refused .inUse) ∧
      (l.state = .idle ∨ l.state = .ringing → refused .notReady) ∧
      (l.state = .queued ∨ l.state = .held →
        ((∃ j, 1 ≤ j ∧ j ≤ 4 ∧ j ≠ i ∧ serves j) → refused .inUse) ∧
        ((∀ j, 1 ≤ j → j ≤ 4 → j ≠ i → ¬ serves j) →
          (∀ why, s.node.streams.addOutcome src index = .refused why → refused .full) ∧
          ∀ k, s.node.streams.addOutcome src index = .added k →
            let m := (addListen src index .mixminus n).2
            let taken : LineRecord :=
              { l with
                state := .onAir, studio := some who, mmIndex := some index, mmEntry := some k,
                watch := some { age := 0, met := false }, holdLater := false }
            gives .ok (.taken i l.screened l.label)
              (judgeHoldFeed
                (let x :=
                  startOut i 0
                    { m with
                      phone :=
                        { p with
                          lines := p.lines.set (i - 1) taken,
                          queue := p.queue.filter (fun j => decide (j ≠ i)) } }
                 { x with
                   phone :=
                     { x.phone with
                       counters := { x.phone.counters with takes := inc x.phone.counters.takes } } }))))

/-- What answering a line (R131), clearing it (R132), returning it to HELD, heard on hold from the next
boundary (R139), joining the caller queue (R133), releasing a caller channel (R147), judging the hold feed and
adding its entry (R135) do; that clearing a line sets its rang-at to none and keeps its two counts of absence,
and that what happens at a boundary has the hold feed from that boundary, are the model's readings (log 19);
the counts of absence, the block count and the ages of the watches that a boundary moves on; and the rows
RING_START (R130), GIVE_UP (R130), HANG_UP (R132), TAKE_WATCH_EXPIRY (R138) and CALLER_WATCH_EXPIRY (R145) at
their places in a boundary: each line, or channel, for which the event is due is handled in turn. That the lines
for which one event is due are handled in the order 1 to 4, and the channels in the order 1 and 2, is the model's
choice (log 24); that a caller-watch stands still outside ON_AIR is its own reading (log 19). -/
def Obligations.PhoneLinesChange : Prop :=
  (∀ (n : Node) (i : Nat) (f : PhoneCounters → PhoneCounters) (why : ClearReason),
    let p := n.phone
    let l := p.line i
    let put (r : LineRecord) (q : List Nat → List Nat) (n : Node) : Node :=
      { n with phone := { n.phone with lines := n.phone.lines.set (i - 1) r, queue := q n.phone.queue } }
    let without (q : List Nat) : List Nat := q.filter (fun j => decide (j ≠ i))
    let offAir (n : Node) : Node :=
      match l.studio with
      | some (.station _) => removeListen? l.mmEntry (stopOut i n)
      | some .own => localLineGone i n
      | none => n
    (let r : LineRecord :=
      { l with
        state := .queued, seized := true, answeredAt := some p.blockCount, loopAbsent := 0,
        screened := false, label := [], rangAt := none }
     let m := joinQueue i (put r id n)
     answerLine i f n = judgeHoldFeed { m with phone := { m.phone with counters := f m.phone.counters } }) ∧
    (let r : LineRecord :=
      { state := .idle, seized := false, rangAt := none, ringAbsent := l.ringAbsent, answeredAt := none,
        loopAbsent := l.loopAbsent, screened := false, label := [], studio := none, mmIndex := none,
        mmEntry := none, watch := none, lastClear := why, holdLater := false }
     let m := put r without n
     clearLine i why n = judgeHoldFeed (if l.state = .onAir then offAir m else m)) ∧
    (let r : LineRecord :=
      { l with
        state := .held, studio := none, mmIndex := none, mmEntry := none, watch := none, holdLater := true }
     returnHeld i n = judgeHoldFeed (joinQueue i (offAir (put r id n)))) ∧
    ((∀ j, j = i ∨ j ∈ p.queue → (p.line j).answeredAt ≠ none) →
      let at_ (j : Nat) : Count32 := (p.line j).answeredAt.getD 0
      let first (j k : Nat) : Prop :=
        (1 ≤ (at_ k - at_ j).toNat ∧ (at_ k - at_ j).toNat ≤ 2147483647) ∨ (at_ j = at_ k ∧ j < k)
      ∃ pre post,
        p.queue = pre ++ post ∧ (∀ j ∈ pre, ¬ first i j) ∧ (∀ k, post.head? = some k → first i k) ∧
        joinQueue i n = { n with phone := { p with queue := pre ++ i :: post } })) ∧
  (∀ (n : Node) (ch : Nat),
    let r := n.take.channel ch
    (r.state ≠ .onAir → releaseChannel ch n = n) ∧
    (r.state = .onAir → (n.mixer.caller ch).state = .inactive →
      let y :=
        removeListen? r.entry
          (stopOut (ch + 5)
            { n with mixer := n.mixer.setCaller ch { n.mixer.caller ch with pending := none } })
      let free : TakeRecord :=
        { state := .free, phone := none, line := none, entry := none, tag := none, drops := [], watch := none }
      releaseChannel ch n =
        { y with
          take :=
            { y.take.setChannel ch free with
              counters := { y.take.counters with releases := min (y.take.counters.releases + 1) 65535 } } }) ∧
    (r.state = .onAir → (n.mixer.caller ch).state ≠ .inactive →
      let pending : Option CallerRequest :=
        if (n.mixer.caller ch).state = .active then some .release else none
      releaseChannel ch n =
        (let x :=
          stopOut (ch + 5) { n with mixer := n.mixer.setCaller ch { n.mixer.caller ch with pending := pending } }
         { x with
           take :=
             { x.take.setChannel ch { r with state := .releasing } with
               counters :=
                 { (x.take.setChannel ch { r with state := .releasing }).counters with
                   releases := min (x.take.counters.releases + 1) 65535 } } }))) ∧
  (∀ n : Node,
    let needed := n.cfg.roles.phone = true ∧ n.phone.queue ≠ [] ∧ n.cfg.roles.link = false ∧ n.bus.linkStation ≠ none
    let dropped : Node :=
      let m := removeListen? n.phone.holdEntry n
      { m with phone := { m.phone with holdEntry := none } }
    (∀ k, n.bus.linkStation = some k →
      (∀ e, n.streams.addOutcome k 5 = .added e →
        let m := (addListen k 5 .onair n).2
        addHold n = { m with phone := { m.phone with holdEntry := some e } }) ∧
      (∀ why, n.streams.addOutcome k 5 = .refused why →
        addHold n =
          { n with
            phone :=
              { n.phone with
                counters :=
                  { n.phone.counters with
                    holdFeedRefusals := min (n.phone.counters.holdFeedRefusals + 1) 65535 } } })) ∧
    (n.phone.holdEntry = none → ¬ needed → judgeHoldFeed n = n) ∧
    (n.phone.holdEntry = none → needed → judgeHoldFeed n = addHold n) ∧
    (∀ k, n.phone.holdEntry = some k → ¬ needed → judgeHoldFeed n = dropped) ∧
    (∀ k, n.phone.holdEntry = some k → needed →
      (some (n.streams.entry k).station = n.bus.linkStation → judgeHoldFeed n = n) ∧
      (some (n.streams.entry k).station ≠ n.bus.linkStation → judgeHoldFeed n = addHold dropped))) ∧
  (∀ (mem : Memory) (n : Node),
    let p := n.phone
    let counts (i : Nat) : LineRecord :=
      let l := p.line i
      match l.state with
      | .idle => l
      | .ringing =>
        { l with ringAbsent := if n.pins.ring.getD (i - 1) false = true then 0 else min (l.ringAbsent + 1) 6000 }
      | _ => { l with loopAbsent := if n.pins.loop.getD (i - 1) false = true then 0 else min (l.loopAbsent + 1) 20 }
    let heard (entry : Option Nat) : Prop :=
      ∃ k, entry = some k ∧
        ((n.streams.slot k).lastSeq ≠ none ∨ (n.streams.slot k).state = .running ∨
          (n.streams.slot k).state = .refilling ∨ (n.streams.slot k).state = .ended)
    let watches (w x : Option Watch) (entry : Option Nat) : Prop :=
      (w = none → x = none) ∧
      ∀ v, w = some v →
        (v.met = true ∨ heard entry → x = some { v with met := true }) ∧
        (v.met = false → ¬ heard entry → x = some { v with age := v.age + 1 })
    let turned (q q' : TakeRecord) : Prop :=
      ∃ x, (q.state ≠ .onAir → x = q.watch) ∧ (q.state = .onAir → watches q.watch x q.entry) ∧
        q' = { q with watch := x }
    let met := stageRun .takeWatch mem n
    let turn := stageRun .callerWatch mem n
    stageRun .phoneCounts mem n =
      { n with
        phone :=
          { p with
            blockCount := p.blockCount + 1,
            lines := if n.cfg.roles.phone = true then [1, 2, 3, 4].map counts else p.lines } } ∧
    met = { n with phone := { p with lines := met.phone.lines } } ∧ met.phone.lines.length = p.lines.length ∧
    (∀ (i : Nat) (h : i < p.lines.length) (h' : i < met.phone.lines.length),
      ∃ x, watches p.lines[i].watch x p.lines[i].mmEntry ∧ met.phone.lines[i] = { p.lines[i] with watch := x }) ∧
    turn = { n with take := { n.take with ch1 := turn.take.ch1, ch2 := turn.take.ch2 } } ∧
    turned n.take.ch1 turn.take.ch1 ∧ turned n.take.ch2 turn.take.ch2) ∧
  ∀ (s : State) (rest : List Stage),
    let n := s.node
    let inc (k : Nat) : Nat := min (k + 1) 65535
    let counted (f : PhoneCounters → PhoneCounters) (m : Node) : Node :=
      { m with phone := { m.phone with counters := f m.phone.counters } }
    let inTurn (due : Node → Nat → Bool) (act : Nat → Node → Node) : Host.Outcome State Fault Refusal :=
      .next (settle
        { s with
          agenda := rest, node := [1, 2, 3, 4].foldl (fun m i => if due m i then act i m else m) n })
    let rings (m : Node) (i : Nat) : Bool :=
      m.cfg.roles.phone && decide ((m.phone.line i).state = .idle) && m.pins.ring.getD (i - 1) false
    let gaveUp (m : Node) (i : Nat) : Bool :=
      decide ((m.phone.line i).state = .ringing) && decide (6000 ≤ (m.phone.line i).ringAbsent)
    let hungUp (m : Node) (i : Nat) : Bool :=
      (m.phone.line i).seized && decide (20 ≤ (m.phone.line i).loopAbsent)
    let failed (w : Option Watch) : Bool :=
      match w with
      | some x => !x.met && decide (200 ≤ x.age)
      | none => false
    let unheard (m : Node) (i : Nat) : Bool :=
      decide ((m.phone.line i).state = .onAir) && failed (m.phone.line i).watch
    let ring (i : Nat) (m : Node) : Node :=
      let x :=
        counted (fun c => { c with rings := inc c.rings })
          { m with
            phone :=
              { m.phone with
                lines :=
                  m.phone.lines.set (i - 1)
                    { m.phone.line i with state := .ringing, rangAt := some m.phone.blockCount, ringAbsent := 0 } } }
      if m.cfg.autoAnswer then answerLine i (fun c => { c with autoAnswers := inc c.autoAnswers }) x else x
    let giveUp (i : Nat) (m : Node) : Node :=
      counted (fun c => { c with giveUps := inc c.giveUps })
        { m with
          phone :=
            { m.phone with
              lines :=
                m.phone.lines.set (i - 1)
                  { m.phone.line i with state := .idle, rangAt := none, lastClear := .gaveUp } } }
    let callerFails (ch : Nat) (m : Node) : Bool :=
      decide ((m.take.channel ch).state = .onAir) && failed (m.take.channel ch).watch
    let callerEnds (ch : Nat) (m : Node) : Node :=
      if callerFails ch m then
        let x := releaseChannel ch m
        { x with
          take :=
            { x.take with
              counters :=
                { x.take.counters with callerWatchExpiries := inc x.take.counters.callerWatchExpiries } } }
      else m
    (AtStage .ringStart rest s → (∃ i, 1 ≤ i ∧ i ≤ 4 ∧ rings n i = true) → exec .ringStart s = inTurn rings ring) ∧
    (AtStage .giveUp rest s → (∃ i, 1 ≤ i ∧ i ≤ 4 ∧ gaveUp n i = true) →
      exec .giveUp s = inTurn gaveUp giveUp) ∧
    (AtStage .hangUp rest s → (∃ i, 1 ≤ i ∧ i ≤ 4 ∧ hungUp n i = true) →
      exec .hangUp s =
        inTurn hungUp
          (fun i m => counted (fun c => { c with hangUps := inc c.hangUps }) (clearLine i .hungUp m))) ∧
    (AtStage .takeWatchExpiry rest s → (∃ i, 1 ≤ i ∧ i ≤ 4 ∧ unheard n i = true) →
      exec .takeWatchExpiry s =
        inTurn unheard
          (fun i m =>
            counted (fun c => { c with takeWatchExpiries := inc c.takeWatchExpiries }) (returnHeld i m))) ∧
    (AtStage .callerWatchExpiry rest s → callerFails 1 n = true ∨ callerFails 2 n = true →
      exec .callerWatchExpiry s = .next (settle { s with agenda := rest, node := callerEnds 2 (callerEnds 1 n) }))

/-- What a studio does with the outcome of a take or a drop across the bus (R145, R146, R147): an OK
answer's line is listened to, or the take abandoned; a refusal or a timeout frees the channel; a drop's
refusal or timeout refuses the key that asked (R194) and releases the channel, whichever of its pending drops
it is; release complete frees it. An OK answer that carries no line number gives a free one, and one outside
1 to 4 is used as it stands (log 5); an outcome for a call that asked nothing under the tag leaves the channel
alone (log 19). -/
def Obligations.TakeAndDropOutcomes : Prop :=
  ∀ (n : Node) (ch key : Nat), ch = 1 ∨ ch = 2 →
    let r := n.take.channel ch
    let inc (k : Nat) : Nat := min (k + 1) 65535
    let counted (f : TakeCounters → TakeCounters) (x : Node) : Node :=
      { x with take := { x.take with counters := f x.take.counters } }
    let free : TakeRecord :=
      { state := .free, phone := none, line := none, entry := none, tag := none, drops := [], watch := none }
    (∀ (src result : Nat) (data : List Byte),
      (r.state ≠ .taking → takeAnswered ch key src result data n = n) ∧
      (r.state = .taking → result ≠ 0 →
        takeAnswered ch key src result data n =
          refuseKey key (n.cfg.keyFn key) (.code result)
            (counted (fun c => { c with refusedByPhone := inc c.refusedByPhone }) (setTake ch free n))) ∧
      (r.state = .taking → result = 0 →
        let line :=
          match data with
          | b :: _ => b.toNat
          | [] => Config.unstatedAnswerLine n.fresh
        let x : Node := { n with fresh := n.fresh + 1 }
        (∀ i, n.streams.addOutcome src line = .added i →
          let on : TakeRecord :=
            { r with
              state := .onAir, line := some line, entry := some i, tag := none,
              watch := some { age := 0, met := false } }
          takeAnswered ch key src result data n =
            startOut (ch + 5) line (activateCaller ch (.entry i) (setTake ch on (addListen src line .caller x).2))) ∧
        (∀ why, n.streams.addOutcome src line = .refused why →
          takeAnswered ch key src result data n =
            counted (fun c => { c with abandoned := inc c.abandoned }) (setTake ch free x)))) ∧
    (r.state ≠ .taking → takeTimedOut ch key n = n) ∧
    (r.state = .taking →
      takeTimedOut ch key n =
        refuseKey key (n.cfg.keyFn key) .timeout
          (counted (fun c => { c with timeouts := inc c.timeouts }) (setTake ch free n))) ∧
    (∀ tag : Byte,
      let left (x : Node) : Node :=
        setTake ch { r with drops := r.drops.erase tag, tag := (r.drops.erase tag).getLast? } x
      let told (why : KeyResult) : Node := refuseKey key (n.cfg.keyFn key) why n
      (tag ∉ r.drops →
        dropTimedOut ch key tag n = told .timeout ∧ dropAnswered ch key tag 0 n = n ∧
          ∀ result, result ≠ 0 → dropAnswered ch key tag result n = told (.code result)) ∧
      (tag ∈ r.drops →
        dropTimedOut ch key tag n = releaseChannel ch (left (told .timeout)) ∧
          dropAnswered ch key tag 0 n = left n ∧
          ∀ result, result ≠ 0 → dropAnswered ch key tag result n = releaseChannel ch (left (told (.code result))))) ∧
    (∀ why : KeyResult,
      refuseKey key (n.cfg.keyFn key) why n =
        { n with
          lines :=
            { n.lines with
              lastRefusal := some { key := key, fn := n.cfg.keyFn key, result := why },
              refusals := inc n.lines.refusals } }) ∧
    (r.state = .releasing → releaseComplete ch n = setTake ch free (removeListen? r.entry n)) ∧
    (r.state ≠ .releasing → releaseComplete ch n = n) ∧
    ∀ (slot : SlotReport), r.entry = some slot.entry → (n.take.channel (3 - ch)).entry ≠ some slot.entry →
      callerSlotEnded slot n = releaseChannel ch n

/-- The alert line (R150 to R152) at a station on the bus with role ALERT: what ALERT_LINE_BYTE does in
every case, and ALERT_LINE_RECORD as its bytes one after another. At every other station neither does
anything. That the stop bit is not judged while hunting, and that the relays counter advances in every
station state, are the model's readings (log 20). -/
def Obligations.AlertLineHeard : Prop :=
  (∀ (n : Node) (b : Byte) (stopBit : Bool),
    let a := n.alert
    let inc (k : Nat) : Nat := min (k + 1) 65535
    let heard := alertByte b stopBit n
    let with_ (g : List Byte) (gap : Nat) (f : AlertCounters → AlertCounters) : Node :=
      { n with alert := { a with gathered := g, gap := gap, counters := f a.counters } }
    let works := n.onBus = true ∧ n.cfg.roles.alert = true
    let bs := a.gathered ++ [b]
    let goodForm :=
      (byteAt bs 1 = 1 ∨ byteAt bs 1 = 2) ∧ 1 ≤ byteAt bs 4 ∧ byteAt bs 4 ≤ 4
    (¬ works → heard = n) ∧
    (works → a.gathered = [] → b ≠ 0x96 →
      heard = with_ [] a.gap (fun c => { c with skipped := inc c.skipped })) ∧
    (works → a.gathered = [] → b = 0x96 → heard = with_ [0x96] 0 id) ∧
    (works → a.gathered ≠ [] → stopBit = false →
      heard = with_ [] 0 (fun c => { c with lineFormat := inc c.lineFormat })) ∧
    (works → a.gathered ≠ [] → stopBit = true → bs.length ≠ 19 → heard = with_ bs 0 id) ∧
    (works → a.gathered ≠ [] → stopBit = true → bs.length = 19 →
      (beBytes (crc32 (bs.take 15)).toNat 4 ≠ bs.drop 15 →
        heard = with_ [] 0 (fun c => { c with lineCrc := inc c.lineCrc })) ∧
      (beBytes (crc32 (bs.take 15)).toNat 4 = bs.drop 15 → ¬ goodForm →
        heard = with_ [] 0 (fun c => { c with lineFormat := inc c.lineFormat })) ∧
      (beBytes (crc32 (bs.take 15)).toNat 4 = bs.drop 15 → goodForm →
        let r : AlertRecord :=
          { start := decide (byteAt bs 1 = 1), id := fieldAt bs 2 2, cls := byteAt bs 4, area := fieldAt bs 5 2,
            code := fieldAt bs 7 2, complement := fieldAt bs 9 2,
            duration := max 1 (min (fieldAt bs 11 2) 600), clip := byteAt bs 13,
            repeats := max 1 (min (byteAt bs 14) 3) }
        let offered :=
          offerPacket 31 (.alert r) false (with_ [] 0 (fun c => { c with good := inc c.good }))
        let relayed : Node :=
          { offered with
            alert :=
              { offered.alert with
                counters := { offered.alert.counters with relays := inc offered.alert.counters.relays } } }
        (n.cfg.roles.link = false → heard = relayed) ∧
        (n.cfg.roles.link = true → heard = judgeAlert r n.cfg.number relayed)))) ∧
  ∀ s : State, Quiet s →
    (∀ (b : Byte) (stopBit : Bool),
      exec (.alertLineByte b stopBit) s = .next (settle { s with node := alertByte b stopBit s.node })) ∧
    ∀ bytes : List Byte,
      exec (.alertLineRecord bytes) s =
        .next (settle { s with node := bytes.foldl (fun m b => alertByte b true m) s.node })

/-- ALERT (R153) at a LINK station, ALERT_END_LOCAL (R162), and the judgement of a record (R154 to R158,
R161, R163): the activation code, the area filter, the duplicates, the queue and its evictions, the matching
of an END, the superseding of the active alert; the writing of the history ring (R164), whose newest entry is
read first and whose oldest the ring's 16 places lose; and the change of alert id (R122). That a SUPERSEDED
entry carries NO_TONE and NO_MESSAGE as the alert held them, that DROPPED and CANCELLED entries carry no
flag, that the superseding alert acquires its message before its tone, that its NOT_AIRED entry carries
NO_AUDIO alone, and that the player stopped by a supersession is IDLE and holds the tone until the next
boundary, are the model's readings (log 20). -/
def Obligations.AlertsJudged : Prop :=
  (∀ (n : Node) (r : AlertRecord) (issuer : Nat) (o : AlertOutcome) (f : HistFlags),
    let a := n.alert
    let e : HistEntry :=
      { id := r.id, cls := r.cls, area := r.area, issuer := issuer, outcome := o, flags := f,
        stamp := a.blockCount }
    let m := writeHistory r issuer o f n
    m =
      { n with
        alert :=
          { a with
            ring := a.ring.set a.writePos (some e), writePos := (a.writePos + 1) % 16,
            entryCount := min (a.entryCount + 1) 16 },
        lines := { n.lines with lastAlert := some { id := r.id, cls := r.cls, outcome := o } } } ∧
    (a.writePos < 16 → a.ring.length = 16 →
      m.alert.history =
        e :: ((List.range 15).map (fun k => a.ring.getD ((a.writePos + 15 - k) % 16) none)).filterMap id)) ∧
  (∀ (n : Node) (id : Nat),
    let a := n.air
    alertIdChanges id n =
      handOver
        { n with
          air :=
            { a with
              holder := if a.holder.kind = .alert then { a.holder with alertId := id } else a.holder,
              alertClaim :=
                { a.alertClaim with claim := a.alertClaim.claim.map (fun c => { c with alertId := id }) } } }) ∧
  (∀ (n : Node) (r : AlertRecord) (issuer : Nat),
    let a := n.alert
    let inc (k : Nat) : Nat := min (k + 1) 65535
    let count (f : AlertCounters → AlertCounters) (m : Node) : Node :=
      { m with alert := { m.alert with counters := f m.alert.counters } }
    let noFlags : HistFlags :=
      { noTone := false, noMessage := false, noAudio := false, capped := false, localEnd := false,
        endRecord := false }
    let same (x : AlertRecord) : Prop := x.id = r.id ∧ x.cls = r.cls
    let codeOk := r.code ^^^ r.complement = 65535 ∧ r.code = n.cfg.alertCode
    let h := (crc32 (beBytes r.area 2)).toNat % 256
    let areaOk :=
      r.area = 65535 ∨ r.area ∈ n.cfg.areaCodes ∨ (byteAt n.cfg.areaHash (h / 8)).testBit (h % 8) = true
    let known :=
      (∃ q ∈ a.queue, same q.record) ∨ (∃ x, a.active = some x ∧ same x.record) ∨
        ∃ e ∈ a.history, e.id = r.id ∧ e.cls = r.cls ∧ e.outcome ≠ .rejected
    let isTest := r.cls = 1 ∧ n.cfg.testAlerts = false
    let message := acquireClip r.clip n
    let enters (m : Node) : Node :=
      let x := (acquireClip r.clip m).1
      count (fun c => { c with queued := inc c.queued })
        { x with
          alert :=
            { x.alert with
              queue :=
                x.alert.queue.takeWhile (fun q => decide (r.cls ≤ q.record.cls)) ++
                  [{ record := r, issuer := issuer, hasMessage := (acquireClip r.clip m).2 }] ++
                  x.alert.queue.dropWhile (fun q => decide (r.cls ≤ q.record.cls)) } }
    let leaves (q : QueuedAlert) (queue : List QueuedAlert) (o : AlertOutcome) : Node :=
      let m : Node := { n with alert := { a with queue := queue } }
      writeHistory q.record q.issuer o noFlags (if q.hasMessage then releaseClip q.record.clip m else m)
    let noEffect := count (fun c => { c with endsWithoutEffect := inc c.endsWithoutEffect }) n
    (¬ codeOk →
      judgeAlert r issuer n =
        count (fun c => { c with rejected := inc c.rejected })
          (writeHistory r issuer .rejected { noFlags with endRecord := !r.start } n)) ∧
    (codeOk → r.start = true →
      (¬ areaOk → judgeAlert r issuer n = count (fun c => { c with outOfArea := inc c.outOfArea }) n) ∧
      (areaOk → known → judgeAlert r issuer n = count (fun c => { c with duplicates := inc c.duplicates }) n) ∧
      (areaOk → ¬ known → isTest →
        judgeAlert r issuer n =
          count (fun c => { c with testsSeen := inc c.testsSeen }) (writeHistory r issuer .testSeen noFlags n)) ∧
      (areaOk → ¬ known → ¬ isTest →
        ((∀ x, a.active = some x → r.cls ≤ x.record.cls) →
          (a.queue.length < 4 → judgeAlert r issuer n = enters n) ∧
          (∀ low, ¬ a.queue.length < 4 → a.queue.getLast? = some low →
            (low.record.cls < r.cls →
              judgeAlert r issuer n =
                enters
                  (count (fun c => { c with evictions := inc c.evictions })
                    (leaves low a.queue.dropLast .dropped))) ∧
            (r.cls ≤ low.record.cls →
              judgeAlert r issuer n =
                count (fun c => { c with drops := inc c.drops }) (writeHistory r issuer .dropped noFlags n)))) ∧
        (∀ x, a.active = some x → x.record.cls < r.cls →
          let toneClip := n.cfg.toneClips.getD (r.cls - 1) 255
          let tone := acquireClip toneClip message.1
          (message.2 = false → tone.2 = false →
            judgeAlert r issuer n =
              count (fun c => { c with notAired := inc c.notAired })
                (writeHistory r issuer .notAired { noFlags with noAudio := true } n)) ∧
          (message.2 = true ∨ tone.2 = true →
            let stopped := stopPlayerClip tone.1
            let gone :=
              count (fun c => { c with superseded := inc c.superseded })
                (writeHistory x.record x.issuer .superseded
                  { noFlags with noTone := x.noTone, noMessage := !x.hasMessage }
                  (if x.hasMessage then releaseClip x.record.clip stopped else stopped))
            judgeAlert r issuer n =
              alertIdChanges r.id
                (count (fun c => { c with activations := inc c.activations })
                  { gone with
                    alert :=
                      { gone.alert with
                        active :=
                          some
                            { record := r, issuer := issuer, hasMessage := message.2, noTone := !tone.2,
                              count := 0, capBlock := r.duration * 1000, ending := .none },
                        player :=
                          { gone.alert.player with
                            clip := if tone.2 then some toneClip else none, startNext := true } } }))))) ∧
    (codeOk → r.start = false →
      (∀ x, a.active = some x → same x.record →
        (x.ending = .none →
          judgeAlert r issuer n =
            { n with
              alert :=
                { a with
                  active := some { x with ending := .byEnd },
                  player := { a.player with fader := a.player.fader.give 0 10 } } }) ∧
        (x.ending = .cap →
          judgeAlert r issuer n = { n with alert := { a with active := some { x with ending := .byEnd } } }) ∧
        (x.ending = .byEnd ∨ x.ending = .local_ → judgeAlert r issuer n = noEffect)) ∧
      ((∀ x, a.active = some x → ¬ same x.record) →
        ((∀ q ∈ a.queue, ¬ same q.record) → judgeAlert r issuer n = noEffect) ∧
        ∀ before q after, a.queue = before ++ q :: after → same q.record →
          (∀ y ∈ before ++ after, ¬ same y.record) →
          judgeAlert r issuer n =
            count (fun c => { c with cancelled := inc c.cancelled })
              (leaves q (before ++ after) .cancelled)))) ∧
  (∀ (s : State) (src dst : Nat) (p : List Byte),
    Reached src dst p.length s → s.node.cfg.roles.link = true →
    let n := s.node.heard
    let inc (k : Nat) : Nat := min (k + 1) 65535
    let count (f : AlertCounters → AlertCounters) (m : Node) : Node :=
      { m with alert := { m.alert with counters := f m.alert.counters } }
    let good := p.length = 14 ∧ (byteAt p 0 = 1 ∨ byteAt p 0 = 2) ∧ 1 ≤ byteAt p 3 ∧ byteAt p 3 ≤ 4
    let r : AlertRecord :=
      { start := decide (byteAt p 0 = 1), id := fieldAt p 1 2, cls := byteAt p 3, area := fieldAt p 4 2,
        code := fieldAt p 6 2, complement := fieldAt p 8 2, duration := max 1 (min (fieldAt p 10 2) 600),
        clip := byteAt p 12, repeats := max 1 (min (byteAt p 13) 3) }
    (¬ good →
      exec (.alert src dst p) s =
        .next (settle { s with node := count (fun c => { c with packetFormat := inc c.packetFormat }) n })) ∧
    (good →
      exec (.alert src dst p) s =
        .next
          (settle { s with node := count (fun c => { c with packets := inc c.packets }) (judgeAlert r src n) }))) ∧
  ∀ (s : State) (src dst : Nat) (tag : Byte) (a : List Byte),
    Asked src dst a.length s → s.node.cfg.roles.link = true → 2 ≤ a.length →
    let n := s.node.heard
    let gives (r : Result) (d : ResultData) (m : Node) : Prop :=
      exec (.alertEndLocal src dst tag a) s = .next (answered src 16 tag { result := r, data := d, node := m } s)
    let ends (x : ActiveAlert) (f : Ramp) (m : Node) : Node :=
      { m with
        alert :=
          { m.alert with
            active := some { x with ending := .local_ }, player := { m.alert.player with fader := f } } }
    let fader := s.node.alert.player.fader
    (s.node.alert.active = none → gives .notFound .none n) ∧
    ∀ x, s.node.alert.active = some x →
      let data : ResultData := .alertEnded x.record.id x.record.cls
      (x.record.id ≠ fieldAt a 0 2 → gives .notFound .none n) ∧
      (x.record.id = fieldAt a 0 2 →
        (x.ending = .byEnd ∨ x.ending = .local_ → gives .ok data n) ∧
        (x.ending = .cap → gives .ok data (ends x fader n)) ∧
        (x.ending = .none → gives .ok data (ends x (fader.give 0 10) n)))

/-- ALERT_LINE_GAP_TIMEOUT (R150), ALERT_ACTIVATION (R159), ALERT_CLIP_DONE, ALERT_FADE_DONE and
ALERT_CAP_DUE (R160) at their places in a boundary, where due; and what the activation of the queue's heads
and the end of the active alert do. That an alert ended by its cap advances the capped counter alone, and
that the fader stands at its value when the player stops, are the model's readings (log 20). And the start
that a supersession left for the boundary (R163): the tone or the message of the new alert, the fader at
16384; the repetition 0 of a tone, and the fader taken down at once where an ending has been given before the
start, are the model's readings (log 20). That ALERT_LINE_GAP_TIMEOUT leaves the gap count 0, not at the 20 of
R150, is the model's choice: the count is 0 whenever the receiver hunts (log 15). -/
def Obligations.AlertRowsAtABoundary : Prop :=
  let inc (k : Nat) : Nat := min (k + 1) 65535
  let count (f : AlertCounters → AlertCounters) (m : Node) : Node :=
    { m with alert := { m.alert with counters := f m.alert.counters } }
  let noFlags : HistFlags :=
    { noTone := false, noMessage := false, noAudio := false, capped := false, localEnd := false,
      endRecord := false }
  let released (c : Option Nat) (m : Node) : Node :=
    match c with
    | some k => releaseClip k m
    | none => m
  let starts (phase : PlayPhase) (clip repetition : Nat) (m : Node) : Node :=
    { m with
      alert :=
        { m.alert with
          player :=
            { m.alert.player with
              phase := phase, clip := some clip, readPos := 0, repetition := repetition,
              blocksLeft := ((m.store.clip clip).length + 47) / 48, startNext := false } } }
  let messageStarts (x : ActiveAlert) (m : Node) : Node :=
    starts .message x.record.clip 1 (acquireClip x.record.clip m).1
  let done (m : Node) : Node :=
    let y := released m.alert.player.clip m
    completeAlert { y with alert := { y.alert with player := { y.alert.player with phase := .done, clip := none } } }
  (∀ (held : Bool) (n : Node),
    (activateFrom held [] n = if held then removeClaim 0 n else n) ∧
    ∀ (q : QueuedAlert) (queue : List QueuedAlert),
      let m : Node := { n with alert := { n.alert with queue := queue } }
      let toneClip := n.cfg.toneClips.getD (q.record.cls - 1) 255
      let tone := acquireClip toneClip m
      (tone.2 = false → q.hasMessage = false →
        activateFrom held (q :: queue) n =
          activateFrom held queue
            (count (fun c => { c with notAired := inc c.notAired })
              (writeHistory q.record q.issuer .notAired
                { noFlags with noTone := true, noMessage := true, noAudio := true } tone.1))) ∧
      (tone.2 = true ∨ q.hasMessage = true →
        let a : ActiveAlert :=
          { record := q.record, issuer := q.issuer, hasMessage := q.hasMessage, noTone := !tone.2, count := 0,
            capBlock := q.record.duration * 1000, ending := .none }
        let y :=
          count (fun c => { c with activations := inc c.activations })
            { tone.1 with alert := { tone.1.alert with active := some a } }
        let z :=
          if held then alertIdChanges q.record.id y
          else evaluate 0 (fillEntry 0 .alert 3 q.record.id y)
        let unity : Node :=
          { z with alert := { z.alert with player := { z.alert.player with fader := Ramp.settled 16384 } } }
        activateFrom held (q :: queue) n =
          if tone.2 then starts .tone (z.cfg.toneClips.getD (q.record.cls - 1) 255) 0 unity
          else messageStarts a unity)) ∧
  (∀ (n : Node) (x : ActiveAlert),
    n.alert.active = some x →
    let p := n.alert.player
    let stopped : Node :=
      let m := released p.clip n
      { m with
        alert :=
          { m.alert with
            player :=
              { p with
                phase := .idle, clip := none, startNext := false, fader := Ramp.settled p.fader.value } } }
    let freed := if x.hasMessage then releaseClip x.record.clip stopped else stopped
    let early := x.ending = .byEnd ∨ x.ending = .local_
    let m :=
      count
        (fun c =>
          if x.ending = .none then { c with aired := inc c.aired }
          else if x.ending = .cap then { c with capped := inc c.capped }
          else { c with endedEarly := inc c.endedEarly })
        (writeHistory x.record x.issuer (if early then .endedEarly else .aired)
          { noFlags with
            noTone := x.noTone, noMessage := !x.hasMessage, capped := decide (x.ending = .cap),
            localEnd := decide (x.ending = .local_) } freed)
    completeAlert n = activateFrom true m.alert.queue { m with alert := { m.alert with active := none } }) ∧
  (∀ (mem : Memory) (n : Node),
    let p := n.alert.player
    let next := stageRun .alertStartNext mem n
    (n.alert.active = none ∨ p.startNext = false → next = n) ∧
    ∀ x, n.alert.active = some x → p.startNext = true →
      let fader := if x.ending = .none then Ramp.settled 16384 else (Ramp.settled 16384).retarget 0 10
      let up : Node := { n with alert := { n.alert with player := { p with fader := fader } } }
      (x.noTone = false → next = starts .tone (n.cfg.toneClips.getD (x.record.cls - 1) 255) 0 up) ∧
      (x.noTone = true → next = messageStarts x up)) ∧
  ∀ (s : State) (rest : List Stage),
    let n := s.node
    let p := n.alert.player
    let gives (c : Instr) (m : Node) : Prop := exec c s = .next (settle { s with agenda := rest, node := m })
    (AtStage .alertLineGapTimeout rest s → n.onBus = true → n.cfg.roles.alert = true →
      n.alert.gathered ≠ [] → 20 ≤ n.alert.gap →
      gives .alertLineGapTimeout
        (count (fun c => { c with lineFormat := inc c.lineFormat })
          { n with alert := { n.alert with gathered := [], gap := 0 } })) ∧
    (AtStage .alertActivation rest s → n.judging = true → n.cfg.roles.link = true → n.alert.active = none →
      n.alert.queue ≠ [] → gives .alertActivation (activateFrom false n.alert.queue n)) ∧
    (∀ x, AtStage .alertClipDone rest s → n.alert.active = some x → p.blocksLeft = 0 →
      (p.phase = .tone → x.hasMessage = true →
        gives .alertClipDone
          (let m := released p.clip n
           messageStarts x { m with alert := { m.alert with player := { m.alert.player with clip := none } } })) ∧
      (p.phase = .tone → x.hasMessage = false → gives .alertClipDone (done n)) ∧
      (p.phase = .message → p.repetition < x.record.repeats →
        gives .alertClipDone (starts .message x.record.clip (p.repetition + 1) n)) ∧
      (p.phase = .message → x.record.repeats ≤ p.repetition → gives .alertClipDone (done n))) ∧
    (∀ x, AtStage .alertFadeDone rest s → n.alert.active = some x → x.ending ≠ .none → p.fader.ended = true →
      gives .alertFadeDone (completeAlert n)) ∧
    (∀ x, AtStage .alertCapDue rest s → n.alert.active = some x → x.ending = .none →
      x.count = x.capBlock - 10 →
      gives .alertCapDue
        { n with
          alert :=
            { n.alert with
              active := some { x with ending := .cap }, player := { p with fader := p.fader.retarget 0 10 } } })

/-- SITE_CLIP_SEND (R176) at a LINK station: its checks in order, and the transfer that an OK starts. -/
def Obligations.SiteClipSendDecided : Prop :=
  ∀ (s : State) (src dst : Nat) (tag : Byte) (a : List Byte),
    Asked src dst a.length s → s.node.cfg.roles.link = true → 2 ≤ a.length →
    let n := s.node.heard
    let clip := byteAt a 0
    let e := s.node.store.clip clip
    let l := s.node.link
    let gives (r : Result) (d : ResultData) (m : Node) : Prop :=
      exec (.siteClipSend src dst tag a) s =
        .next (answered src 17 tag { result := r, data := d, node := m } s)
    (e.state ≠ .ready → gives .notReady .none n) ∧
    (e.state = .ready → l.transfer.phase ≠ .none → gives .busy .none n) ∧
    (e.state = .ready → l.transfer.phase = .none → l.returnLost = true → gives .notReady .none n) ∧
    (e.state = .ready → l.transfer.phase = .none → l.returnLost = false →
      let total := e.length * e.channels * 3
      gives .ok (.transferStarted (l.transfer.serial + 1) total)
        { n with
          store := { n.store with dir := n.store.dir.set clip { e with useCount := e.useCount + 1 } },
          link :=
            { l with
              transfer :=
                { l.transfer with
                  phase := .sending, localClip := clip, siteClip := byteAt a 1,
                  serial := l.transfer.serial + 1, total := total, nextOffset := 0, waitAge := 0,
                  openSent := false },
              counters := { l.counters with started := min (l.counters.started + 1) 65535 } } })

/-- RETURN_FRAME (R178, R179) at a LINK station: a frame that fails a check is counted and changes nothing
else; a good one becomes the latest return status, sets the age to 0 and the state to RETURN_OK, and ends a
running transfer of its serial whose state it reports DONE, REFUSED or FAULT. -/
def Obligations.ReturnFrameTaken : Prop :=
  ∀ (s : State) (bytes : List Byte),
    Quiet s → s.node.onBus = true → s.node.cfg.roles.link = true →
    let l := s.node.link
    let t := l.transfer
    let f : ReturnFrame :=
      { linkId := byteAt bytes 2, siteId := byteAt bytes 3, seq := BitVec.ofNat 16 (fieldAt bytes 4 2),
        siteMode := byteAt bytes 6, lastGood := BitVec.ofNat 16 (fieldAt bytes 7 2),
        crcErrors := fieldAt bytes 9 2, lost := fieldAt bytes 11 2,
        contacts := (List.range 4).map (fun k => (byteAt bytes 13).testBit k),
        transferState := byteAt bytes 14, transferSerial := bytes.getD 15 0, transferOffset := fieldAt bytes 16 4,
        peak := fieldAt bytes 20 3, crc := BitVec.ofNat 32 (fieldAt bytes 23 4) }
    let result := exec (.returnFrame bytes) s
    let heard : Link :=
      { l with
        lastReturn := some f, returnAge := 0, returnLost := false,
        counters := { l.counters with returnFrames := min (l.counters.returnFrames + 1) 65535 } }
    let done (r : TransferResult) (k : LinkCounters) : Host.Outcome State Fault Refusal :=
      .next (settle
        { s with
          node :=
            { s.node with
              store := s.node.store.release t.localClip,
              link :=
                { heard with
                  transfer :=
                    { t with
                      phase := .none,
                      lastResult :=
                        some { result := r, siteClip := t.siteClip, serial := t.serial, offset := t.nextOffset } },
                  counters := k } } })
    let good :=
      bytes.length = 27 ∧ fieldAt bytes 0 2 = 0xA53C ∧
        crcBytes ((bytes.drop 2).take 21) = bytes.drop 23 ∧ byteAt bytes 2 = s.node.cfg.linkId ∧
        byteAt bytes 3 = s.node.cfg.siteId ∧ (1 ≤ byteAt bytes 6 ∧ byteAt bytes 6 ≤ 3) ∧
        byteAt bytes 14 ≤ 4
    let c := heard.counters
    (¬ good →
      result =
        .next (settle
          { s with
            node :=
              { s.node with
                link :=
                  { l with
                    counters := { l.counters with returnErrors := min (l.counters.returnErrors + 1) 65535 } } } })) ∧
    (good → (t.phase = .none ∨ f.transferSerial ≠ t.serial ∨ f.transferState ≤ 1) →
      result = .next (settle { s with node := { s.node with link := heard } })) ∧
    (good → t.phase ≠ .none → f.transferSerial = t.serial →
      (f.transferState = 2 → result = done .done { c with done := min (c.done + 1) 65535 }) ∧
      (f.transferState = 3 → result = done .refused { c with refused := min (c.refused + 1) 65535 }) ∧
      (f.transferState = 4 → result = done .fault { c with fault := min (c.fault + 1) 65535 }))

/-- LINK_FRAME_MADE (R173 to R175, R177 to R179), at its place in a boundary with the phase count at 4: the
frame's fields and its CRC-32 over bytes 2 to 1,171 + a, the sequences, the buffer or the drop, the attachment
and what it does to the transfer, the return age.
LINK_FRAME_SENT (R175): the oldest frame leaves the buffer and is counted; a frame that a soft restart
left on the port (R181) goes first. That such a frame is held apart from the buffer, which is empty from the
restart on, and that its completion is counted, are the model's readings (log 21). -/
def Obligations.LinkFrameIsMadeAndSent : Prop :=
  (∀ (s : State) (rest : List Stage),
     AtStage .linkFrameMade rest s → s.node.onBus = true → s.node.cfg.roles.link = true →
     4 ≤ s.node.link.phase →
     let l := s.node.link
     let t := l.transfer
     let cfg := s.node.cfg
     let e := s.node.store.clip t.localClip
     let now := l.mode cfg.number
     let bytes := min 240 (t.total - t.nextOffset)
     let opening := t.phase = .sending ∧ t.openSent = false
     let sending := t.phase = .sending ∧ t.openSent = true
     ∃ f : LinkFrame,
       f.linkId = cfg.linkId ∧ f.siteId = cfg.siteId ∧ f.seq = l.seq ∧ f.blockSeq = l.blockSeq ∧
       f.mode = l.frameMode ∧ f.audio = l.frameAudio ∧
       (f.modeStart = true ↔ l.prevMode ≠ some l.frameMode) ∧ (f.modeEnd = true ↔ now ≠ l.frameMode) ∧
       (t.phase ≠ .sending →
         f.attach = false ∧ f.attachKind = 0 ∧ f.attachOffset = 0 ∧ f.attachment = [] ∧ f.last = false) ∧
       (opening →
         f.attach = true ∧ f.attachKind = 1 ∧ f.attachOffset = 0 ∧ f.last = false ∧
           f.attachment = openBytes t.siteClip e.channels e.length e.expectedCrc t.serial) ∧
       (sending →
         f.attach = true ∧ f.attachKind = 2 ∧ f.attachOffset = t.nextOffset ∧
           f.attachment = clipBytes s.mem e t.nextOffset bytes ∧
           (f.last = true ↔ t.nextOffset + bytes = t.total)) ∧
       (let byte (k : Nat) : Byte := BitVec.ofNat 8 k
        let mode :=
          match f.mode.kind with
          | .programme => 1
          | .alert => 2
          | .reserve => 3
          | .silence => 4
        let flag (b : Bool) (weight : Nat) : Nat := if b then weight else 0
        f.crc =
          crc32
            ([byte f.linkId, byte f.siteId] ++ beBytes f.seq.toNat 2 ++ beBytes f.blockSeq.toNat 4 ++ [byte mode] ++
              beBytes f.mode.arg 2 ++
              [byte (flag f.modeStart 1 + flag f.modeEnd 2 + flag f.attach 4 + flag f.last 8), byte f.attachKind] ++
              beBytes f.attachOffset 4 ++ [byte f.attachment.length] ++
              f.audio.flatMap (fun x => sampleBytes x.1 ++ sampleBytes x.2) ++ f.attachment)) ∧
       exec .linkFrameMade s =
         .next (settle
           { s with
             agenda := rest,
             node :=
               { s.node with
                 link :=
                   { l with
                     phase := 0, frameAudio := [], seq := l.seq + 1, blockSeq := l.blockSeq + 4,
                     prevMode := some l.frameMode, frameMode := now,
                     buffer := if l.buffer.length < 2 then l.buffer ++ [f] else l.buffer,
                     transfer :=
                       if opening then { t with openSent := true }
                       else if sending then
                         { t with
                           nextOffset := t.nextOffset + bytes, waitAge := 0,
                           phase := if t.nextOffset + bytes = t.total then .waiting else .sending }
                       else if t.phase = .waiting then { t with waitAge := t.waitAge + 1 }
                       else t,
                     returnAge := min (l.returnAge + 1) 125,
                     counters :=
                       { l.counters with
                         framesMade := min (l.counters.framesMade + 1) 65535,
                         modeChanges :=
                           if f.modeStart then min (l.counters.modeChanges + 1) 65535
                           else l.counters.modeChanges,
                         framesDropped :=
                           if l.buffer.length < 2 then l.counters.framesDropped
                           else min (l.counters.framesDropped + 1) 65535 } } } })) ∧
  (∀ s : State, Quiet s →
     let l := s.node.link
     let c : LinkCounters := { l.counters with framesSent := min (l.counters.framesSent + 1) 65535 }
     let result := exec .linkFrameSent s
     (∀ f rest, l.portTail = none → l.buffer = f :: rest →
       result =
         .next (settle { s with node := { s.node with link := { l with buffer := rest, counters := c } } })) ∧
     (∀ f, l.portTail = some f →
       result =
         .next (settle { s with node := { s.node with link := { l with portTail := none, counters := c } } })) ∧
     (l.portTail = none → l.buffer = [] → result = .next (settle s)))

/-- The rows LEG_DROP (R170), RESERVE_PLAYER_START (R169), RETURN_LOST (R179) and TRANSFER_NO_REPORT (R178),
each at its place in a boundary where it is due.
The legs at a hand-over (R170): the five rows of its table. Two PEER sources are the same where they
name the same listen entry. And the stage of a boundary at which a hand-over that waits takes effect: where the
legs change the source changes are counted and the holder input point is restarted; where they do not, only
what the source is called changes. Its two places in a boundary are the model's choice (logs 1 and 21). -/
def Obligations.LinkRowsAndLegs : Prop :=
  (∀ (s : State) (rest : List Stage),
     let l := s.node.link
     let t := l.transfer
     let ended (r : TransferResult) (n : Node) (k : LinkCounters) : Node :=
       { n with
         store := n.store.release t.localClip,
         link :=
           { n.link with
             transfer :=
               { t with
                 phase := .none,
                 lastResult :=
                   some { result := r, siteClip := t.siteClip, serial := t.serial, offset := t.nextOffset } },
             counters := k } }
     (∀ o, AtStage .legDrop rest s → l.outgoing = some o → o.gain.running = true → o.gain.len ≤ o.gain.pos →
       exec .legDrop s =
         .next (settle { s with agenda := rest, node := { s.node with link := { l with outgoing := none } } })) ∧
     (AtStage .reservePlayerStart rest s → s.node.onBus = true → s.node.cfg.roles.link = true →
       (l.incoming.source = .reserve ∨ ∃ o, l.outgoing = some o ∧ o.source = .reserve) →
       l.reserve.playing = false →
       let e := s.node.store.clip s.node.cfg.reserveClip
       e.state = .ready →
       exec .reservePlayerStart s =
         .next (settle
           { s with
             agenda := rest,
             node :=
               { s.node with
                 store :=
                   { s.node.store with
                     dir := s.node.store.dir.set s.node.cfg.reserveClip { e with useCount := e.useCount + 1 } },
                 link := { l with reserve := { playing := true, pos := 0 } } } })) ∧
     (AtStage .returnLost rest s → s.node.onBus = true → s.node.cfg.roles.link = true →
       l.returnLost = false → 125 ≤ l.returnAge →
       let lost : Node :=
         { s.node with
           link :=
             { l with
               returnLost := true,
               counters := { l.counters with returnLosses := min (l.counters.returnLosses + 1) 65535 } } }
       exec .returnLost s =
         .next (settle
           { s with
             agenda := rest,
             node :=
               if t.phase = .none then lost
               else
                 ended .returnLost lost
                   { lost.link.counters with lostReturn := min (l.counters.lostReturn + 1) 65535 } })) ∧
     (AtStage .transferNoReport rest s → t.phase = .waiting → 250 ≤ t.waitAge →
       exec .transferNoReport s =
         .next (settle
           { s with
             agenda := rest,
             node :=
               ended .noReport s.node { l.counters with noReport := min (l.counters.noReport + 1) 65535 } }))) ∧
  ((∀ (mem : Memory) (n : Node),
     let l := n.link
     let next := stageRun .sourceChange mem n
     let restarted : MeterPoint :=
       { n.meters.holderInput with
         running := true, waiting := true, pos := 0, peak := 0, clips := 0, lastPeak := 0, lastClips := 0,
         silent := false, silentRun := 0, soundRun := 0, overload := false }
     (l.pending = none → next = n) ∧
     ∀ src, l.pending = some src →
       let legs := changeLegs l.incoming l.outgoing src
       let taken : Link := { l with incoming := legs.1, outgoing := legs.2.1, pending := none }
       (legs.2.2 = false → next = { n with link := taken }) ∧
       (legs.2.2 = true →
         next =
           { n with
             link :=
               { taken with
                 counters := { l.counters with sourceChanges := min (l.counters.sourceChanges + 1) 65535 } },
             meters := { n.meters with holderInput := restarted } })) ∧
   ∀ (inc : Leg) (o : Leg) (new : Source),
     let same (a b : Source) : Prop :=
       (∃ e x y, a = .peer e x ∧ b = .peer e y) ∨ (a = b ∧ ∀ e x, a ≠ .peer e x)
     let toZero (l : Leg) : Leg := { l with gain := l.gain.retarget 0 10 }
     let fresh : Leg := { source := new, gain := (Ramp.settled 0).retarget 16384 10 }
     (same inc.source new → changeLegs inc none new = ({ inc with source := new }, none, false)) ∧
     (same inc.source new → changeLegs inc (some o) new = ({ inc with source := new }, some o, false)) ∧
     (¬ same inc.source new → changeLegs inc none new = (fresh, some (toZero inc), true)) ∧
     (¬ same inc.source new → same o.source new →
       changeLegs inc (some o) new =
         ({ source := new, gain := o.gain.retarget 16384 10 }, some (toZero inc), true)) ∧
     (¬ same inc.source new → ¬ same o.source new → o.gain.value ≤ inc.gain.value →
       changeLegs inc (some o) new = (fresh, some (toZero inc), true)) ∧
     (¬ same inc.source new → ¬ same o.source new → inc.gain.value < o.gain.value →
       changeLegs inc (some o) new = (fresh, some (toZero o), true)))

/-- SITE_LINK_BYTE (R182) at a working SITE chip: hunting for 5AC3h, a length byte above 240, a byte of a
frame still incomplete, and the byte that completes a frame.
SITE_LINK_FRAME (R182): a whole frame at a hunting receiver is accepted, or discarded and counted, and the
receiver hunts again. The checks of a complete frame, and the field that each of its bytes gives, are written
out on the bytes after the sync word: byte k of the frame's layout is byte k - 2 of them. What an accepted
frame does is `SiteFrameAccepted`. -/
def Obligations.SitePortTaken : Prop :=
  let frame (bs : List Byte) : LinkFrame :=
    let flag (k : Nat) : Bool := (byteAt bs 11).testBit k
    let code := byteAt bs 8
    { linkId := byteAt bs 0, siteId := byteAt bs 1, seq := BitVec.ofNat 16 (fieldAt bs 2 2),
      blockSeq := BitVec.ofNat 32 (fieldAt bs 4 4),
      mode :=
        { kind :=
            if code = 1 then .programme
            else if code = 2 then .alert
            else if code = 3 then .reserve
            else .silence,
          arg := fieldAt bs 9 2 },
      modeStart := flag 0, modeEnd := flag 1, attach := flag 2, last := flag 3, attachKind := byteAt bs 12,
      attachOffset := fieldAt bs 13 4, attachment := (bs.drop 1170).take (byteAt bs 17),
      audio :=
        (List.range 192).map (fun k =>
          (BitVec.ofNat 24 (fieldAt bs (18 + 6 * k) 3), BitVec.ofNat 24 (fieldAt bs (21 + 6 * k) 3))),
      crc := BitVec.ofNat 32 (fieldAt bs (1170 + byteAt bs 17) 4) }
  let good (cfg : Settings) (bs : List Byte) : Prop :=
    let a := byteAt bs 17
    let attach := (byteAt bs 11).testBit 2
    beBytes (crc32 (bs.take (1170 + a))).toNat 4 = bs.drop (1170 + a) ∧ byteAt bs 0 = cfg.linkId ∧
      byteAt bs 1 = cfg.siteId ∧ 1 ≤ byteAt bs 8 ∧ byteAt bs 8 ≤ 4 ∧ byteAt bs 11 < 16 ∧
      ((byteAt bs 12 = 0 ∧ attach = false ∧ a = 0) ∨ (byteAt bs 12 = 1 ∧ attach = true ∧ a = 11) ∨
        (byteAt bs 12 = 2 ∧ attach = true ∧ 1 ≤ a ∧ a ≤ 240))
  (∀ (s : State) (b : Byte),
     Quiet s → s.node.siteWorks = true →
     let x := s.node.site
     let result := exec (.siteLinkByte b) s
     let recv (r : Receiver) : Node := { s.node with site := { x with receiver := r, stall := 0 } }
     let next (m : Memory) (n : Node) : Host.Outcome State Fault Refusal :=
       .next (settle { s with mem := m, node := n })
     let bad : Node :=
       { s.node with
         site :=
           { x with
             receiver := .hunting false, stall := 0, crcErrors := min (x.crcErrors + 1) 65535, goodRun := 0 } }
     (∀ saw, x.receiver = .hunting saw →
       result =
         next s.mem (recv (if saw = true ∧ b = 0xC3 then .gathering [] else .hunting (decide (b = 0x5A))))) ∧
     ∀ g, x.receiver = .gathering g →
       let bs := g ++ [b]
       let complete := 18 ≤ bs.length ∧ bs.length = 1174 + byteAt bs 17
       let accepted := acceptFrame (frame bs) (recv (.hunting false))
       (bs.length = 18 → 240 < byteAt bs 17 → result = next s.mem bad) ∧
       (¬ (bs.length = 18 ∧ 240 < byteAt bs 17) → ¬ complete → result = next s.mem (recv (.gathering bs))) ∧
       (¬ (bs.length = 18 ∧ 240 < byteAt bs 17) → complete → ¬ good s.node.cfg bs → result = next s.mem bad) ∧
       (¬ (bs.length = 18 ∧ 240 < byteAt bs 17) → complete → good s.node.cfg bs →
         result = next (applyWrite accepted.2 s.mem) accepted.1)) ∧
  (∀ (s : State) (covered : List Byte),
     Quiet s → s.node.siteWorks = true → s.node.site.receiver = .hunting false →
     byteAt covered 17 ≤ 240 → covered.length = 1174 + byteAt covered 17 →
     let n : Node := { s.node with site := { s.node.site with stall := 0 } }
     let accepted := acceptFrame (frame covered) n
     let result := exec (.siteLinkFrame ([0x5A, 0xC3] ++ covered)) s
     (good s.node.cfg covered →
       result = .next (settle { s with mem := applyWrite accepted.2 s.mem, node := accepted.1 })) ∧
     (¬ good s.node.cfg covered →
       result =
         .next (settle
           { s with
             node :=
               { n with
                 site :=
                   { n.site with crcErrors := min (n.site.crcErrors + 1) 65535, goodRun := 0 } } })))

/-- The link buffer (R183, R184): placing a frame by its distance from the last sequence, and what it gives
out at a site frame boundary.
SITE_FRAME_BOUNDARY (R184, R185), at its place in a boundary with the site phase count at 4: the buffer
gives out, the no-frame count advances, and in CONCEALING the mode returns to FOLLOWING where the buffer is
RUNNING and the reserve count advances otherwise. -/
def Obligations.SiteFrameBoundaryKeepsTime : Prop :=
  (∀ (b : LinkBuffer) (f : BufferedFrame),
     let put (fs : List BufferedFrame) (st : BufferState) : LinkBuffer :=
       { b with frames := fs ++ [f], state := st, lastSeq := some f.seq }
     (b.lastSeq = none → b.frames.length < 8 → b.place f = (put b.frames b.state, 0, false)) ∧
     (∀ last, b.lastSeq = some last →
       let d := (f.seq - last).toNat
       (1 ≤ d → d ≤ 8 → b.frames.length < 8 → b.place f = (put b.frames b.state, d - 1, decide (d = 1))) ∧
       (1 ≤ d → d ≤ 8 → 8 ≤ b.frames.length →
         b.place f = (put (b.frames.drop 1) b.state, 1 + (d - 1), decide (d = 1))) ∧
       (d = 0 ∨ 9 ≤ d → b.place f = (put [] .filling, b.frames.length, false))) ∧
     (b.state ≠ .running → b.frames.length < 2 → b.boundary = ({ b with given := [] }, 0)) ∧
     (b.state = .running → b.frames = [] →
       b.boundary = ({ b with state := .refilling, given := b.lastOut.getD [] }, 0)) ∧
     (∀ g rest, b.frames = g :: rest → (b.state = .running ∨ 2 ≤ b.frames.length) → b.frames.length < 6 →
       b.boundary =
         ({ b with state := .running, frames := rest, lastOut := some g.audio, given := g.audio }, 0)) ∧
     (∀ x g rest, b.frames = x :: g :: rest → 6 ≤ b.frames.length →
       b.boundary =
         ({ b with state := .running, frames := rest, lastOut := some g.audio, given := g.audio }, 1))) ∧
  (∀ (s : State) (rest : List Stage),
     AtStage .siteFrameBoundary rest s → s.node.siteWorks = true → 4 ≤ s.node.site.phase →
     let x := s.node.site
     let r := x.buffer.boundary
     let read : Site :=
       { x with
         phase := 0, buffer := r.1, lost := min (x.lost + r.2) 65535, noFrame := min (x.noFrame + 1) 50 }
     exec .siteFrameBoundary s =
       .next (settle
         { s with
           agenda := rest,
           node :=
             if x.mode ≠ .concealing then { s.node with site := read }
             else if r.1.state = .running then
               { s.node with
                 site := { read with mode := .following },
                 meters := { s.node.meters with siteOutput := s.node.meters.siteOutput.begin } }
             else { s.node with site := { read with reserveCount := x.reserveCount + 1 } } }))

/-- The rows SITE_FRAME_STALL (R182), SITE_CONCEAL and SITE_RESERVE_ENTRY (R185), SITE_RESERVE_PLAYER_START
(R187) and SITE_CONTACT_CHANGE (R190, R191), each at its place in a boundary where it is due; and what the
closing of the site output and incoming meter points does, SITE_SILENCE_RESERVE among it (R186). -/
def Obligations.SiteRowsAtABoundary : Prop :=
  ∀ (s : State) (rest : List Stage),
    s.node.siteWorks = true →
    let x := s.node.site
    let next (y : Site) : Host.Outcome State Fault Refusal :=
      .next (settle { s with agenda := rest, node := { s.node with site := y } })
    let changed (y : Site) : Host.Outcome State Fault Refusal :=
      .next (settle
        { s with
          agenda := rest,
          node :=
            { s.node with
              site := y,
              meters := { s.node.meters with siteOutput := s.node.meters.siteOutput.begin } } })
    (∀ g, AtStage .siteFrameStall rest s → x.receiver = .gathering g → 4 ≤ x.stall →
      exec .siteFrameStall s =
        next
          { x with
            receiver := .hunting false, stall := 0, crcErrors := min (x.crcErrors + 1) 65535, goodRun := 0 }) ∧
    (AtStage .siteConceal rest s → x.mode = .following → 50 ≤ x.noFrame →
      exec .siteConceal s = changed { x with mode := .concealing, reserveCount := 0, goodRun := 0 }) ∧
    (AtStage .siteReserveEntry rest s → x.mode = .concealing → s.node.cfg.reserveDelay ≤ x.reserveCount →
      exec .siteReserveEntry s =
        changed
          { x with
            mode := .reserve, reason := .linkLoss, goodRun := 0,
            linkLeg := { x.linkLeg with pending := some (0, 10) },
            reserveLeg := { x.reserveLeg with pending := some (16384, 10) } }) ∧
    (AtStage .siteReservePlayerStart rest s → (x.mode = .reserve ∨ 0 < x.reserveLeg.value) →
      x.reserve.playing = false →
      let e := x.store.clip s.node.cfg.reserveClip
      e.state = .ready →
      exec .siteReservePlayerStart s =
        next
          { x with
            store :=
              { x.store with
                dir := x.store.dir.set s.node.cfg.reserveClip { e with useCount := e.useCount + 1 } },
            reserve := { playing := true, pos := 0 } }) ∧
    (AtStage .siteContactChange rest s → s.node.pins.contacts ≠ x.contacts →
      exec .siteContactChange s = next { x with contacts := s.node.pins.contacts }) ∧
    (let n := s.node
     let p := n.meters.siteOutput.finish n.cfg
     let q := n.meters.incoming.finish n.cfg
     let turned (y : Site) (link reserve : Nat) : Site :=
       { y with
         linkLeg := { y.linkLeg with pending := some (link, 10) },
         reserveLeg := { y.reserveLeg with pending := some (reserve, 10) } }
     let returns :=
       q.report ≠ none ∧ x.mode = .reserve ∧ x.goodRun = 250 ∧ (x.reason = .silence → q.point.silent = false)
     (p.report = some true → x.mode = .following →
       closeSiteOutput n =
         { n with
           site := turned { x with mode := .reserve, reason := .silence, goodRun := 0 } 0 16384,
           meters := { n.meters with siteOutput := p.point.begin } }) ∧
     (p.report ≠ some true ∨ x.mode ≠ .following →
       closeSiteOutput n = { n with meters := { n.meters with siteOutput := p.point } }) ∧
     (returns →
       closeIncoming n =
         { n with
           site := turned { x with mode := .following } 16384 0,
           meters := { n.meters with incoming := q.point, siteOutput := n.meters.siteOutput.begin } }) ∧
     (¬ returns → closeIncoming n = { n with meters := { n.meters with incoming := q.point } }))

/-- OPEN attachments at the site clip store (R188), decided in order after a load that is RECEIVING is
abandoned; DATA attachments (R189), and a frame without one: ignored, written, or failing the load; LAST
closes it; and the words of the sample memory (R64) that the bytes of a DATA attachment change: byte b of the
clip's data is byte b mod 3 of its sample b / 3, most significant first, and every sample written stands
sign-extended in its word. That a sample split over two attachments keeps the bytes not yet come and is read
back so mixed is the model's choice (log 22): R189 says nothing of a split sample. -/
def Obligations.SiteAttachmentsJudged : Prop :=
  ∀ (x : Site) (off : Nat) (bs : List Byte) (last : Bool),
    let t := x.transfer
    let e := x.store.clip t.clip
    let failed (y : Site) : Site :=
      { y with store := y.store.emptyClip t.clip, transfer := { y.transfer with state := .fault } }
    let got := t.received + bs.length
    let crc := crcUpdate t.crc bs
    let written : Site :=
      { x with
        store := { x.store with dir := x.store.dir.set t.clip { e with received := got / (3 * e.channels) } },
        transfer := { t with received := got, crc := crc } }
    let e1 := written.store.clip t.clip
    (t.state ≠ .receiving → x.data off bs last = (x, none)) ∧
    (t.state = .receiving → off < t.received → x.data off bs last = (x, none)) ∧
    (t.state = .receiving → (t.received < off ∨ off = t.received ∧ t.total < got) →
      x.data off bs last = (failed x, none)) ∧
    (t.state = .receiving → off = t.received → got ≤ t.total →
      (x.data off bs last).2 = some { firstPage := e.firstPage, offset := off, bytes := bs } ∧
      (last = false → (x.data off bs last).1 = written) ∧
      (last = true → got = t.total → ~~~crc = e1.expectedCrc →
        (x.data off bs last).1 =
          { written with
            store := { written.store with dir := written.store.dir.set t.clip { e1 with state := .ready } },
            transfer := { written.transfer with state := .done } }) ∧
      (last = true → (got ≠ t.total ∨ ~~~crc ≠ e1.expectedCrc) →
        (x.data off bs last).1 = failed written)) ∧
    (let y : Site := if t.state = .receiving then { x with store := x.store.emptyClip t.clip } else x
     ∀ o : OpenFields,
       let k := y.store.clip o.clip
       let opened (st : SiteTransferState) (d : Store) : Site :=
         { y with store := d, transfer := { t with state := st, clip := o.clip, serial := o.serial, received := 0 } }
       let good := (o.channels = 1 ∨ o.channels = 2) ∧ o.length ≠ 0
       let freed := y.store.emptyClip o.clip
       let pages := (o.channels * o.length + 4095) / 4096
       (¬ good → x.openLoad o = opened .fault y.store) ∧
       (good → 0 < k.useCount → x.openLoad o = opened .refused y.store) ∧
       (good → k.useCount = 0 →
         (allocate pages freed.free = none → x.openLoad o = opened .fault freed) ∧
         ∀ first rest, allocate pages freed.free = some (first, rest) →
           let loading : ClipEntry :=
             { ClipEntry.reset with
               state := .loading, channels := o.channels, length := o.length, firstPage := first,
               pageCount := pages, serial := k.serial, expectedCrc := o.crc, lastFailure := k.lastFailure }
           x.openLoad o =
             { y with
               store := { freed with dir := freed.dir.set o.clip loading, free := rest },
               transfer :=
                 { t with
                   state := .receiving, clip := o.clip, serial := o.serial, received := 0,
                   total := o.length * o.channels * 3, crc := 0xFFFFFFFF } })) ∧
    (∀ f : LinkFrame, f.attachKind = 1 → x.attachment f = (x.openLoad (openOfBytes f.attachment), none)) ∧
    (∀ f : LinkFrame, f.attachKind = 2 → x.attachment f = x.data f.attachOffset f.attachment f.last) ∧
    (∀ f : LinkFrame, f.attachKind = 0 →
      x.attachment f = (if t.state = .receiving then failed x else x, none)) ∧
    ∀ (mem : Memory) (w : ByteWrite), mem.wf = true →
      let after := applyWrite (some w) mem
      let word (j : Nat) : Nat := w.firstPage * 4096 + (w.offset + j) / 3
      let byteOf (z : Memory) (a k : Nat) : Byte := (z.read a).extractLsb' (16 - 8 * k) 8
      (∀ a, (∀ j, j < w.bytes.length → a ≠ word j) → after.read a = mem.read a) ∧
      (∀ j (h : j < w.bytes.length),
        after.read (word j) = ((after.read (word j)).setWidth 24).signExtend 32 ∧
          byteOf after (word j) ((w.offset + j) % 3) = w.bytes[j]) ∧
      ∀ a k, k < 3 → (∀ j, j < w.bytes.length → ¬ (a = word j ∧ k = (w.offset + j) % 3)) →
        byteOf after a k = byteOf mem a k

/-- An accepted link frame (R182, R183, R186, R190), in the order of R182: the attachment, the link buffer,
the no-frame count and the good run with the return condition of RESERVE, the accepted-frame count with the
return frame made at its return to 0, with its CRC-32 (section 9.5). That this frame carries the return
sequence before it advances, and the contacts as sampled at the last block boundary, are the model's readings
(log 22). -/
def Obligations.SiteFrameAccepted : Prop :=
  ∀ (f : LinkFrame) (n : Node),
    let x := (n.site.attachment f).1
    let p := x.buffer.place { seq := f.seq, audio := f.audio }
    let good := if p.2.2 then min (x.goodRun + 1) 250 else 1
    let y : Site :=
      { x with
        buffer := p.1, lost := min (x.lost + p.2.1) 65535, lastGood := f.seq, noFrame := 0, goodRun := good }
    let returns :=
      x.mode = .reserve ∧ good = 250 ∧ (x.reason = .silence → n.meters.incoming.silent = false)
    let m : Node :=
      if returns then
        { n with
          site :=
            { y with
              mode := .following, linkLeg := { y.linkLeg with pending := some (16384, 10) },
              reserveLeg := { y.reserveLeg with pending := some (0, 10) } },
          meters := { n.meters with siteOutput := n.meters.siteOutput.begin } }
      else { n with site := y }
    let withCrc (g : ReturnFrame) : ReturnFrame :=
      let byte (k : Nat) : Byte := BitVec.ofNat 8 k
      { g with
        crc :=
          crc32
            ([byte g.linkId, byte g.siteId] ++ beBytes g.seq.toNat 2 ++ [byte g.siteMode] ++
              beBytes g.lastGood.toNat 2 ++ beBytes g.crcErrors 2 ++ beBytes g.lost 2 ++
              [byte (byteOfBits g.contacts), byte g.transferState, g.transferSerial] ++
              beBytes g.transferOffset 4 ++ beBytes g.peak 3) }
    acceptFrame f n =
      (if (x.accepted + 1) % 25 = 0 then
          { m with
            site :=
              { m.site with
                accepted := 0, returnSeq := m.site.returnSeq + 1,
                lastSent :=
                  some <| withCrc
                    { linkId := n.cfg.linkId, siteId := n.cfg.siteId, seq := m.site.returnSeq,
                      siteMode :=
                        match m.site.mode with
                        | .following => 1
                        | .concealing => 2
                        | .reserve => 3,
                      lastGood := f.seq, crcErrors := m.site.crcErrors, lost := m.site.lost,
                      contacts := m.site.contacts,
                      transferState :=
                        match m.site.transfer.state with
                        | .none => 0
                        | .receiving => 1
                        | .done => 2
                        | .refused => 3
                        | .fault => 4,
                      transferSerial := m.site.transfer.serial, transferOffset := m.site.transfer.received,
                      peak := m.meters.siteOutput.lastPeak, crc := 0 } } }
        else { m with site := { m.site with accepted := (x.accepted + 1) % 25 } },
        (n.site.attachment f).2)

/-- PIN_RESET (R200), CONFIG_READ_DONE (R199, R200) and LISTEN_WINDOW_END (R200), and the settings that a
good record gives, with the defaults and the limits of R39, R59, R61, R64 and R185. PIN_RESET keeps what is
the outside world's or the model's own: the levels at the pins (log 2) and the counter of free values (log
3). That a bad record makes the part an UNCONFIGURED site where it passes the first four checks of R199 and
its role set is SITE is the model's reading (log 22). -/
def Obligations.StartUpDecided : Prop :=
  (∀ r : List Byte,
    let c := settingsOf r
    let b := byteAt r
    let pair (i : Nat) := fieldAt r i 2
    let mib := pair 5
    c.number = b 3 ∧
    (c.roles.studio = (b 4).testBit 0 ∧ c.roles.phone = (b 4).testBit 1 ∧ c.roles.link = (b 4).testBit 2 ∧
      c.roles.alert = (b 4).testBit 3 ∧ c.roles.site = (b 4).testBit 4) ∧
    (c.memPages =
      if mib < 32 then 1024 else if mib < 64 then 2048 else if mib < 128 then 4096
      else if mib < 256 then 8192 else 16384) ∧
    c.restartCode = r.getD 7 0 ∧ c.alertCode = pair 8 ∧
    c.areaCodes = [pair 10, pair 12, pair 14, pair 16] ∧ c.areaHash = (r.drop 18).take 32 ∧
    c.testAlerts = decide (b 50 = 1) ∧ c.toneClips = [b 51, b 52, b 53, b 54] ∧ c.reserveClip = b 55 ∧
    c.phoneStation = b 56 ∧ c.autoAnswer = decide (b 57 = 1) ∧
    (c.startDepth = if b 58 = 255 then 3 else if b 58 < 1 then 1 else if 8 < b 58 then 8 else b 58) ∧
    (c.highMark =
      if b 59 = 255 then 10 else if 15 < b 59 then 15 else if b 59 < c.startDepth + 2 then c.startDepth + 2
      else b 59) ∧
    (c.silenceThreshold =
      if fieldAt r 60 3 = 0xFFFFFF then 0 else if 8388608 < fieldAt r 60 3 then 8388608 else fieldAt r 60 3) ∧
    (c.silenceTime =
      if pair 63 = 0xFFFF then 2000 else if pair 63 < 100 then 100 else if 6000 < pair 63 then 6000 else pair 63) ∧
    (c.overloadThreshold =
      if fieldAt r 65 3 = 0xFFFFFF then 8388608 else if 8388608 < fieldAt r 65 3 then 8388608
      else fieldAt r 65 3) ∧
    (c.reserveDelay =
      if pair 68 = 0xFFFF then 1250 else if pair 68 < 250 then 250 else if 15000 < pair 68 then 15000
      else pair 68) ∧
    c.linkId = b 70 ∧ c.siteId = b 71 ∧
    c.voiceFlags = [(b 72).testBit 0, (b 72).testBit 1, (b 72).testBit 2, (b 72).testBit 3] ∧
    (∀ i, i < 8 → c.bank0.gains.getD i 0 = pair (73 + 2 * i) ∧ c.bank1.gains.getD i 0 = pair (91 + 2 * i)) ∧
    c.bank0.duckDepth = pair 89 ∧ c.bank1.duckDepth = pair 107 ∧
    ∀ i, i < 8 →
      c.keyFns.getD i .none = keyFnOf (b (109 + i)) ∧ c.tallyFns.getD i .none = tallyFnOf (b (117 + i))) ∧
  (∀ s : State,
    exec .pinReset s =
      .next { s with agenda := [], node := { Node.reset with pins := s.node.pins, fresh := s.node.fresh } }) ∧
  (∀ (s : State) (bytes : List Byte),
    Quiet s →
    let n := s.node
    let gives (m : Node) : Prop := exec (.configReadDone bytes) s = .next (settle { s with node := m })
    let first (k : Nat) : List Byte := (bytes ++ List.replicate (k - bytes.length) 0xFF).take k
    let len := beNat (first 2)
    let r := first len
    let crcOk := beBytes (crc32 (r.take (r.length - 4))).toNat 4 = r.drop (r.length - 4)
    let rolesOk := byteAt r 4 = 16 ∨ (1 ≤ byteAt r 4 ∧ byteAt r 4 ≤ 15)
    let rangesOk := byteAt r 50 ≤ 1 ∧ byteAt r 57 ≤ 1 ∧ byteAt r 56 ≤ 30 ∧ byteAt r 72 ≤ 15
    let functionsOk := ∀ i, i < 8 → byteAt r (109 + i) ≤ 10 ∧ byteAt r (117 + i) ≤ 8
    let good :=
      129 ≤ len ∧ len ≤ 512 ∧ crcOk ∧ byteAt r 2 = 1 ∧ 1 ≤ byteAt r 3 ∧ byteAt r 3 ≤ 30 ∧ rolesOk ∧ rangesOk ∧
        functionsOk
    let c := settingsOf r
    (n.station ≠ .config → gives n) ∧
    (n.station = .config → ¬ good →
      let bad (site : Bool) : Prop := gives { n with station := .unconfigured, badSite := site }
      let asSite :=
        129 ≤ len ∧ len ≤ 512 ∧ crcOk ∧ byteAt r 2 = 1 ∧ 1 ≤ byteAt r 3 ∧ byteAt r 3 ≤ 30 ∧ byteAt r 4 = 16
      (asSite → bad true) ∧ (¬ asSite → bad false)) ∧
    (n.station = .config → good → byteAt r 4 = 16 →
      gives
        { n with
          cfg := c, station := .run, mixer := .ofSettings c, store := .ofPages c.memPages, site := .ofSettings c,
          meters :=
            { n.meters with siteOutput := n.meters.siteOutput.begin, incoming := n.meters.incoming.begin } }) ∧
    (n.station = .config → good → byteAt r 4 ≠ 16 →
      gives
        (startPoints
          { n with
            cfg := c, station := .listen, windowCount := 0, mixer := .ofSettings c,
            store := .ofPages c.memPages }))) ∧
  ∀ (s : State) (rest : List Stage),
    AtStage .listenWindowEnd rest s → s.node.station = .listen → 500 ≤ s.node.windowCount →
    let starts (i : Nat) (role : Bool) (n : Node) : Node :=
      if role then
        { n with
          streams :=
            { n.streams with
              outgoing := n.streams.outgoing.modify i (fun o => { o with state := .active }) } }
      else n
    let roles := s.node.cfg.roles
    exec .listenWindowEnd s =
      .next (settle
        { s with
          agenda := rest,
          node :=
            select
              (starts 5 roles.link
                (starts 0 roles.studio
                  { s.node with station := .run, bus := { s.node.bus with rollCountdown := some 1 } })) })

/-- RESTART and RESTART_DEADLINE (R198), the end of sending that brings a pending restart, and what the soft
restart leaves (R23, R41, R63, R82, R106, R129, R149, R167, R181, R201). A clip is LOADING while a load
context names it (R71). -/
def Obligations.RestartDecided : Prop :=
  (∀ (s : State) (src dst : Nat) (tag : Byte) (a : List Byte),
    Asked src dst a.length s → 2 ≤ a.length →
    let n := s.node.heard
    let accepted := a.getD 0 0 ^^^ a.getD 1 0 = 0xFF ∧ a.getD 0 0 = s.node.cfg.restartCode
    (accepted → s.node.restart = none →
      exec (.restart src dst tag a) s =
        .next
          (settle { s with node := offerPacket src (.answer 19 tag .ok .none) true { n with restart := some 0 } })) ∧
    (accepted → s.node.restart ≠ none →
      exec (.restart src dst tag a) s =
        .next (answered src 19 tag { result := .ok, data := .none, node := n } s)) ∧
    (¬ accepted →
      exec (.restart src dst tag a) s =
        .next
          (answered src 19 tag
            { result := .badField, data := .none,
              node :=
                { n with
                  bus :=
                    { n.bus with
                      counters :=
                        { n.bus.counters with restartRefusals := min (n.bus.counters.restartRefusals + 1) 65535 } } } }
            s))) ∧
  (∀ (s : State) (rest : List Stage) (k : Nat),
    AtStage .restartDeadline rest s → s.node.restart = some k → 10 ≤ k →
    exec .restartDeadline s = .next (settle { s with agenda := rest, node := softRestart s.node })) ∧
  (∀ (s : State) (cls : Nat) (wire : List Byte) (p : Packet) (rest : List Packet),
    Quiet s → s.node.bus.line = .sending cls wire → s.node.bus.queue cls = p :: rest →
    s.node.bus.drainAtEnd = false → p.restartOk = true → s.node.restart ≠ none → s.node.cfg.roles.site = false →
    let b := s.node.bus
    exec .sendComplete s =
      .next
        (settle
          { s with
            node :=
              softRestart
                { s.node with
                  bus :=
                    { b.setQueue cls rest with
                      line := .idle, idleCount := 0, consecutive := 0,
                      counters := { b.counters with sent := min (b.counters.sent + 1) 65535 } } } })) ∧
  ∀ n : Node,
    let t := softRestart n
    let off (r : Ramp) : Prop := r = Ramp.settled 0
    let ofPlayer (p q : Player) : Prop := q = { Player.reset with lastEnd := p.lastEnd }
    (t.station = .listen ∧ t.windowCount = 0 ∧ t.restart = none ∧ t.cfg = n.cfg ∧ t.pins = n.pins) ∧
    ((∀ cls wire, n.bus.line ≠ .sending cls wire) →
      t.bus.q0 = [] ∧ t.bus.q1 = [] ∧ t.bus.q2 = [] ∧ t.bus.q3 = []) ∧
    (t.bus.consecutive = 0 ∧ t.bus.presence = List.replicate 30 .absent ∧ t.bus.linkStation = none ∧
      t.bus.rollCountdown = none ∧ t.bus.requesters = [] ∧ t.bus.tagCounter = 0 ∧
      t.bus.counters = n.bus.counters) ∧
    t.streams = Streams.reset ∧
    (t.mixer.bank0 = n.cfg.bank0 ∧ t.mixer.bank1 = n.cfg.bank1 ∧ t.mixer.live = 0 ∧ t.mixer.swap = none ∧
      t.mixer.gains = n.cfg.bank0.gains.map Ramp.settled ∧ off t.mixer.faderA ∧ off t.mixer.faderB ∧
      t.mixer.caller1 = Caller.reset ∧ t.mixer.caller2 = Caller.reset ∧ t.mixer.duckOn = false ∧
      t.mixer.duck = Ramp.settled 16384) ∧
    (t.store.loads = [] ∧ (∀ e ∈ t.store.dir, e.useCount = 0) ∧ t.store.counters = n.store.counters ∧
      t.store.dir.length = n.store.dir.length ∧
      t.store.free = (n.store.loads.foldl (fun d x => d.emptyClip x.clip) n.store).free ∧
      ∀ c : Nat,
        let e := n.store.clip c
        ((∀ x ∈ n.store.loads, x.clip ≠ c) → t.store.clip c = { e with useCount := 0 }) ∧
        ((∃ x ∈ n.store.loads, x.clip = c) → e.state ≠ .empty →
          t.store.clip c = { ClipEntry.reset with serial := e.serial, lastFailure := e.lastFailure })) ∧
    (t.cue.list = [] ∧ ofPlayer n.cue.a t.cue.a ∧ ofPlayer n.cue.b t.cue.b ∧ t.cue.countdown = none ∧
      t.cue.heldFlag = false ∧ t.cue.preferB = false ∧ t.cue.counters = n.cue.counters) ∧
    (t.air.ownLevel = 0 ∧ t.air.ownSerial = n.air.ownSerial ∧ t.air.claims = List.replicate 30 .empty ∧
      t.air.alertClaim = .empty ∧ t.air.holder.kind = .none ∧ t.air.stack = [] ∧ t.air.outgoing = [] ∧
      t.air.standing = .offAir ∧ t.air.counters = n.air.counters) ∧
    (t.phone.queue = [] ∧ t.phone.holdEntry = none ∧ t.phone.counters = n.phone.counters ∧
      t.phone.lines = n.phone.lines.map (fun l => { LineRecord.reset with lastClear := l.lastClear })) ∧
    (t.take.ch1 = .reset ∧ t.take.ch2 = .reset ∧ t.take.counters = n.take.counters) ∧
    (t.alert.queue = [] ∧ t.alert.active = none ∧ t.alert.player = .reset ∧ t.alert.ring = n.alert.ring ∧
      t.alert.blockCount = n.alert.blockCount ∧ t.alert.gathered = n.alert.gathered ∧
      t.alert.gap = n.alert.gap ∧
      t.alert.counters =
        { n.alert.counters with
          lostToRestart :=
            min (n.alert.counters.lostToRestart +
              (n.alert.queue.length + (if n.alert.active.isSome then 1 else 0))) 65535 }) ∧
    (t.link.incoming = { source := .reserve, gain := .settled 16384 } ∧ t.link.outgoing = none ∧
      t.link.reserve.playing = false ∧ t.link.phase = 0 ∧ t.link.seq = 0 ∧ t.link.blockSeq = 0 ∧
      t.link.buffer = [] ∧ t.link.transfer.phase = .none ∧ t.link.transfer.serial = n.link.transfer.serial ∧
      t.link.transfer.lastResult = n.link.transfer.lastResult ∧ t.link.returnLost = true ∧
      t.link.returnAge = 125 ∧ t.link.lastReturn = n.link.lastReturn ∧ t.link.deadAir = false ∧
      t.link.counters = n.link.counters) ∧
    t.lines.outputs = n.lines.outputs ∧ t.lines.keys = n.lines.keys ∧ t.lines.lastRefusal = n.lines.lastRefusal ∧
      t.lines.lastAlert = n.lines.lastAlert ∧ t.lines.refusals = n.lines.refusals ∧ t.lines.pressed = [] ∧
      t.lines.voiceHeld =
        (List.range 8).map
          (fun i => decide (n.cfg.keyFns.getD i .none = .voiceOpen) && (n.lines.keys.getD i .reset).accepted)

/-- CLAIM_KEY, PLAY_NEXT, STOP_ALL, TAKE_NEXT_CALLER, DROP_CALLER, KEY_SCENE_SWAP and ANSWER_NEXT_LINE
(R194) at their places in a boundary with some key pressed: each key pressed with the row's function acts in
key order (R109, R90, R98, R144, R147, R49, R131), a press outside RUN or without the role is refused, and
the presses are spent. The result of a refused drop is free (log 4), and NOT_READY before WRONG_ROLE and
FULL for a full requester table are the model's readings (log 12). -/
def Obligations.KeyPressesAct : Prop :=
  let inc (k : Nat) : Nat := min (k + 1) 65535
  let refused (key : Nat) (r : KeyResult) (m : Node) : Node :=
    { m with
      lines :=
        { m.lines with
          lastRefusal := some { key := key, fn := m.cfg.keyFns.getD (key - 1) .none, result := r },
          refusals := inc m.lines.refusals } }
  let kept (key : Nat) (r : Reply) : Node :=
    if r.result = .ok then r.node else refused key (.code r.result.code) r.node
  let counted (f : TakeCounters → TakeCounters) (m : Node) : Node :=
    { m with take := { m.take with counters := f m.take.counters } }
  let takeRefused (key : Nat) (r : Result) (m : Node) : Node :=
    refused key (.code r.code) (counted (fun c => { c with keyRefused := inc c.keyRefused }) m)
  (∀ (s : State) (rest : List Stage) (c : Instr) (st : Stage) (fns : KeyFn → Bool) (act : Nat → Node → Node),
    (c = .claimKey ∧ st = .claimKey ∧ fns = (fun f => decide (f = .claimStudio) || decide (f = .claimAuto)) ∧
        act = claimKeyAct) ∨
      (c = .playNext ∧ st = .playNext ∧ fns = (fun f => decide (f = .playNext)) ∧ act = playNextAct) ∨
      (c = .stopAll ∧ st = .stopAll ∧ fns = (fun f => decide (f = .stopAll)) ∧ act = stopAllAct) ∨
      (c = .takeNextCaller ∧ st = .takeNextCaller ∧ fns = (fun f => decide (f = .takeNextCaller)) ∧
        act = takeNextAct) ∨
      (c = .dropCaller ∧ st = .dropCaller ∧
        fns = (fun f => decide (f = .dropCaller1) || decide (f = .dropCaller2)) ∧ act = dropAct) ∨
      (c = .keySceneSwap ∧ st = .keySceneSwap ∧ fns = (fun f => decide (f = .sceneSwap)) ∧ act = sceneSwapAct) ∨
      (c = .answerNextLine ∧ st = .answerNextLine ∧ fns = (fun f => decide (f = .answerNextLine)) ∧
        act = answerNextAct) →
    AtStage st rest s →
    let pressed := s.node.lines.pressed.filter (fun k => fns (s.node.cfg.keyFns.getD (k - 1) .none))
    pressed ≠ [] →
    let m := pressed.foldl (fun m k => act k m) s.node
    exec c s =
      .next (settle
        { s with
          agenda := rest,
          node :=
            { m with
              lines :=
                { m.lines with
                  pressed :=
                    m.lines.pressed.filter (fun k => !fns (m.cfg.keyFns.getD (k - 1) .none)) } } })) ∧
  ∀ (n : Node) (key : Nat),
    let fn := n.cfg.keyFns.getD (key - 1) .none
    let run := n.inRun = true
    let studio := n.cfg.roles.studio = true
    let notReady := refused key (.code Result.notReady.code) n
    let wrongRole := refused key (.code Result.wrongRole.code) n
    let level := if fn = .claimStudio then 2 else 1
    let free (m : Node) : Prop := m.take.ch1.state = .free ∨ m.take.ch2.state = .free
    let ch := if n.take.ch1.state = .free then 1 else 2
    let takes := (if n.take.ch1.state = .taking then 1 else 0) + (if n.take.ch2.state = .taking then 1 else 0)
    let phone := n.cfg.phoneStation
    let phoneThere := phone ≠ 0 ∧ (n.bus.entry phone).present = true
    let dropped := if fn = .dropCaller1 then 1 else 2
    let d := n.take.channel dropped
    (¬ run →
      claimKeyAct key n = notReady ∧ playNextAct key n = notReady ∧ stopAllAct key n = notReady ∧
        sceneSwapAct key n = notReady ∧ answerNextAct key n = notReady ∧
        (studio → takeNextAct key n = takeRefused key .notReady n ∧ dropAct key n = takeRefused key .notReady n) ∧
        (¬ studio → takeNextAct key n = notReady ∧ dropAct key n = notReady)) ∧
    (run → ¬ studio →
      claimKeyAct key n = wrongRole ∧ playNextAct key n = wrongRole ∧ stopAllAct key n = wrongRole ∧
        sceneSwapAct key n = wrongRole ∧ takeNextAct key n = wrongRole ∧ dropAct key n = wrongRole) ∧
    (run → studio →
      claimKeyAct key n = setOwnClaim (if n.air.ownLevel = level then 0 else level) n ∧
      playNextAct key n = kept key (decidePlay n) ∧
      stopAllAct key n = kept key (stopReply (stopBoth n)) ∧
      sceneSwapAct key n = kept key (sceneSwapFor 10 n) ∧
      (¬ free n → takeNextAct key n = takeRefused key .full n) ∧
      (free n → n.cfg.roles.phone = true →
        let r := decideTake .own 0 (ch + 5) n
        (r.result ≠ .ok → takeNextAct key n = takeRefused key r.result r.node) ∧
        ∀ line flag label, r.result = .ok → r.data = .taken line flag label →
          takeNextAct key n =
            activateCaller ch (.line line)
              { r.node with
                take :=
                  r.node.take.setChannel ch
                    { TakeRecord.reset with state := .onAir, phone := some .own, line := some line } }) ∧
      (free n → n.cfg.roles.phone = false →
        (¬ phoneThere → takeNextAct key n = takeRefused key .notReady n) ∧
        (phoneThere → n.streams.listen.countP (fun e => !e.valid) < 1 + takes →
          takeNextAct key n = takeRefused key .full n) ∧
        (phoneThere → 1 + takes ≤ n.streams.listen.countP (fun e => !e.valid) →
          let sent := sendRequest 13 phone [0, BitVec.ofNat 8 (ch + 5)] (.take ch key) n
          (sent.1 = .dropped → takeNextAct key n = refused key (.code Result.full.code) sent.2) ∧
          ∀ t, sent.1 = .sent t →
            takeNextAct key n =
              counted (fun c => { c with sent := inc c.sent })
                { sent.2 with
                  take :=
                    sent.2.take.setChannel ch
                      { TakeRecord.reset with state := .taking, phone := some (.station phone), tag := some t } })) ∧
      (d.state = .onAir → d.phone = some .own → dropAct key n = (decideDrop (d.line.getD 0) n).node) ∧
      (∀ k, d.state = .onAir → d.phone = some (.station k) →
        let sent := sendRequest 15 k [BitVec.ofNat 8 (d.line.getD 0)] (.drop dropped key) n
        (sent.1 = .dropped → dropAct key n = refused key (.code Result.full.code) sent.2) ∧
        ∀ t, sent.1 = .sent t →
          dropAct key n =
            { sent.2 with take := sent.2.take.setChannel dropped { d with tag := some t, drops := d.drops ++ [t] } }) ∧
      (d.state ≠ .onAir →
        dropAct key n =
          refused key (.code (Config.unstatedRefusalCode n.fresh))
            (counted (fun c => { c with keyRefused := inc c.keyRefused }) { n with fresh := n.fresh + 1 }))) ∧
    (run → n.cfg.roles.phone = true → answerNextAct key n = kept key (decideAnswer 0 n)) ∧
    (run → n.cfg.roles.phone = false →
      (¬ phoneThere → answerNextAct key n = notReady) ∧
      (phoneThere →
        let sent := sendRequest 11 phone [0] (.answerKey key) n
        (sent.1 = .dropped → answerNextAct key n = refused key (.code Result.full.code) sent.2) ∧
        ∀ t, sent.1 = .sent t → answerNextAct key n = sent.2))

/-- The key inputs at a boundary (R193), and the tallies: the pattern worked out after every change (R195,
and R191 at a SITE chip) and applied to the eight outputs together at the next boundary (R196). That the
application stands before the boundary's changes is log 1; which UNCONFIGURED parts have their outputs off
is log 22. -/
def Obligations.KeysAndTallies : Prop :=
  ∀ (m : Memory) (n : Node),
    let x := n.lines
    let after (k : KeyState) (level : Bool) : KeyState :=
      if level = k.accepted then { k with stable := 0 }
      else if k.stable + 1 < 10 then { k with stable := k.stable + 1 }
      else { accepted := level, stable := 0 }
    let sampled := stageRun .keySample m n
    let restaged := restage n
    let out (i : Nat) : Bool := restaged.lines.staging.getD i false
    let phone := n.bus.entry n.cfg.phoneStation
    let works := n.station ≠ .config ∧ n.station ≠ .unconfigured
    let s := n.site
    let shows (f : TallyFn) : Prop :=
      match f with
      | .none => False
      | .onAir => n.air.standing = .holding
      | .next => n.air.waiting = true
      | .alert => n.air.alertOnAir = true
      | .callerWaiting =>
        (n.cfg.roles.phone = true ∧ n.phone.queue ≠ []) ∨
          (n.cfg.roles.phone = false ∧ n.cfg.phoneStation ≠ 0 ∧ phone.present = true ∧
            ∃ p, phone.phone = some p ∧ p.queue ≠ [])
      | .callerOnAir => n.take.ch1.state = .onAir ∨ n.take.ch2.state = .onAir
      | .silence => n.meters.studio.silent = true
      | .linkFault =>
        (n.cfg.roles.link = true ∧ (n.link.deadAir = true ∨ n.link.returnLost = true)) ∨
          (n.cfg.roles.link = false ∧ ∀ l, n.announced = some l → l.lost = true)
      | .busFault => n.station = .duplicate
    (∀ (i : Nat) k level, x.keys[i]? = some k → n.pins.keys[i]? = some level →
      sampled.lines.keys[i]? = some (after k level)) ∧
    (∀ key, key ∈ sampled.lines.pressed ↔
      ∃ i k level, i < 8 ∧ key = i + 1 ∧ x.keys[i]? = some k ∧ n.pins.keys[i]? = some level ∧
        k.accepted = false ∧ (after k level).accepted = true) ∧
    sampled = { n with lines := { x with keys := sampled.lines.keys, pressed := sampled.lines.pressed } } ∧
    (n.onBus = false → Stage.keySample ∉ n.stages) ∧
    stageRun .tallyApply m n = { n with lines := { x with outputs := x.staging } } ∧
    (n.onBus = true ∨ n.siteWorks = true ∨ n.station = .unconfigured →
      ∃ later, n.stages = .tallyApply :: later ∧ Stage.tallyApply ∉ later) ∧
    restaged = { n with lines := { x with staging := restaged.lines.staging } } ∧
    (n.station = .config → ∀ i, out i = false) ∧
    (n.station = .unconfigured → ∀ i, i < 8 → (out i = true ↔ n.badSite = false)) ∧
    (works → n.cfg.roles.site = false → ∀ i, (out i = true ↔ shows (n.cfg.tallyFns.getD i .none))) ∧
    (works → n.cfg.roles.site = true → ∀ c1 c2 c3 c4, s.contacts = [c1, c2, c3, c4] →
      (out 0 = true ↔ s.mode = .following) ∧ (out 1 = true ↔ s.mode = .concealing) ∧
      (out 2 = true ↔ s.mode = .reserve) ∧ out 3 = c1 ∧ out 4 = c2 ∧ out 5 = c3 ∧ out 6 = c4 ∧
      (out 7 = true ↔ s.mode = .reserve ∧ s.reserve.playing = false))
end

