-- ==== Sys2Proof/Laws/State.lean ====
section
/-! SUPPORT. What each update of the part does to each field, true by unfolding: a later proof reads a field
of an updated part without unfolding the update. -/

namespace Sys2Proof.Machine

/-! ## mapBusCounters -/

@[simp] theorem mapBusCounters_bus (f : BusCounters → BusCounters) (n : Node) :
    (mapBusCounters f n).bus = { n.bus with counters := f n.bus.counters } := rfl
@[simp] theorem mapBusCounters_station (f : BusCounters → BusCounters) (n : Node) :
    (mapBusCounters f n).station = n.station := rfl
@[simp] theorem mapBusCounters_badSite (f : BusCounters → BusCounters) (n : Node) :
    (mapBusCounters f n).badSite = n.badSite := rfl
@[simp] theorem mapBusCounters_cfg (f : BusCounters → BusCounters) (n : Node) :
    (mapBusCounters f n).cfg = n.cfg := rfl
@[simp] theorem mapBusCounters_pins (f : BusCounters → BusCounters) (n : Node) :
    (mapBusCounters f n).pins = n.pins := rfl
@[simp] theorem mapBusCounters_windowCount (f : BusCounters → BusCounters) (n : Node) :
    (mapBusCounters f n).windowCount = n.windowCount := rfl
@[simp] theorem mapBusCounters_restart (f : BusCounters → BusCounters) (n : Node) :
    (mapBusCounters f n).restart = n.restart := rfl
@[simp] theorem mapBusCounters_fresh (f : BusCounters → BusCounters) (n : Node) :
    (mapBusCounters f n).fresh = n.fresh := rfl
@[simp] theorem mapBusCounters_streams (f : BusCounters → BusCounters) (n : Node) :
    (mapBusCounters f n).streams = n.streams := rfl
@[simp] theorem mapBusCounters_mixer (f : BusCounters → BusCounters) (n : Node) :
    (mapBusCounters f n).mixer = n.mixer := rfl
@[simp] theorem mapBusCounters_meters (f : BusCounters → BusCounters) (n : Node) :
    (mapBusCounters f n).meters = n.meters := rfl
@[simp] theorem mapBusCounters_store (f : BusCounters → BusCounters) (n : Node) :
    (mapBusCounters f n).store = n.store := rfl
@[simp] theorem mapBusCounters_cue (f : BusCounters → BusCounters) (n : Node) :
    (mapBusCounters f n).cue = n.cue := rfl
@[simp] theorem mapBusCounters_air (f : BusCounters → BusCounters) (n : Node) :
    (mapBusCounters f n).air = n.air := rfl
@[simp] theorem mapBusCounters_phone (f : BusCounters → BusCounters) (n : Node) :
    (mapBusCounters f n).phone = n.phone := rfl
@[simp] theorem mapBusCounters_take (f : BusCounters → BusCounters) (n : Node) :
    (mapBusCounters f n).take = n.take := rfl
@[simp] theorem mapBusCounters_alert (f : BusCounters → BusCounters) (n : Node) :
    (mapBusCounters f n).alert = n.alert := rfl
@[simp] theorem mapBusCounters_link (f : BusCounters → BusCounters) (n : Node) :
    (mapBusCounters f n).link = n.link := rfl
@[simp] theorem mapBusCounters_site (f : BusCounters → BusCounters) (n : Node) :
    (mapBusCounters f n).site = n.site := rfl
@[simp] theorem mapBusCounters_lines (f : BusCounters → BusCounters) (n : Node) :
    (mapBusCounters f n).lines = n.lines := rfl
@[simp] theorem mapBusCounters_audio (f : BusCounters → BusCounters) (n : Node) :
    (mapBusCounters f n).audio = n.audio := rfl

/-! ## mapAirCounters -/

@[simp] theorem mapAirCounters_air (f : AirCounters → AirCounters) (n : Node) :
    (mapAirCounters f n).air = { n.air with counters := f n.air.counters } := rfl
@[simp] theorem mapAirCounters_station (f : AirCounters → AirCounters) (n : Node) :
    (mapAirCounters f n).station = n.station := rfl
@[simp] theorem mapAirCounters_badSite (f : AirCounters → AirCounters) (n : Node) :
    (mapAirCounters f n).badSite = n.badSite := rfl
@[simp] theorem mapAirCounters_cfg (f : AirCounters → AirCounters) (n : Node) :
    (mapAirCounters f n).cfg = n.cfg := rfl
@[simp] theorem mapAirCounters_pins (f : AirCounters → AirCounters) (n : Node) :
    (mapAirCounters f n).pins = n.pins := rfl
@[simp] theorem mapAirCounters_windowCount (f : AirCounters → AirCounters) (n : Node) :
    (mapAirCounters f n).windowCount = n.windowCount := rfl
@[simp] theorem mapAirCounters_restart (f : AirCounters → AirCounters) (n : Node) :
    (mapAirCounters f n).restart = n.restart := rfl
@[simp] theorem mapAirCounters_fresh (f : AirCounters → AirCounters) (n : Node) :
    (mapAirCounters f n).fresh = n.fresh := rfl
@[simp] theorem mapAirCounters_bus (f : AirCounters → AirCounters) (n : Node) :
    (mapAirCounters f n).bus = n.bus := rfl
@[simp] theorem mapAirCounters_streams (f : AirCounters → AirCounters) (n : Node) :
    (mapAirCounters f n).streams = n.streams := rfl
@[simp] theorem mapAirCounters_mixer (f : AirCounters → AirCounters) (n : Node) :
    (mapAirCounters f n).mixer = n.mixer := rfl
@[simp] theorem mapAirCounters_meters (f : AirCounters → AirCounters) (n : Node) :
    (mapAirCounters f n).meters = n.meters := rfl
@[simp] theorem mapAirCounters_store (f : AirCounters → AirCounters) (n : Node) :
    (mapAirCounters f n).store = n.store := rfl
@[simp] theorem mapAirCounters_cue (f : AirCounters → AirCounters) (n : Node) :
    (mapAirCounters f n).cue = n.cue := rfl
@[simp] theorem mapAirCounters_phone (f : AirCounters → AirCounters) (n : Node) :
    (mapAirCounters f n).phone = n.phone := rfl
@[simp] theorem mapAirCounters_take (f : AirCounters → AirCounters) (n : Node) :
    (mapAirCounters f n).take = n.take := rfl
@[simp] theorem mapAirCounters_alert (f : AirCounters → AirCounters) (n : Node) :
    (mapAirCounters f n).alert = n.alert := rfl
@[simp] theorem mapAirCounters_link (f : AirCounters → AirCounters) (n : Node) :
    (mapAirCounters f n).link = n.link := rfl
@[simp] theorem mapAirCounters_site (f : AirCounters → AirCounters) (n : Node) :
    (mapAirCounters f n).site = n.site := rfl
@[simp] theorem mapAirCounters_lines (f : AirCounters → AirCounters) (n : Node) :
    (mapAirCounters f n).lines = n.lines := rfl
@[simp] theorem mapAirCounters_audio (f : AirCounters → AirCounters) (n : Node) :
    (mapAirCounters f n).audio = n.audio := rfl

/-! ## mapEntry -/

@[simp] theorem mapEntry_air (k : Nat) (f : ClaimEntry → ClaimEntry) (n : Node) :
    (mapEntry k f n).air = n.air.modifyEntry k f := rfl
@[simp] theorem mapEntry_station (k : Nat) (f : ClaimEntry → ClaimEntry) (n : Node) :
    (mapEntry k f n).station = n.station := rfl
@[simp] theorem mapEntry_badSite (k : Nat) (f : ClaimEntry → ClaimEntry) (n : Node) :
    (mapEntry k f n).badSite = n.badSite := rfl
@[simp] theorem mapEntry_cfg (k : Nat) (f : ClaimEntry → ClaimEntry) (n : Node) :
    (mapEntry k f n).cfg = n.cfg := rfl
@[simp] theorem mapEntry_pins (k : Nat) (f : ClaimEntry → ClaimEntry) (n : Node) :
    (mapEntry k f n).pins = n.pins := rfl
@[simp] theorem mapEntry_windowCount (k : Nat) (f : ClaimEntry → ClaimEntry) (n : Node) :
    (mapEntry k f n).windowCount = n.windowCount := rfl
@[simp] theorem mapEntry_restart (k : Nat) (f : ClaimEntry → ClaimEntry) (n : Node) :
    (mapEntry k f n).restart = n.restart := rfl
@[simp] theorem mapEntry_fresh (k : Nat) (f : ClaimEntry → ClaimEntry) (n : Node) :
    (mapEntry k f n).fresh = n.fresh := rfl
@[simp] theorem mapEntry_bus (k : Nat) (f : ClaimEntry → ClaimEntry) (n : Node) :
    (mapEntry k f n).bus = n.bus := rfl
@[simp] theorem mapEntry_streams (k : Nat) (f : ClaimEntry → ClaimEntry) (n : Node) :
    (mapEntry k f n).streams = n.streams := rfl
@[simp] theorem mapEntry_mixer (k : Nat) (f : ClaimEntry → ClaimEntry) (n : Node) :
    (mapEntry k f n).mixer = n.mixer := rfl
@[simp] theorem mapEntry_meters (k : Nat) (f : ClaimEntry → ClaimEntry) (n : Node) :
    (mapEntry k f n).meters = n.meters := rfl
@[simp] theorem mapEntry_store (k : Nat) (f : ClaimEntry → ClaimEntry) (n : Node) :
    (mapEntry k f n).store = n.store := rfl
@[simp] theorem mapEntry_cue (k : Nat) (f : ClaimEntry → ClaimEntry) (n : Node) :
    (mapEntry k f n).cue = n.cue := rfl
@[simp] theorem mapEntry_phone (k : Nat) (f : ClaimEntry → ClaimEntry) (n : Node) :
    (mapEntry k f n).phone = n.phone := rfl
@[simp] theorem mapEntry_take (k : Nat) (f : ClaimEntry → ClaimEntry) (n : Node) :
    (mapEntry k f n).take = n.take := rfl
@[simp] theorem mapEntry_alert (k : Nat) (f : ClaimEntry → ClaimEntry) (n : Node) :
    (mapEntry k f n).alert = n.alert := rfl
@[simp] theorem mapEntry_link (k : Nat) (f : ClaimEntry → ClaimEntry) (n : Node) :
    (mapEntry k f n).link = n.link := rfl
@[simp] theorem mapEntry_site (k : Nat) (f : ClaimEntry → ClaimEntry) (n : Node) :
    (mapEntry k f n).site = n.site := rfl
@[simp] theorem mapEntry_lines (k : Nat) (f : ClaimEntry → ClaimEntry) (n : Node) :
    (mapEntry k f n).lines = n.lines := rfl
@[simp] theorem mapEntry_audio (k : Nat) (f : ClaimEntry → ClaimEntry) (n : Node) :
    (mapEntry k f n).audio = n.audio := rfl

/-! ## mapAlertCounters -/

@[simp] theorem mapAlertCounters_alert (f : AlertCounters → AlertCounters) (n : Node) :
    (mapAlertCounters f n).alert = { n.alert with counters := f n.alert.counters } := rfl
@[simp] theorem mapAlertCounters_station (f : AlertCounters → AlertCounters) (n : Node) :
    (mapAlertCounters f n).station = n.station := rfl
@[simp] theorem mapAlertCounters_badSite (f : AlertCounters → AlertCounters) (n : Node) :
    (mapAlertCounters f n).badSite = n.badSite := rfl
@[simp] theorem mapAlertCounters_cfg (f : AlertCounters → AlertCounters) (n : Node) :
    (mapAlertCounters f n).cfg = n.cfg := rfl
@[simp] theorem mapAlertCounters_pins (f : AlertCounters → AlertCounters) (n : Node) :
    (mapAlertCounters f n).pins = n.pins := rfl
@[simp] theorem mapAlertCounters_windowCount (f : AlertCounters → AlertCounters) (n : Node) :
    (mapAlertCounters f n).windowCount = n.windowCount := rfl
@[simp] theorem mapAlertCounters_restart (f : AlertCounters → AlertCounters) (n : Node) :
    (mapAlertCounters f n).restart = n.restart := rfl
@[simp] theorem mapAlertCounters_fresh (f : AlertCounters → AlertCounters) (n : Node) :
    (mapAlertCounters f n).fresh = n.fresh := rfl
@[simp] theorem mapAlertCounters_bus (f : AlertCounters → AlertCounters) (n : Node) :
    (mapAlertCounters f n).bus = n.bus := rfl
@[simp] theorem mapAlertCounters_streams (f : AlertCounters → AlertCounters) (n : Node) :
    (mapAlertCounters f n).streams = n.streams := rfl
@[simp] theorem mapAlertCounters_mixer (f : AlertCounters → AlertCounters) (n : Node) :
    (mapAlertCounters f n).mixer = n.mixer := rfl
@[simp] theorem mapAlertCounters_meters (f : AlertCounters → AlertCounters) (n : Node) :
    (mapAlertCounters f n).meters = n.meters := rfl
@[simp] theorem mapAlertCounters_store (f : AlertCounters → AlertCounters) (n : Node) :
    (mapAlertCounters f n).store = n.store := rfl
@[simp] theorem mapAlertCounters_cue (f : AlertCounters → AlertCounters) (n : Node) :
    (mapAlertCounters f n).cue = n.cue := rfl
@[simp] theorem mapAlertCounters_air (f : AlertCounters → AlertCounters) (n : Node) :
    (mapAlertCounters f n).air = n.air := rfl
@[simp] theorem mapAlertCounters_phone (f : AlertCounters → AlertCounters) (n : Node) :
    (mapAlertCounters f n).phone = n.phone := rfl
@[simp] theorem mapAlertCounters_take (f : AlertCounters → AlertCounters) (n : Node) :
    (mapAlertCounters f n).take = n.take := rfl
@[simp] theorem mapAlertCounters_link (f : AlertCounters → AlertCounters) (n : Node) :
    (mapAlertCounters f n).link = n.link := rfl
@[simp] theorem mapAlertCounters_site (f : AlertCounters → AlertCounters) (n : Node) :
    (mapAlertCounters f n).site = n.site := rfl
@[simp] theorem mapAlertCounters_lines (f : AlertCounters → AlertCounters) (n : Node) :
    (mapAlertCounters f n).lines = n.lines := rfl
@[simp] theorem mapAlertCounters_audio (f : AlertCounters → AlertCounters) (n : Node) :
    (mapAlertCounters f n).audio = n.audio := rfl

/-! ## mapCueCounters -/

@[simp] theorem mapCueCounters_cue (f : CueCounters → CueCounters) (n : Node) :
    (mapCueCounters f n).cue = { n.cue with counters := f n.cue.counters } := rfl
@[simp] theorem mapCueCounters_station (f : CueCounters → CueCounters) (n : Node) :
    (mapCueCounters f n).station = n.station := rfl
@[simp] theorem mapCueCounters_badSite (f : CueCounters → CueCounters) (n : Node) :
    (mapCueCounters f n).badSite = n.badSite := rfl
@[simp] theorem mapCueCounters_cfg (f : CueCounters → CueCounters) (n : Node) :
    (mapCueCounters f n).cfg = n.cfg := rfl
@[simp] theorem mapCueCounters_pins (f : CueCounters → CueCounters) (n : Node) :
    (mapCueCounters f n).pins = n.pins := rfl
@[simp] theorem mapCueCounters_windowCount (f : CueCounters → CueCounters) (n : Node) :
    (mapCueCounters f n).windowCount = n.windowCount := rfl
@[simp] theorem mapCueCounters_restart (f : CueCounters → CueCounters) (n : Node) :
    (mapCueCounters f n).restart = n.restart := rfl
@[simp] theorem mapCueCounters_fresh (f : CueCounters → CueCounters) (n : Node) :
    (mapCueCounters f n).fresh = n.fresh := rfl
@[simp] theorem mapCueCounters_bus (f : CueCounters → CueCounters) (n : Node) :
    (mapCueCounters f n).bus = n.bus := rfl
@[simp] theorem mapCueCounters_streams (f : CueCounters → CueCounters) (n : Node) :
    (mapCueCounters f n).streams = n.streams := rfl
@[simp] theorem mapCueCounters_mixer (f : CueCounters → CueCounters) (n : Node) :
    (mapCueCounters f n).mixer = n.mixer := rfl
@[simp] theorem mapCueCounters_meters (f : CueCounters → CueCounters) (n : Node) :
    (mapCueCounters f n).meters = n.meters := rfl
@[simp] theorem mapCueCounters_store (f : CueCounters → CueCounters) (n : Node) :
    (mapCueCounters f n).store = n.store := rfl
@[simp] theorem mapCueCounters_air (f : CueCounters → CueCounters) (n : Node) :
    (mapCueCounters f n).air = n.air := rfl
@[simp] theorem mapCueCounters_phone (f : CueCounters → CueCounters) (n : Node) :
    (mapCueCounters f n).phone = n.phone := rfl
@[simp] theorem mapCueCounters_take (f : CueCounters → CueCounters) (n : Node) :
    (mapCueCounters f n).take = n.take := rfl
@[simp] theorem mapCueCounters_alert (f : CueCounters → CueCounters) (n : Node) :
    (mapCueCounters f n).alert = n.alert := rfl
@[simp] theorem mapCueCounters_link (f : CueCounters → CueCounters) (n : Node) :
    (mapCueCounters f n).link = n.link := rfl
@[simp] theorem mapCueCounters_site (f : CueCounters → CueCounters) (n : Node) :
    (mapCueCounters f n).site = n.site := rfl
@[simp] theorem mapCueCounters_lines (f : CueCounters → CueCounters) (n : Node) :
    (mapCueCounters f n).lines = n.lines := rfl
@[simp] theorem mapCueCounters_audio (f : CueCounters → CueCounters) (n : Node) :
    (mapCueCounters f n).audio = n.audio := rfl

/-! ## mapLinkCounters -/

@[simp] theorem mapLinkCounters_link (f : LinkCounters → LinkCounters) (n : Node) :
    (mapLinkCounters f n).link = { n.link with counters := f n.link.counters } := rfl
@[simp] theorem mapLinkCounters_station (f : LinkCounters → LinkCounters) (n : Node) :
    (mapLinkCounters f n).station = n.station := rfl
@[simp] theorem mapLinkCounters_badSite (f : LinkCounters → LinkCounters) (n : Node) :
    (mapLinkCounters f n).badSite = n.badSite := rfl
@[simp] theorem mapLinkCounters_cfg (f : LinkCounters → LinkCounters) (n : Node) :
    (mapLinkCounters f n).cfg = n.cfg := rfl
@[simp] theorem mapLinkCounters_pins (f : LinkCounters → LinkCounters) (n : Node) :
    (mapLinkCounters f n).pins = n.pins := rfl
@[simp] theorem mapLinkCounters_windowCount (f : LinkCounters → LinkCounters) (n : Node) :
    (mapLinkCounters f n).windowCount = n.windowCount := rfl
@[simp] theorem mapLinkCounters_restart (f : LinkCounters → LinkCounters) (n : Node) :
    (mapLinkCounters f n).restart = n.restart := rfl
@[simp] theorem mapLinkCounters_fresh (f : LinkCounters → LinkCounters) (n : Node) :
    (mapLinkCounters f n).fresh = n.fresh := rfl
@[simp] theorem mapLinkCounters_bus (f : LinkCounters → LinkCounters) (n : Node) :
    (mapLinkCounters f n).bus = n.bus := rfl
@[simp] theorem mapLinkCounters_streams (f : LinkCounters → LinkCounters) (n : Node) :
    (mapLinkCounters f n).streams = n.streams := rfl
@[simp] theorem mapLinkCounters_mixer (f : LinkCounters → LinkCounters) (n : Node) :
    (mapLinkCounters f n).mixer = n.mixer := rfl
@[simp] theorem mapLinkCounters_meters (f : LinkCounters → LinkCounters) (n : Node) :
    (mapLinkCounters f n).meters = n.meters := rfl
@[simp] theorem mapLinkCounters_store (f : LinkCounters → LinkCounters) (n : Node) :
    (mapLinkCounters f n).store = n.store := rfl
@[simp] theorem mapLinkCounters_cue (f : LinkCounters → LinkCounters) (n : Node) :
    (mapLinkCounters f n).cue = n.cue := rfl
@[simp] theorem mapLinkCounters_air (f : LinkCounters → LinkCounters) (n : Node) :
    (mapLinkCounters f n).air = n.air := rfl
@[simp] theorem mapLinkCounters_phone (f : LinkCounters → LinkCounters) (n : Node) :
    (mapLinkCounters f n).phone = n.phone := rfl
@[simp] theorem mapLinkCounters_take (f : LinkCounters → LinkCounters) (n : Node) :
    (mapLinkCounters f n).take = n.take := rfl
@[simp] theorem mapLinkCounters_alert (f : LinkCounters → LinkCounters) (n : Node) :
    (mapLinkCounters f n).alert = n.alert := rfl
@[simp] theorem mapLinkCounters_site (f : LinkCounters → LinkCounters) (n : Node) :
    (mapLinkCounters f n).site = n.site := rfl
@[simp] theorem mapLinkCounters_lines (f : LinkCounters → LinkCounters) (n : Node) :
    (mapLinkCounters f n).lines = n.lines := rfl
@[simp] theorem mapLinkCounters_audio (f : LinkCounters → LinkCounters) (n : Node) :
    (mapLinkCounters f n).audio = n.audio := rfl

/-! ## mapPhoneCounters -/

@[simp] theorem mapPhoneCounters_phone (f : PhoneCounters → PhoneCounters) (n : Node) :
    (mapPhoneCounters f n).phone = { n.phone with counters := f n.phone.counters } := rfl
@[simp] theorem mapPhoneCounters_station (f : PhoneCounters → PhoneCounters) (n : Node) :
    (mapPhoneCounters f n).station = n.station := rfl
@[simp] theorem mapPhoneCounters_badSite (f : PhoneCounters → PhoneCounters) (n : Node) :
    (mapPhoneCounters f n).badSite = n.badSite := rfl
@[simp] theorem mapPhoneCounters_cfg (f : PhoneCounters → PhoneCounters) (n : Node) :
    (mapPhoneCounters f n).cfg = n.cfg := rfl
@[simp] theorem mapPhoneCounters_pins (f : PhoneCounters → PhoneCounters) (n : Node) :
    (mapPhoneCounters f n).pins = n.pins := rfl
@[simp] theorem mapPhoneCounters_windowCount (f : PhoneCounters → PhoneCounters) (n : Node) :
    (mapPhoneCounters f n).windowCount = n.windowCount := rfl
@[simp] theorem mapPhoneCounters_restart (f : PhoneCounters → PhoneCounters) (n : Node) :
    (mapPhoneCounters f n).restart = n.restart := rfl
@[simp] theorem mapPhoneCounters_fresh (f : PhoneCounters → PhoneCounters) (n : Node) :
    (mapPhoneCounters f n).fresh = n.fresh := rfl
@[simp] theorem mapPhoneCounters_bus (f : PhoneCounters → PhoneCounters) (n : Node) :
    (mapPhoneCounters f n).bus = n.bus := rfl
@[simp] theorem mapPhoneCounters_streams (f : PhoneCounters → PhoneCounters) (n : Node) :
    (mapPhoneCounters f n).streams = n.streams := rfl
@[simp] theorem mapPhoneCounters_mixer (f : PhoneCounters → PhoneCounters) (n : Node) :
    (mapPhoneCounters f n).mixer = n.mixer := rfl
@[simp] theorem mapPhoneCounters_meters (f : PhoneCounters → PhoneCounters) (n : Node) :
    (mapPhoneCounters f n).meters = n.meters := rfl
@[simp] theorem mapPhoneCounters_store (f : PhoneCounters → PhoneCounters) (n : Node) :
    (mapPhoneCounters f n).store = n.store := rfl
@[simp] theorem mapPhoneCounters_cue (f : PhoneCounters → PhoneCounters) (n : Node) :
    (mapPhoneCounters f n).cue = n.cue := rfl
@[simp] theorem mapPhoneCounters_air (f : PhoneCounters → PhoneCounters) (n : Node) :
    (mapPhoneCounters f n).air = n.air := rfl
@[simp] theorem mapPhoneCounters_take (f : PhoneCounters → PhoneCounters) (n : Node) :
    (mapPhoneCounters f n).take = n.take := rfl
@[simp] theorem mapPhoneCounters_alert (f : PhoneCounters → PhoneCounters) (n : Node) :
    (mapPhoneCounters f n).alert = n.alert := rfl
@[simp] theorem mapPhoneCounters_link (f : PhoneCounters → PhoneCounters) (n : Node) :
    (mapPhoneCounters f n).link = n.link := rfl
@[simp] theorem mapPhoneCounters_site (f : PhoneCounters → PhoneCounters) (n : Node) :
    (mapPhoneCounters f n).site = n.site := rfl
@[simp] theorem mapPhoneCounters_lines (f : PhoneCounters → PhoneCounters) (n : Node) :
    (mapPhoneCounters f n).lines = n.lines := rfl
@[simp] theorem mapPhoneCounters_audio (f : PhoneCounters → PhoneCounters) (n : Node) :
    (mapPhoneCounters f n).audio = n.audio := rfl

/-! ## mapTakeCounters -/

@[simp] theorem mapTakeCounters_take (f : TakeCounters → TakeCounters) (n : Node) :
    (mapTakeCounters f n).take = { n.take with counters := f n.take.counters } := rfl
@[simp] theorem mapTakeCounters_station (f : TakeCounters → TakeCounters) (n : Node) :
    (mapTakeCounters f n).station = n.station := rfl
@[simp] theorem mapTakeCounters_badSite (f : TakeCounters → TakeCounters) (n : Node) :
    (mapTakeCounters f n).badSite = n.badSite := rfl
@[simp] theorem mapTakeCounters_cfg (f : TakeCounters → TakeCounters) (n : Node) :
    (mapTakeCounters f n).cfg = n.cfg := rfl
@[simp] theorem mapTakeCounters_pins (f : TakeCounters → TakeCounters) (n : Node) :
    (mapTakeCounters f n).pins = n.pins := rfl
@[simp] theorem mapTakeCounters_windowCount (f : TakeCounters → TakeCounters) (n : Node) :
    (mapTakeCounters f n).windowCount = n.windowCount := rfl
@[simp] theorem mapTakeCounters_restart (f : TakeCounters → TakeCounters) (n : Node) :
    (mapTakeCounters f n).restart = n.restart := rfl
@[simp] theorem mapTakeCounters_fresh (f : TakeCounters → TakeCounters) (n : Node) :
    (mapTakeCounters f n).fresh = n.fresh := rfl
@[simp] theorem mapTakeCounters_bus (f : TakeCounters → TakeCounters) (n : Node) :
    (mapTakeCounters f n).bus = n.bus := rfl
@[simp] theorem mapTakeCounters_streams (f : TakeCounters → TakeCounters) (n : Node) :
    (mapTakeCounters f n).streams = n.streams := rfl
@[simp] theorem mapTakeCounters_mixer (f : TakeCounters → TakeCounters) (n : Node) :
    (mapTakeCounters f n).mixer = n.mixer := rfl
@[simp] theorem mapTakeCounters_meters (f : TakeCounters → TakeCounters) (n : Node) :
    (mapTakeCounters f n).meters = n.meters := rfl
@[simp] theorem mapTakeCounters_store (f : TakeCounters → TakeCounters) (n : Node) :
    (mapTakeCounters f n).store = n.store := rfl
@[simp] theorem mapTakeCounters_cue (f : TakeCounters → TakeCounters) (n : Node) :
    (mapTakeCounters f n).cue = n.cue := rfl
@[simp] theorem mapTakeCounters_air (f : TakeCounters → TakeCounters) (n : Node) :
    (mapTakeCounters f n).air = n.air := rfl
@[simp] theorem mapTakeCounters_phone (f : TakeCounters → TakeCounters) (n : Node) :
    (mapTakeCounters f n).phone = n.phone := rfl
@[simp] theorem mapTakeCounters_alert (f : TakeCounters → TakeCounters) (n : Node) :
    (mapTakeCounters f n).alert = n.alert := rfl
@[simp] theorem mapTakeCounters_link (f : TakeCounters → TakeCounters) (n : Node) :
    (mapTakeCounters f n).link = n.link := rfl
@[simp] theorem mapTakeCounters_site (f : TakeCounters → TakeCounters) (n : Node) :
    (mapTakeCounters f n).site = n.site := rfl
@[simp] theorem mapTakeCounters_lines (f : TakeCounters → TakeCounters) (n : Node) :
    (mapTakeCounters f n).lines = n.lines := rfl
@[simp] theorem mapTakeCounters_audio (f : TakeCounters → TakeCounters) (n : Node) :
    (mapTakeCounters f n).audio = n.audio := rfl

/-! ## mapSite -/

@[simp] theorem mapSite_site (f : Site → Site) (n : Node) :
    (mapSite f n).site = f n.site := rfl
@[simp] theorem mapSite_station (f : Site → Site) (n : Node) : (mapSite f n).station = n.station := rfl
@[simp] theorem mapSite_badSite (f : Site → Site) (n : Node) : (mapSite f n).badSite = n.badSite := rfl
@[simp] theorem mapSite_cfg (f : Site → Site) (n : Node) : (mapSite f n).cfg = n.cfg := rfl
@[simp] theorem mapSite_pins (f : Site → Site) (n : Node) : (mapSite f n).pins = n.pins := rfl
@[simp] theorem mapSite_windowCount (f : Site → Site) (n : Node) :
    (mapSite f n).windowCount = n.windowCount := rfl
@[simp] theorem mapSite_restart (f : Site → Site) (n : Node) : (mapSite f n).restart = n.restart := rfl
@[simp] theorem mapSite_fresh (f : Site → Site) (n : Node) : (mapSite f n).fresh = n.fresh := rfl
@[simp] theorem mapSite_bus (f : Site → Site) (n : Node) : (mapSite f n).bus = n.bus := rfl
@[simp] theorem mapSite_streams (f : Site → Site) (n : Node) : (mapSite f n).streams = n.streams := rfl
@[simp] theorem mapSite_mixer (f : Site → Site) (n : Node) : (mapSite f n).mixer = n.mixer := rfl
@[simp] theorem mapSite_meters (f : Site → Site) (n : Node) : (mapSite f n).meters = n.meters := rfl
@[simp] theorem mapSite_store (f : Site → Site) (n : Node) : (mapSite f n).store = n.store := rfl
@[simp] theorem mapSite_cue (f : Site → Site) (n : Node) : (mapSite f n).cue = n.cue := rfl
@[simp] theorem mapSite_air (f : Site → Site) (n : Node) : (mapSite f n).air = n.air := rfl
@[simp] theorem mapSite_phone (f : Site → Site) (n : Node) : (mapSite f n).phone = n.phone := rfl
@[simp] theorem mapSite_take (f : Site → Site) (n : Node) : (mapSite f n).take = n.take := rfl
@[simp] theorem mapSite_alert (f : Site → Site) (n : Node) : (mapSite f n).alert = n.alert := rfl
@[simp] theorem mapSite_link (f : Site → Site) (n : Node) : (mapSite f n).link = n.link := rfl
@[simp] theorem mapSite_lines (f : Site → Site) (n : Node) : (mapSite f n).lines = n.lines := rfl
@[simp] theorem mapSite_audio (f : Site → Site) (n : Node) : (mapSite f n).audio = n.audio := rfl

/-! ## setPlayer -/

@[simp] theorem setPlayer_cue (b : Bool) (p : Player) (n : Node) :
    (setPlayer b p n).cue = n.cue.setPlayer b p := rfl
@[simp] theorem setPlayer_station (b : Bool) (p : Player) (n : Node) :
    (setPlayer b p n).station = n.station := rfl
@[simp] theorem setPlayer_badSite (b : Bool) (p : Player) (n : Node) :
    (setPlayer b p n).badSite = n.badSite := rfl
@[simp] theorem setPlayer_cfg (b : Bool) (p : Player) (n : Node) : (setPlayer b p n).cfg = n.cfg := rfl
@[simp] theorem setPlayer_pins (b : Bool) (p : Player) (n : Node) : (setPlayer b p n).pins = n.pins := rfl
@[simp] theorem setPlayer_windowCount (b : Bool) (p : Player) (n : Node) :
    (setPlayer b p n).windowCount = n.windowCount := rfl
@[simp] theorem setPlayer_restart (b : Bool) (p : Player) (n : Node) :
    (setPlayer b p n).restart = n.restart := rfl
@[simp] theorem setPlayer_fresh (b : Bool) (p : Player) (n : Node) : (setPlayer b p n).fresh = n.fresh := rfl
@[simp] theorem setPlayer_bus (b : Bool) (p : Player) (n : Node) : (setPlayer b p n).bus = n.bus := rfl
@[simp] theorem setPlayer_streams (b : Bool) (p : Player) (n : Node) :
    (setPlayer b p n).streams = n.streams := rfl
@[simp] theorem setPlayer_mixer (b : Bool) (p : Player) (n : Node) : (setPlayer b p n).mixer = n.mixer := rfl
@[simp] theorem setPlayer_meters (b : Bool) (p : Player) (n : Node) :
    (setPlayer b p n).meters = n.meters := rfl
@[simp] theorem setPlayer_store (b : Bool) (p : Player) (n : Node) : (setPlayer b p n).store = n.store := rfl
@[simp] theorem setPlayer_air (b : Bool) (p : Player) (n : Node) : (setPlayer b p n).air = n.air := rfl
@[simp] theorem setPlayer_phone (b : Bool) (p : Player) (n : Node) : (setPlayer b p n).phone = n.phone := rfl
@[simp] theorem setPlayer_take (b : Bool) (p : Player) (n : Node) : (setPlayer b p n).take = n.take := rfl
@[simp] theorem setPlayer_alert (b : Bool) (p : Player) (n : Node) : (setPlayer b p n).alert = n.alert := rfl
@[simp] theorem setPlayer_link (b : Bool) (p : Player) (n : Node) : (setPlayer b p n).link = n.link := rfl
@[simp] theorem setPlayer_site (b : Bool) (p : Player) (n : Node) : (setPlayer b p n).site = n.site := rfl
@[simp] theorem setPlayer_lines (b : Bool) (p : Player) (n : Node) : (setPlayer b p n).lines = n.lines := rfl
@[simp] theorem setPlayer_audio (b : Bool) (p : Player) (n : Node) : (setPlayer b p n).audio = n.audio := rfl

/-! ## setFader -/

@[simp] theorem setFader_mixer (b : Bool) (r : Ramp) (n : Node) :
    (setFader b r n).mixer = (if b then { n.mixer with faderB := r } else { n.mixer with faderA := r }) := rfl
@[simp] theorem setFader_station (b : Bool) (r : Ramp) (n : Node) :
    (setFader b r n).station = n.station := rfl
@[simp] theorem setFader_badSite (b : Bool) (r : Ramp) (n : Node) :
    (setFader b r n).badSite = n.badSite := rfl
@[simp] theorem setFader_cfg (b : Bool) (r : Ramp) (n : Node) : (setFader b r n).cfg = n.cfg := rfl
@[simp] theorem setFader_pins (b : Bool) (r : Ramp) (n : Node) : (setFader b r n).pins = n.pins := rfl
@[simp] theorem setFader_windowCount (b : Bool) (r : Ramp) (n : Node) :
    (setFader b r n).windowCount = n.windowCount := rfl
@[simp] theorem setFader_restart (b : Bool) (r : Ramp) (n : Node) :
    (setFader b r n).restart = n.restart := rfl
@[simp] theorem setFader_fresh (b : Bool) (r : Ramp) (n : Node) : (setFader b r n).fresh = n.fresh := rfl
@[simp] theorem setFader_bus (b : Bool) (r : Ramp) (n : Node) : (setFader b r n).bus = n.bus := rfl
@[simp] theorem setFader_streams (b : Bool) (r : Ramp) (n : Node) :
    (setFader b r n).streams = n.streams := rfl
@[simp] theorem setFader_meters (b : Bool) (r : Ramp) (n : Node) : (setFader b r n).meters = n.meters := rfl
@[simp] theorem setFader_store (b : Bool) (r : Ramp) (n : Node) : (setFader b r n).store = n.store := rfl
@[simp] theorem setFader_cue (b : Bool) (r : Ramp) (n : Node) : (setFader b r n).cue = n.cue := rfl
@[simp] theorem setFader_air (b : Bool) (r : Ramp) (n : Node) : (setFader b r n).air = n.air := rfl
@[simp] theorem setFader_phone (b : Bool) (r : Ramp) (n : Node) : (setFader b r n).phone = n.phone := rfl
@[simp] theorem setFader_take (b : Bool) (r : Ramp) (n : Node) : (setFader b r n).take = n.take := rfl
@[simp] theorem setFader_alert (b : Bool) (r : Ramp) (n : Node) : (setFader b r n).alert = n.alert := rfl
@[simp] theorem setFader_link (b : Bool) (r : Ramp) (n : Node) : (setFader b r n).link = n.link := rfl
@[simp] theorem setFader_site (b : Bool) (r : Ramp) (n : Node) : (setFader b r n).site = n.site := rfl
@[simp] theorem setFader_lines (b : Bool) (r : Ramp) (n : Node) : (setFader b r n).lines = n.lines := rfl
@[simp] theorem setFader_audio (b : Bool) (r : Ramp) (n : Node) : (setFader b r n).audio = n.audio := rfl

/-! ## setTake -/

@[simp] theorem setTake_take (ch : Nat) (r : TakeRecord) (n : Node) :
    (setTake ch r n).take = n.take.setChannel ch r := rfl
@[simp] theorem setTake_station (ch : Nat) (r : TakeRecord) (n : Node) :
    (setTake ch r n).station = n.station := rfl
@[simp] theorem setTake_badSite (ch : Nat) (r : TakeRecord) (n : Node) :
    (setTake ch r n).badSite = n.badSite := rfl
@[simp] theorem setTake_cfg (ch : Nat) (r : TakeRecord) (n : Node) : (setTake ch r n).cfg = n.cfg := rfl
@[simp] theorem setTake_pins (ch : Nat) (r : TakeRecord) (n : Node) : (setTake ch r n).pins = n.pins := rfl
@[simp] theorem setTake_windowCount (ch : Nat) (r : TakeRecord) (n : Node) :
    (setTake ch r n).windowCount = n.windowCount := rfl
@[simp] theorem setTake_restart (ch : Nat) (r : TakeRecord) (n : Node) :
    (setTake ch r n).restart = n.restart := rfl
@[simp] theorem setTake_fresh (ch : Nat) (r : TakeRecord) (n : Node) : (setTake ch r n).fresh = n.fresh := rfl
@[simp] theorem setTake_bus (ch : Nat) (r : TakeRecord) (n : Node) : (setTake ch r n).bus = n.bus := rfl
@[simp] theorem setTake_streams (ch : Nat) (r : TakeRecord) (n : Node) :
    (setTake ch r n).streams = n.streams := rfl
@[simp] theorem setTake_mixer (ch : Nat) (r : TakeRecord) (n : Node) : (setTake ch r n).mixer = n.mixer := rfl
@[simp] theorem setTake_meters (ch : Nat) (r : TakeRecord) (n : Node) :
    (setTake ch r n).meters = n.meters := rfl
@[simp] theorem setTake_store (ch : Nat) (r : TakeRecord) (n : Node) : (setTake ch r n).store = n.store := rfl
@[simp] theorem setTake_cue (ch : Nat) (r : TakeRecord) (n : Node) : (setTake ch r n).cue = n.cue := rfl
@[simp] theorem setTake_air (ch : Nat) (r : TakeRecord) (n : Node) : (setTake ch r n).air = n.air := rfl
@[simp] theorem setTake_phone (ch : Nat) (r : TakeRecord) (n : Node) : (setTake ch r n).phone = n.phone := rfl
@[simp] theorem setTake_alert (ch : Nat) (r : TakeRecord) (n : Node) : (setTake ch r n).alert = n.alert := rfl
@[simp] theorem setTake_link (ch : Nat) (r : TakeRecord) (n : Node) : (setTake ch r n).link = n.link := rfl
@[simp] theorem setTake_site (ch : Nat) (r : TakeRecord) (n : Node) : (setTake ch r n).site = n.site := rfl
@[simp] theorem setTake_lines (ch : Nat) (r : TakeRecord) (n : Node) : (setTake ch r n).lines = n.lines := rfl
@[simp] theorem setTake_audio (ch : Nat) (r : TakeRecord) (n : Node) : (setTake ch r n).audio = n.audio := rfl

/-! ## setLine -/

@[simp] theorem setLine_station (i : Nat) (l : LineRecord) (n : Node) :
    (setLine i l n).station = n.station := rfl
@[simp] theorem setLine_badSite (i : Nat) (l : LineRecord) (n : Node) :
    (setLine i l n).badSite = n.badSite := rfl
@[simp] theorem setLine_cfg (i : Nat) (l : LineRecord) (n : Node) : (setLine i l n).cfg = n.cfg := rfl
@[simp] theorem setLine_pins (i : Nat) (l : LineRecord) (n : Node) : (setLine i l n).pins = n.pins := rfl
@[simp] theorem setLine_windowCount (i : Nat) (l : LineRecord) (n : Node) :
    (setLine i l n).windowCount = n.windowCount := rfl
@[simp] theorem setLine_restart (i : Nat) (l : LineRecord) (n : Node) :
    (setLine i l n).restart = n.restart := rfl
@[simp] theorem setLine_fresh (i : Nat) (l : LineRecord) (n : Node) : (setLine i l n).fresh = n.fresh := rfl
@[simp] theorem setLine_bus (i : Nat) (l : LineRecord) (n : Node) : (setLine i l n).bus = n.bus := rfl
@[simp] theorem setLine_streams (i : Nat) (l : LineRecord) (n : Node) :
    (setLine i l n).streams = n.streams := rfl
@[simp] theorem setLine_mixer (i : Nat) (l : LineRecord) (n : Node) : (setLine i l n).mixer = n.mixer := rfl
@[simp] theorem setLine_meters (i : Nat) (l : LineRecord) (n : Node) :
    (setLine i l n).meters = n.meters := rfl
@[simp] theorem setLine_store (i : Nat) (l : LineRecord) (n : Node) : (setLine i l n).store = n.store := rfl
@[simp] theorem setLine_cue (i : Nat) (l : LineRecord) (n : Node) : (setLine i l n).cue = n.cue := rfl
@[simp] theorem setLine_air (i : Nat) (l : LineRecord) (n : Node) : (setLine i l n).air = n.air := rfl
@[simp] theorem setLine_take (i : Nat) (l : LineRecord) (n : Node) : (setLine i l n).take = n.take := rfl
@[simp] theorem setLine_alert (i : Nat) (l : LineRecord) (n : Node) : (setLine i l n).alert = n.alert := rfl
@[simp] theorem setLine_link (i : Nat) (l : LineRecord) (n : Node) : (setLine i l n).link = n.link := rfl
@[simp] theorem setLine_site (i : Nat) (l : LineRecord) (n : Node) : (setLine i l n).site = n.site := rfl
@[simp] theorem setLine_lines (i : Nat) (l : LineRecord) (n : Node) : (setLine i l n).lines = n.lines := rfl
@[simp] theorem setLine_audio (i : Nat) (l : LineRecord) (n : Node) : (setLine i l n).audio = n.audio := rfl

/-! ## releaseClip -/

@[simp] theorem releaseClip_store (c : Nat) (n : Node) :
    (releaseClip c n).store = n.store.release c := rfl
@[simp] theorem releaseClip_station (c : Nat) (n : Node) : (releaseClip c n).station = n.station := rfl
@[simp] theorem releaseClip_badSite (c : Nat) (n : Node) : (releaseClip c n).badSite = n.badSite := rfl
@[simp] theorem releaseClip_cfg (c : Nat) (n : Node) : (releaseClip c n).cfg = n.cfg := rfl
@[simp] theorem releaseClip_pins (c : Nat) (n : Node) : (releaseClip c n).pins = n.pins := rfl
@[simp] theorem releaseClip_windowCount (c : Nat) (n : Node) :
    (releaseClip c n).windowCount = n.windowCount := rfl
@[simp] theorem releaseClip_restart (c : Nat) (n : Node) : (releaseClip c n).restart = n.restart := rfl
@[simp] theorem releaseClip_fresh (c : Nat) (n : Node) : (releaseClip c n).fresh = n.fresh := rfl
@[simp] theorem releaseClip_bus (c : Nat) (n : Node) : (releaseClip c n).bus = n.bus := rfl
@[simp] theorem releaseClip_streams (c : Nat) (n : Node) : (releaseClip c n).streams = n.streams := rfl
@[simp] theorem releaseClip_mixer (c : Nat) (n : Node) : (releaseClip c n).mixer = n.mixer := rfl
@[simp] theorem releaseClip_meters (c : Nat) (n : Node) : (releaseClip c n).meters = n.meters := rfl
@[simp] theorem releaseClip_cue (c : Nat) (n : Node) : (releaseClip c n).cue = n.cue := rfl
@[simp] theorem releaseClip_air (c : Nat) (n : Node) : (releaseClip c n).air = n.air := rfl
@[simp] theorem releaseClip_phone (c : Nat) (n : Node) : (releaseClip c n).phone = n.phone := rfl
@[simp] theorem releaseClip_take (c : Nat) (n : Node) : (releaseClip c n).take = n.take := rfl
@[simp] theorem releaseClip_alert (c : Nat) (n : Node) : (releaseClip c n).alert = n.alert := rfl
@[simp] theorem releaseClip_link (c : Nat) (n : Node) : (releaseClip c n).link = n.link := rfl
@[simp] theorem releaseClip_site (c : Nat) (n : Node) : (releaseClip c n).site = n.site := rfl
@[simp] theorem releaseClip_lines (c : Nat) (n : Node) : (releaseClip c n).lines = n.lines := rfl
@[simp] theorem releaseClip_audio (c : Nat) (n : Node) : (releaseClip c n).audio = n.audio := rfl

/-! ## restage -/

@[simp] theorem restage_lines (n : Node) :
    (restage n).lines = { n.lines with staging := n.pattern } := rfl
@[simp] theorem restage_station (n : Node) : (restage n).station = n.station := rfl
@[simp] theorem restage_badSite (n : Node) : (restage n).badSite = n.badSite := rfl
@[simp] theorem restage_cfg (n : Node) : (restage n).cfg = n.cfg := rfl
@[simp] theorem restage_pins (n : Node) : (restage n).pins = n.pins := rfl
@[simp] theorem restage_windowCount (n : Node) : (restage n).windowCount = n.windowCount := rfl
@[simp] theorem restage_restart (n : Node) : (restage n).restart = n.restart := rfl
@[simp] theorem restage_fresh (n : Node) : (restage n).fresh = n.fresh := rfl
@[simp] theorem restage_bus (n : Node) : (restage n).bus = n.bus := rfl
@[simp] theorem restage_streams (n : Node) : (restage n).streams = n.streams := rfl
@[simp] theorem restage_mixer (n : Node) : (restage n).mixer = n.mixer := rfl
@[simp] theorem restage_meters (n : Node) : (restage n).meters = n.meters := rfl
@[simp] theorem restage_store (n : Node) : (restage n).store = n.store := rfl
@[simp] theorem restage_cue (n : Node) : (restage n).cue = n.cue := rfl
@[simp] theorem restage_air (n : Node) : (restage n).air = n.air := rfl
@[simp] theorem restage_phone (n : Node) : (restage n).phone = n.phone := rfl
@[simp] theorem restage_take (n : Node) : (restage n).take = n.take := rfl
@[simp] theorem restage_alert (n : Node) : (restage n).alert = n.alert := rfl
@[simp] theorem restage_link (n : Node) : (restage n).link = n.link := rfl
@[simp] theorem restage_site (n : Node) : (restage n).site = n.site := rfl
@[simp] theorem restage_audio (n : Node) : (restage n).audio = n.audio := rfl

/-! ## tallyApply -/

@[simp] theorem tallyApply_lines (n : Node) :
    (tallyApply n).lines = { n.lines with outputs := n.lines.staging } := rfl
@[simp] theorem tallyApply_station (n : Node) : (tallyApply n).station = n.station := rfl
@[simp] theorem tallyApply_badSite (n : Node) : (tallyApply n).badSite = n.badSite := rfl
@[simp] theorem tallyApply_cfg (n : Node) : (tallyApply n).cfg = n.cfg := rfl
@[simp] theorem tallyApply_pins (n : Node) : (tallyApply n).pins = n.pins := rfl
@[simp] theorem tallyApply_windowCount (n : Node) : (tallyApply n).windowCount = n.windowCount := rfl
@[simp] theorem tallyApply_restart (n : Node) : (tallyApply n).restart = n.restart := rfl
@[simp] theorem tallyApply_fresh (n : Node) : (tallyApply n).fresh = n.fresh := rfl
@[simp] theorem tallyApply_bus (n : Node) : (tallyApply n).bus = n.bus := rfl
@[simp] theorem tallyApply_streams (n : Node) : (tallyApply n).streams = n.streams := rfl
@[simp] theorem tallyApply_mixer (n : Node) : (tallyApply n).mixer = n.mixer := rfl
@[simp] theorem tallyApply_meters (n : Node) : (tallyApply n).meters = n.meters := rfl
@[simp] theorem tallyApply_store (n : Node) : (tallyApply n).store = n.store := rfl
@[simp] theorem tallyApply_cue (n : Node) : (tallyApply n).cue = n.cue := rfl
@[simp] theorem tallyApply_air (n : Node) : (tallyApply n).air = n.air := rfl
@[simp] theorem tallyApply_phone (n : Node) : (tallyApply n).phone = n.phone := rfl
@[simp] theorem tallyApply_take (n : Node) : (tallyApply n).take = n.take := rfl
@[simp] theorem tallyApply_alert (n : Node) : (tallyApply n).alert = n.alert := rfl
@[simp] theorem tallyApply_link (n : Node) : (tallyApply n).link = n.link := rfl
@[simp] theorem tallyApply_site (n : Node) : (tallyApply n).site = n.site := rfl
@[simp] theorem tallyApply_audio (n : Node) : (tallyApply n).audio = n.audio := rfl

/-! ## refuseKey -/

@[simp] theorem refuseKey_station (key : Nat) (fn : KeyFn) (r : KeyResult) (n : Node) :
    (refuseKey key fn r n).station = n.station := rfl
@[simp] theorem refuseKey_badSite (key : Nat) (fn : KeyFn) (r : KeyResult) (n : Node) :
    (refuseKey key fn r n).badSite = n.badSite := rfl
@[simp] theorem refuseKey_cfg (key : Nat) (fn : KeyFn) (r : KeyResult) (n : Node) :
    (refuseKey key fn r n).cfg = n.cfg := rfl
@[simp] theorem refuseKey_pins (key : Nat) (fn : KeyFn) (r : KeyResult) (n : Node) :
    (refuseKey key fn r n).pins = n.pins := rfl
@[simp] theorem refuseKey_windowCount (key : Nat) (fn : KeyFn) (r : KeyResult) (n : Node) :
    (refuseKey key fn r n).windowCount = n.windowCount := rfl
@[simp] theorem refuseKey_restart (key : Nat) (fn : KeyFn) (r : KeyResult) (n : Node) :
    (refuseKey key fn r n).restart = n.restart := rfl
@[simp] theorem refuseKey_fresh (key : Nat) (fn : KeyFn) (r : KeyResult) (n : Node) :
    (refuseKey key fn r n).fresh = n.fresh := rfl
@[simp] theorem refuseKey_bus (key : Nat) (fn : KeyFn) (r : KeyResult) (n : Node) :
    (refuseKey key fn r n).bus = n.bus := rfl
@[simp] theorem refuseKey_streams (key : Nat) (fn : KeyFn) (r : KeyResult) (n : Node) :
    (refuseKey key fn r n).streams = n.streams := rfl
@[simp] theorem refuseKey_mixer (key : Nat) (fn : KeyFn) (r : KeyResult) (n : Node) :
    (refuseKey key fn r n).mixer = n.mixer := rfl
@[simp] theorem refuseKey_meters (key : Nat) (fn : KeyFn) (r : KeyResult) (n : Node) :
    (refuseKey key fn r n).meters = n.meters := rfl
@[simp] theorem refuseKey_store (key : Nat) (fn : KeyFn) (r : KeyResult) (n : Node) :
    (refuseKey key fn r n).store = n.store := rfl
@[simp] theorem refuseKey_cue (key : Nat) (fn : KeyFn) (r : KeyResult) (n : Node) :
    (refuseKey key fn r n).cue = n.cue := rfl
@[simp] theorem refuseKey_air (key : Nat) (fn : KeyFn) (r : KeyResult) (n : Node) :
    (refuseKey key fn r n).air = n.air := rfl
@[simp] theorem refuseKey_phone (key : Nat) (fn : KeyFn) (r : KeyResult) (n : Node) :
    (refuseKey key fn r n).phone = n.phone := rfl
@[simp] theorem refuseKey_take (key : Nat) (fn : KeyFn) (r : KeyResult) (n : Node) :
    (refuseKey key fn r n).take = n.take := rfl
@[simp] theorem refuseKey_alert (key : Nat) (fn : KeyFn) (r : KeyResult) (n : Node) :
    (refuseKey key fn r n).alert = n.alert := rfl
@[simp] theorem refuseKey_link (key : Nat) (fn : KeyFn) (r : KeyResult) (n : Node) :
    (refuseKey key fn r n).link = n.link := rfl
@[simp] theorem refuseKey_site (key : Nat) (fn : KeyFn) (r : KeyResult) (n : Node) :
    (refuseKey key fn r n).site = n.site := rfl
@[simp] theorem refuseKey_audio (key : Nat) (fn : KeyFn) (r : KeyResult) (n : Node) :
    (refuseKey key fn r n).audio = n.audio := rfl

/-! ## refreshStanding -/

@[simp] theorem refreshStanding_air (n : Node) :
    (refreshStanding n).air =
      { n.air with
        ownView := n.usesOwnView, standing := n.standingNow, waiting := n.waitingNow,
        alertOnAir := n.alertOnAirNow } := rfl
@[simp] theorem refreshStanding_cue (n : Node) :
    (refreshStanding n).cue =
      if n.standingNow = n.air.standing then n.cue else { n.cue with standing := some n.standingNow } := rfl
@[simp] theorem refreshStanding_station (n : Node) : (refreshStanding n).station = n.station := rfl
@[simp] theorem refreshStanding_badSite (n : Node) : (refreshStanding n).badSite = n.badSite := rfl
@[simp] theorem refreshStanding_cfg (n : Node) : (refreshStanding n).cfg = n.cfg := rfl
@[simp] theorem refreshStanding_pins (n : Node) : (refreshStanding n).pins = n.pins := rfl
@[simp] theorem refreshStanding_windowCount (n : Node) : (refreshStanding n).windowCount = n.windowCount := rfl
@[simp] theorem refreshStanding_restart (n : Node) : (refreshStanding n).restart = n.restart := rfl
@[simp] theorem refreshStanding_fresh (n : Node) : (refreshStanding n).fresh = n.fresh := rfl
@[simp] theorem refreshStanding_bus (n : Node) : (refreshStanding n).bus = n.bus := rfl
@[simp] theorem refreshStanding_streams (n : Node) : (refreshStanding n).streams = n.streams := rfl
@[simp] theorem refreshStanding_mixer (n : Node) : (refreshStanding n).mixer = n.mixer := rfl
@[simp] theorem refreshStanding_meters (n : Node) : (refreshStanding n).meters = n.meters := rfl
@[simp] theorem refreshStanding_store (n : Node) : (refreshStanding n).store = n.store := rfl
@[simp] theorem refreshStanding_phone (n : Node) : (refreshStanding n).phone = n.phone := rfl
@[simp] theorem refreshStanding_take (n : Node) : (refreshStanding n).take = n.take := rfl
@[simp] theorem refreshStanding_alert (n : Node) : (refreshStanding n).alert = n.alert := rfl
@[simp] theorem refreshStanding_link (n : Node) : (refreshStanding n).link = n.link := rfl
@[simp] theorem refreshStanding_site (n : Node) : (refreshStanding n).site = n.site := rfl
@[simp] theorem refreshStanding_lines (n : Node) : (refreshStanding n).lines = n.lines := rfl
@[simp] theorem refreshStanding_audio (n : Node) : (refreshStanding n).audio = n.audio := rfl

/-! ## openHoldFeed -/

@[simp] theorem openHoldFeed_phone (n : Node) :
    (openHoldFeed n).phone = { n.phone with lines := n.phone.lines.map (fun l => { l with holdLater := false }) } := rfl
@[simp] theorem openHoldFeed_station (n : Node) : (openHoldFeed n).station = n.station := rfl
@[simp] theorem openHoldFeed_badSite (n : Node) : (openHoldFeed n).badSite = n.badSite := rfl
@[simp] theorem openHoldFeed_cfg (n : Node) : (openHoldFeed n).cfg = n.cfg := rfl
@[simp] theorem openHoldFeed_pins (n : Node) : (openHoldFeed n).pins = n.pins := rfl
@[simp] theorem openHoldFeed_windowCount (n : Node) : (openHoldFeed n).windowCount = n.windowCount := rfl
@[simp] theorem openHoldFeed_restart (n : Node) : (openHoldFeed n).restart = n.restart := rfl
@[simp] theorem openHoldFeed_fresh (n : Node) : (openHoldFeed n).fresh = n.fresh := rfl
@[simp] theorem openHoldFeed_bus (n : Node) : (openHoldFeed n).bus = n.bus := rfl
@[simp] theorem openHoldFeed_streams (n : Node) : (openHoldFeed n).streams = n.streams := rfl
@[simp] theorem openHoldFeed_mixer (n : Node) : (openHoldFeed n).mixer = n.mixer := rfl
@[simp] theorem openHoldFeed_meters (n : Node) : (openHoldFeed n).meters = n.meters := rfl
@[simp] theorem openHoldFeed_store (n : Node) : (openHoldFeed n).store = n.store := rfl
@[simp] theorem openHoldFeed_cue (n : Node) : (openHoldFeed n).cue = n.cue := rfl
@[simp] theorem openHoldFeed_air (n : Node) : (openHoldFeed n).air = n.air := rfl
@[simp] theorem openHoldFeed_take (n : Node) : (openHoldFeed n).take = n.take := rfl
@[simp] theorem openHoldFeed_alert (n : Node) : (openHoldFeed n).alert = n.alert := rfl
@[simp] theorem openHoldFeed_link (n : Node) : (openHoldFeed n).link = n.link := rfl
@[simp] theorem openHoldFeed_site (n : Node) : (openHoldFeed n).site = n.site := rfl
@[simp] theorem openHoldFeed_lines (n : Node) : (openHoldFeed n).lines = n.lines := rfl
@[simp] theorem openHoldFeed_audio (n : Node) : (openHoldFeed n).audio = n.audio := rfl

/-! ## Node.settled -/

@[simp] theorem Node.settled_air (n : Node) : n.settled.air = (refreshStanding n).air := rfl
@[simp] theorem Node.settled_cue (n : Node) : n.settled.cue = (refreshStanding n).cue := rfl
@[simp] theorem Node.settled_lines (n : Node) :
    n.settled.lines = { n.lines with staging := (refreshStanding n).pattern } := rfl
@[simp] theorem Node.settled_station (n : Node) : (n.settled).station = n.station := rfl
@[simp] theorem Node.settled_badSite (n : Node) : (n.settled).badSite = n.badSite := rfl
@[simp] theorem Node.settled_cfg (n : Node) : (n.settled).cfg = n.cfg := rfl
@[simp] theorem Node.settled_pins (n : Node) : (n.settled).pins = n.pins := rfl
@[simp] theorem Node.settled_windowCount (n : Node) : (n.settled).windowCount = n.windowCount := rfl
@[simp] theorem Node.settled_restart (n : Node) : (n.settled).restart = n.restart := rfl
@[simp] theorem Node.settled_fresh (n : Node) : (n.settled).fresh = n.fresh := rfl
@[simp] theorem Node.settled_bus (n : Node) : (n.settled).bus = n.bus := rfl
@[simp] theorem Node.settled_streams (n : Node) : (n.settled).streams = n.streams := rfl
@[simp] theorem Node.settled_mixer (n : Node) : (n.settled).mixer = n.mixer := rfl
@[simp] theorem Node.settled_meters (n : Node) : (n.settled).meters = n.meters := rfl
@[simp] theorem Node.settled_store (n : Node) : (n.settled).store = n.store := rfl
@[simp] theorem Node.settled_phone (n : Node) : (n.settled).phone = n.phone := rfl
@[simp] theorem Node.settled_take (n : Node) : (n.settled).take = n.take := rfl
@[simp] theorem Node.settled_alert (n : Node) : (n.settled).alert = n.alert := rfl
@[simp] theorem Node.settled_link (n : Node) : (n.settled).link = n.link := rfl
@[simp] theorem Node.settled_site (n : Node) : (n.settled).site = n.site := rfl
@[simp] theorem Node.settled_audio (n : Node) : (n.settled).audio = n.audio := rfl

end Sys2Proof.Machine
end

