-- ==== Sys2Proof/Laws/Air.lean ====
section
/-! SUPPORT. What the operations of the air unit can change (chapter 6), said once: the air unit's tables
but for the own claim, the listen table and its slots, the slots' meter points, and what is handed to the
link unit. -/

namespace Sys2Proof.Machine

/-- A change within the reach of the air unit's evaluation and selection. -/
def AirReach (n m : Node) : Prop :=
  m = { n with air := m.air, streams := m.streams, meters := m.meters, link := m.link } ∧
    m.air.ownLevel = n.air.ownLevel ∧ m.air.ownSerial = n.air.ownSerial ∧
    m.streams.outgoing = n.streams.outgoing

theorem AirReach.refl (n : Node) : AirReach n n := ⟨rfl, rfl, rfl, rfl⟩

theorem AirReach.trans {a b c : Node} (h : AirReach a b) (k : AirReach b c) : AirReach a c := by
  obtain ⟨h1, h2, h3, h4⟩ := h
  obtain ⟨k1, k2, k3, k4⟩ := k
  refine ⟨?_, k2.trans h2, k3.trans h3, k4.trans h4⟩
  rw [k1, h1]

theorem mapEntry_reach (k : Nat) (f : ClaimEntry → ClaimEntry) (n : Node) : AirReach n (mapEntry k f n) := by
  unfold mapEntry Air.modifyEntry; split <;> exact ⟨rfl, rfl, rfl, rfl⟩

theorem mapClaim_reach (k : Nat) (f : Claim → Claim) (n : Node) : AirReach n (mapClaim k f n) :=
  mapEntry_reach _ _ _

theorem setClaimState_reach (k : Nat) (st : ClaimState) (n : Node) : AirReach n (setClaimState k st n) :=
  mapClaim_reach _ _ _

theorem mapAirCounters_reach (f : AirCounters → AirCounters) (n : Node) :
    AirReach n (mapAirCounters f n) := ⟨rfl, rfl, rfl, rfl⟩

theorem handOver_reach (n : Node) : AirReach n (handOver n) := by
  unfold handOver; split <;> exact ⟨rfl, rfl, rfl, rfl⟩

theorem passOut_reach (i : Option Nat) (n : Node) : AirReach n (passOut i n) := by
  unfold passOut; split
  · split <;> exact ⟨rfl, rfl, rfl, rfl⟩
  · exact .refl n

theorem changePurpose_reach (i : Nat) (p : Purpose) (n : Node) : AirReach n (changePurpose i p n) := by
  unfold changePurpose; simp only []; split <;> exact ⟨rfl, rfl, rfl, rfl⟩

theorem addListen_reach (s i : Nat) (p : Purpose) (n : Node) : AirReach n (addListen s i p n).2 := by
  unfold addListen; split <;> exact ⟨rfl, rfl, rfl, rfl⟩

theorem removeListen_reach (i : Nat) (n : Node) : AirReach n (removeListen i n) := by
  unfold removeListen; split <;> exact ⟨rfl, rfl, rfl, rfl⟩

theorem obtainFollow_reach (k : Nat) (n : Node) : AirReach n (obtainFollow k n).2 := by
  unfold obtainFollow
  split
  · next i _ =>
    have h : AirReach n { n with air := { n.air with outgoing := n.air.outgoing.filter (fun m => decide (m.entry ≠ i)) } } :=
      ⟨rfl, rfl, rfl, rfl⟩
    show AirReach n (mapEntry _ _ (changePurpose _ _ _))
    exact (h.trans (changePurpose_reach _ _ _)).trans (mapEntry_reach _ _ _)
  · have added := addListen_reach k 0 .follow n
    split
    · next h =>
      rw [h] at added
      show AirReach n (mapEntry _ _ _)
      exact AirReach.trans added (mapEntry_reach _ _ _)
    · exact added

theorem markUnreachable_reach (k : Nat) (why : AddFailure) (n : Node) : AirReach n (markUnreachable k why n) :=
  (mapClaim_reach _ _ _).trans (mapAirCounters_reach _ _)

theorem dropListen_reach (k : Nat) (n : Node) : AirReach n (dropListen k n) := by
  unfold dropListen; split
  · split
    · exact .refl n
    · exact removeListen_reach _ _
  · exact .refl n

theorem takeAir_reach (k : Nat) (c : Claim) (n : Node) : AirReach n (takeAir k c n) :=
  AirReach.trans (b := { n with air := { n.air with holder := _ } }) ⟨rfl, rfl, rfl, rfl⟩
    (setClaimState_reach _ _ _)

theorem holderOut_reach (n : Node) : AirReach n (holderOut n) := passOut_reach _ _

theorem pushHolder_reach (n : Node) : AirReach n (pushHolder n) := by
  have h : ∀ r : StackRecord,
      AirReach n (setClaimState n.air.holder.station .stacked
        (holderOut { n with air := { n.air with stack := r :: n.air.stack } })) := fun r =>
    ((show AirReach n { n with air := { n.air with stack := r :: n.air.stack } } from
      ⟨rfl, rfl, rfl, rfl⟩).trans (holderOut_reach _)).trans (setClaimState_reach _ _ _)
  unfold pushHolder; simp only []; split
  · exact h _
  · exact h _
  · exact .refl n

theorem followFor_reach (k : Nat) (c : Claim) (n : Node) : AirReach n (followFor k c n).2 := by
  unfold followFor; split
  · have := obtainFollow_reach k n
    split
    · next h => rw [h] at this; exact this
    · next h => rw [h] at this; exact this
  · exact .refl n

theorem evaluate_reach (k : Nat) (n : Node) : AirReach n (evaluate k n) := by
  unfold evaluate; split
  · exact .refl n
  · next c _ =>
    split
    · have := followFor_reach k c n
      split
      · next h => rw [h] at this; exact this.trans (markUnreachable_reach _ _ _)
      · next h =>
        rw [h] at this
        exact (((this.trans (pushHolder_reach _)).trans (takeAir_reach _ _ _)).trans
          (mapAirCounters_reach _ _)).trans (handOver_reach _)
    · exact .refl n

theorem discardTop_reach (t : StackRecord) (rest : List StackRecord) (n : Node) :
    AirReach n (discardTop t rest n) :=
  ((show AirReach n { n with air := { n.air with stack := rest } } from ⟨rfl, rfl, rfl, rfl⟩).trans
    (setClaimState_reach _ _ _)).trans (mapAirCounters_reach _ _)

theorem resumeTop_reach (t : StackRecord) (rest : List StackRecord) (n : Node) :
    AirReach n (resumeTop t rest n) := by
  unfold resumeTop; simp only []
  refine AirReach.trans ?_ (mapAirCounters_reach _ _)
  refine AirReach.trans ?_ (setClaimState_reach _ _ _)
  have h0 : AirReach n { n with air := { n.air with stack := rest } } := ⟨rfl, rfl, rfl, rfl⟩
  have h1 : AirReach n
      (if (n.cfg.roles.link && !t.isOwn) = true then
        (obtainFollow t.station { n with air := { n.air with stack := rest } }).2
      else { n with air := { n.air with stack := rest } }) := by
    split
    · exact h0.trans (obtainFollow_reach _ _)
    · exact h0
  exact h1.trans ⟨rfl, rfl, rfl, rfl⟩

theorem fallBack_reach (n : Node) : AirReach n (fallBack n) := ⟨rfl, rfl, rfl, rfl⟩

theorem takeWaiting_reach (k : Nat) (c : Claim) (n : Node) : AirReach n (takeWaiting k c n) :=
  (takeAir_reach _ _ _).trans (mapAirCounters_reach _ _)

theorem selectLoop_reach (fuel : Nat) (n : Node) : AirReach n (selectLoop fuel n) := by
  induction fuel generalizing n with
  | zero => exact fallBack_reach n
  | succ fuel ih =>
    have waiting : ∀ (k : Nat) (c : Claim),
        AirReach n
          (match followFor k c n with
          | (some why, m) => selectLoop fuel (markUnreachable k why m)
          | (none, m) => takeWaiting k c m) := by
      intro k c
      have := followFor_reach k c n
      split
      · next h => rw [h] at this; exact (this.trans (markUnreachable_reach _ _ _)).trans (ih _)
      · next h => rw [h] at this; exact this.trans (takeWaiting_reach _ _ _)
    unfold selectLoop
    split
    · split
      · exact (discardTop_reach _ _ _).trans (ih _)
      · split
        · split
          · exact waiting _ _
          · exact resumeTop_reach _ _ _
        · exact resumeTop_reach _ _ _
    · split
      · exact waiting _ _
      · exact fallBack_reach n

theorem select_reach (n : Node) : AirReach n (select n) := by
  unfold select; split
  · exact (selectLoop_reach _ _).trans (handOver_reach _)
  · exact .refl n

theorem newArrival_reach (k : Nat) (n : Node) : AirReach n (newArrival k n) :=
  AirReach.trans (b := { n with air := { n.air with arrivals := n.air.arrivals + 1 } })
    ⟨rfl, rfl, rfl, rfl⟩ (mapClaim_reach _ _ _)

theorem fillEntry_reach (k : Nat) (kind : ClaimKind) (level alertId : Nat) (n : Node) :
    AirReach n (fillEntry k kind level alertId n) :=
  AirReach.trans (b := { n with air := { n.air with arrivals := n.air.arrivals + 1 } })
    ⟨rfl, rfl, rfl, rfl⟩ (mapEntry_reach _ _ _)

theorem setLevel_reach (k level : Nat) (n : Node) : AirReach n (setLevel k level n) := mapClaim_reach _ _ _

theorem unstack_reach (k : Nat) (n : Node) : AirReach n (unstack k n) := ⟨rfl, rfl, rfl, rfl⟩

theorem setStackArrival_reach (k : Nat) (x : Count32) (n : Node) : AirReach n (setStackArrival k x n) :=
  ⟨rfl, rfl, rfl, rfl⟩

theorem renew_reach (k : Nat) (c : Claim) (level : Nat) (n : Node) : AirReach n (renew k c level n) := by
  have h : AirReach n (setLevel k level (newArrival k n)) := (newArrival_reach k n).trans (setLevel_reach _ _ _)
  unfold renew; simp only []
  split
  · split
    · exact h.trans (evaluate_reach _ _)
    · exact h
  · split
    · exact ((h.trans (holderOut_reach _)).trans (setClaimState_reach _ _ _)).trans (select_reach _)
    · exact h.trans ⟨rfl, rfl, rfl, rfl⟩
  · split
    · exact h.trans (setStackArrival_reach _ _ _)
    · split
      · exact ((h.trans (unstack_reach _ _)).trans (setClaimState_reach _ _ _)).trans (evaluate_reach _ _)
      · exact (h.trans (unstack_reach _ _)).trans (setClaimState_reach _ _ _)
  · exact h
  · exact (h.trans (setClaimState_reach _ _ _)).trans (evaluate_reach _ _)

theorem emptyEntry_reach (k : Nat) (n : Node) : AirReach n (emptyEntry k n) := mapEntry_reach _ _ _

theorem removeClaim_reach (k : Nat) (n : Node) : AirReach n (removeClaim k n) := by
  unfold removeClaim; split
  · exact .refl n
  · split
    · exact ((unstack_reach _ _).trans (dropListen_reach _ _)).trans (emptyEntry_reach _ _)
    · exact ((holderOut_reach _).trans (emptyEntry_reach _ _)).trans (select_reach _)
    · exact (dropListen_reach _ _).trans (emptyEntry_reach _ _)

/-- A claim applied to an entry stays within the air unit's reach, and leaves the own claim as it is. -/
theorem applyClaim_reach (k : Nat) (kind : ClaimKind) (level : Nat) (serial : Byte) (n : Node) :
    AirReach n (applyClaim k kind level serial n) := by
  have h : AirReach n (mapEntry k (fun e => { e with lastSerial := some serial }) n) := mapEntry_reach _ _ _
  unfold applyClaim; simp only []
  split
  · exact h.trans (removeClaim_reach _ _)
  · split
    · exact (h.trans (fillEntry_reach _ _ _ _ _)).trans (evaluate_reach _ _)
    · exact h.trans (renew_reach _ _ _ _)

theorem claimHeard_reach (k level : Nat) (serial : Byte) (n : Node) : AirReach n (claimHeard k level serial n) := by
  unfold claimHeard; split
  · exact mapAirCounters_reach _ _
  · split
    · exact applyClaim_reach _ _ _ _ _
    · simp only []; split
      · exact .refl n
      · split
        · exact mapAirCounters_reach _ _
        · exact applyClaim_reach _ _ _ _ _

theorem stationAbsent_reach (k : Nat) (n : Node) : AirReach n (stationAbsent k n) :=
  (mapEntry_reach _ _ _).trans (removeClaim_reach _ _)

theorem alertClaims_reach (id : Nat) (n : Node) : AirReach n (alertClaims id n) :=
  (fillEntry_reach _ _ _ _ _).trans (evaluate_reach _ _)

theorem alertReleases_reach (n : Node) : AirReach n (alertReleases n) := removeClaim_reach _ _

/-- The standing worked out again after a change within the air unit's reach stays within it, but for the
report to the cue engine. -/
theorem AirReach.standing {n m : Node} (h : AirReach n m) :
    AirReach n { refreshStanding m with cue := n.cue } := by
  obtain ⟨h1, h2, h3, h4⟩ := h
  refine ⟨?_, h2, h3, h4⟩
  rw [h1]; rfl

/-- What working the standing out again does to the cue engine: at most the report of a change (R100). -/
theorem refreshStanding_report (n : Node) :
    (refreshStanding n).cue = n.cue ∨ (refreshStanding n).cue = { n.cue with standing := some n.standingNow } := by
  rw [refreshStanding_cue]; split
  · exact .inl rfl
  · exact .inr rfl

theorem markHolderSilent_reach (n : Node) : AirReach n { markHolderSilent n with cue := n.cue } := by
  unfold markHolderSilent; split
  · exact ((((holderOut_reach _).trans (setClaimState_reach _ _ _)).trans (mapAirCounters_reach _ _)).trans
      (select_reach _)).standing
  · exact .refl n

theorem recover_reach (k : Nat) (n : Node) : AirReach n { recover k n with cue := n.cue } := by
  unfold recover; split
  · exact (((setClaimState_reach _ _ _).trans (mapAirCounters_reach _ _)).trans (evaluate_reach _ _)).standing
  · exact .refl n

end Sys2Proof.Machine
end

