-- ==== Sys2Proof/Laws/Boundary.lean ====
section
/-! SUPPORT. What the shapes of a meaning do, said once: between two boundaries, at a stage of a boundary,
and for each row that is one event of a boundary. -/

namespace Sys2Proof.Machine

theorem runStages_nil (m : Memory) (n : Node) : runStages m [] n = n := rfl

theorem runStages_cons (m : Memory) (st : Stage) (sts : List Stage) (n : Node) :
    runStages m (st :: sts) n = runStages m sts (runStage m n st) := rfl

theorem runStages_append (m : Memory) (a b : List Stage) (n : Node) :
    runStages m (a ++ b) n = runStages m b (runStages m a n) := by
  simp [runStages, List.foldl_append]

@[simp] theorem finishBoundary_mem (s : State) : (finishBoundary s).mem = s.mem := rfl
@[simp] theorem finishBoundary_pending (s : State) : (finishBoundary s).pending = s.pending := rfl
@[simp] theorem finishBoundary_agenda (s : State) : (finishBoundary s).agenda = [] := rfl

theorem finishBoundary_quiet {s : State} (h : Quiet s) : finishBoundary s = s := by
  cases s; simp only [Quiet] at h; subst h; rfl

theorem finishBoundary_idem (s : State) : finishBoundary (finishBoundary s) = finishBoundary s :=
  finishBoundary_quiet rfl

@[simp] theorem settle_mem (s : State) : (settle s).mem = s.mem := rfl
@[simp] theorem settle_pending (s : State) : (settle s).pending = s.pending := rfl
@[simp] theorem settle_agenda (s : State) : (settle s).agenda = s.agenda := rfl
@[simp] theorem settle_node (s : State) : (settle s).node = s.node.settled := rfl

/-- A stage that has no work at a boundary leaves the part as it is. -/
theorem runStage_idle {m : Memory} {n : Node} {st : Stage} (h : stageDue st n = false) :
    runStage m n st = n := by
  unfold runStage; rw [h]; rfl

/-- A stage that has work runs, and the standing and the staging pattern follow (R125, R196). -/
theorem runStage_due {m : Memory} {n : Node} {st : Stage} (h : stageDue st n = true) :
    runStage m n st = (stageRun st m n).settled := by
  unfold runStage; rw [if_pos h]

theorem onNode_quiet {s : State} (h : Quiet s) (f : Memory → Node → Node) :
    onNode f s = settle { s with node := f s.mem s.node } := by
  unfold onNode; simp only [finishBoundary_quiet h]

theorem onPacket_quiet {s : State} (h : Quiet s) (f : Node → Node × Option SegmentWrite) :
    onPacket f s =
      settle { s with mem := applySegment (f s.node).2 s.mem, node := (f s.node).1 } := by
  unfold onPacket; simp only [finishBoundary_quiet h]

theorem onSitePort_quiet {s : State} (h : Quiet s) (bs : List Byte) :
    onSitePort bs s =
      settle { s with mem := (siteBytes bs s.mem s.node).1, node := (siteBytes bs s.mem s.node).2 } := by
  unfold onSitePort; simp only [finishBoundary_quiet h]

/-- A row whose stage stands next and is due: the stage runs, and the rest of the boundary is to come. -/
theorem boundaryRow_atStage {st : Stage} {rest : List Stage} {s : State} (h : AtStage st rest s)
    (due : stageDue st s.node = true) :
    boundaryRow st s = settle { s with agenda := rest, node := stageRun st s.mem s.node } := by
  have hc : s.agenda.contains st = true := by simp only [AtStage] at h; simp [h]
  unfold boundaryRow openBoundary
  rw [if_pos hc]
  simp only [hc, if_true]
  simp only [AtStage] at h
  simp [h, runStages_nil, due]

/-- A row whose stage stands next and is not due changes nothing. -/
theorem boundaryRow_notDue {st : Stage} {rest : List Stage} {s : State} (h : AtStage st rest s)
    (due : stageDue st s.node = false) : boundaryRow st s = s := by
  have hc : s.agenda.contains st = true := by simp only [AtStage] at h; simp [h]
  unfold boundaryRow openBoundary
  rw [if_pos hc]
  simp only [hc, if_true]
  simp only [AtStage] at h
  simp [h, runStages_nil, due]

/-- Every row that is one event of a boundary is the row of its stage. -/
theorem exec_event {c : Instr} {st : Stage} (h : eventStage c = some st) (s : State) :
    exec c s = .next (boundaryRow st s) := by
  cases c <;> simp only [eventStage, Option.some.injEq, reduceCtorEq] at h <;> subst h <;> rfl

@[simp] theorem boundaryRow_mem (st : Stage) (s : State) : (boundaryRow st s).mem = s.mem := by
  unfold boundaryRow openBoundary
  split <;> (simp only []; split <;> (try split)) <;> simp

@[simp] theorem boundaryRow_pending (st : Stage) (s : State) : (boundaryRow st s).pending = s.pending := by
  unfold boundaryRow openBoundary
  split <;> (simp only []; split <;> (try split)) <;> simp

@[simp] theorem wholeBoundary_mem (s : State) : (wholeBoundary s).mem = s.mem := by
  unfold wholeBoundary; split <;> simp

@[simp] theorem wholeBoundary_pending (s : State) : (wholeBoundary s).pending = s.pending := by
  unfold wholeBoundary; split <;> simp

@[simp] theorem onNode_mem (f : Memory → Node → Node) (s : State) : (onNode f s).mem = s.mem := by
  simp [onNode]

@[simp] theorem onNode_pending (f : Memory → Node → Node) (s : State) : (onNode f s).pending = s.pending := by
  simp [onNode]

@[simp] theorem onPacket_pending (f : Node → Node × Option SegmentWrite) (s : State) :
    (onPacket f s).pending = s.pending := by
  simp [onPacket]

@[simp] theorem onSitePort_pending (bs : List Byte) (s : State) :
    (onSitePort bs s).pending = s.pending := by
  simp [onSitePort]

end Sys2Proof.Machine
end

