-- ==== Sys2Proof/Laws/Frames.lean ====
section
/-! SUPPORT. What the bytes of a link frame say, said once: its audio sample by sample, its fields, and the
checks of R182. -/

namespace Sys2Proof.Machine

/-- A sample is the number that its three bytes carry. -/
theorem sampleOfBytes_eq (a b c : Byte) : sampleOfBytes a b c = BitVec.ofNat 24 (beNat [a, b, c]) := by
  have h : beNat [a, b, c] = (a.toNat * 256 + b.toNat) * 256 + c.toNat := by simp [beNat]
  rw [h]
  apply BitVec.eq_of_toNat_eq
  have h1 := a.isLt
  have h2 := b.isLt
  have h3 := c.isLt
  simp only [sampleOfBytes, BitVec.toNat_append, BitVec.toNat_ofNat]
  rw [Nat.shiftLeft_eq, Nat.shiftLeft_eq, ← Nat.shiftLeft_eq, ← Nat.shiftLeft_add_eq_or_of_lt h3,
    ← Nat.shiftLeft_eq a.toNat, ← Nat.shiftLeft_add_eq_or_of_lt h2, Nat.shiftLeft_eq, Nat.shiftLeft_eq]
  omega

/-- A field of what is left of a list after its first bytes is that field of the list, so many bytes on. -/
theorem fieldAt_drop (l : List Byte) (i j w : Nat) : fieldAt (l.drop i) j w = fieldAt l (i + j) w := by
  simp [fieldAt, List.drop_drop]

/-- A field that ends within the bytes taken reads as in the whole list. -/
theorem fieldAt_take {l : List Byte} {i w n : Nat} (h : i + w ≤ n) : fieldAt (l.take n) i w = fieldAt l i w := by
  simp only [fieldAt, List.drop_take, List.take_take]
  rw [Nat.min_eq_left (by omega)]

/-- Stereo audio, six bytes a sample set: left, then right. -/
theorem setsOf_samplesOf : ∀ (k : Nat) (l : List Byte), l.length = 6 * k →
    setsOf 2 (samplesOf l) =
      (List.range k).map (fun j =>
        (BitVec.ofNat 24 (fieldAt l (6 * j) 3), BitVec.ofNat 24 (fieldAt l (6 * j + 3) 3)))
  | 0, l, h => by
    obtain rfl : l = [] := List.eq_nil_of_length_eq_zero (by omega)
    rfl
  | k + 1, l, h => by
    match l, h with
    | a :: b :: c :: d :: e :: f :: rest, h =>
      have ih := setsOf_samplesOf k rest (by simp only [List.length_cons] at h; omega)
      rw [List.range_succ_eq_map, List.map_cons, List.map_map]
      have step : setsOf 2 (samplesOf (a :: b :: c :: d :: e :: f :: rest)) =
          (sampleOfBytes a b c, sampleOfBytes d e f) :: setsOf 2 (samplesOf rest) := rfl
      rw [step, ih]
      refine List.cons_eq_cons.mpr ⟨?_, ?_⟩
      · rw [sampleOfBytes_eq, sampleOfBytes_eq]; rfl
      · apply List.map_congr_left
        intro j _
        have hd (i : Nat) : fieldAt (a :: b :: c :: d :: e :: f :: rest) (6 + i) 3 = fieldAt rest i 3 := by
          rw [← fieldAt_drop]; rfl
        have e1 : 6 * (j + 1) = 6 + 6 * j := by omega
        have e2 : 6 * (j + 1) + 3 = 6 + (6 * j + 3) := by omega
        simp only [Function.comp_apply, Nat.succ_eq_add_one]
        rw [e2, e1, hd, hd]

/-- The audio of a gathered frame, read at its places in the frame. -/
theorem linkFrameOfBytes_audio {b : List Byte} (h : 1170 ≤ b.length) :
    (linkFrameOfBytes b).audio =
      (List.range 192).map (fun k =>
        (BitVec.ofNat 24 (fieldAt b (18 + 6 * k) 3), BitVec.ofNat 24 (fieldAt b (21 + 6 * k) 3))) := by
  have hl : ((b.drop 18).take 1152).length = 6 * 192 := by simp; omega
  refine (setsOf_samplesOf 192 _ hl).trans (List.map_congr_left ?_)
  intro k hk
  have := List.mem_range.mp hk
  rw [fieldAt_take (by omega), fieldAt_take (by omega), fieldAt_drop, fieldAt_drop]
  congr 3
  omega

/-- The checks of R182 on the bytes after the sync word. -/
theorem linkFrameGood_iff (linkId siteId : Nat) (b : List Byte) :
    linkFrameGood linkId siteId b = true ↔
      crcBytes (b.take (1170 + byteAt b 17)) = b.drop (1170 + byteAt b 17) ∧ byteAt b 0 = linkId ∧
        byteAt b 1 = siteId ∧ 1 ≤ byteAt b 8 ∧ byteAt b 8 ≤ 4 ∧ byteAt b 11 < 16 ∧
        ((byteAt b 12 = 0 ∧ bitAt (byteAt b 11) 2 = false ∧ byteAt b 17 = 0) ∨
          (byteAt b 12 = 1 ∧ bitAt (byteAt b 11) 2 = true ∧ byteAt b 17 = 11) ∨
          (byteAt b 12 = 2 ∧ bitAt (byteAt b 11) 2 = true ∧ 1 ≤ byteAt b 17 ∧ byteAt b 17 ≤ 240)) := by
  simp only [linkFrameGood, Bool.and_eq_true, Bool.or_eq_true, decide_eq_true_eq, Bool.not_eq_true', and_assoc,
    or_assoc]

end Sys2Proof.Machine
end

