-- ==== Sys2Proof/Laws/Memory.lean ====
section
/-! SUPPORT. The sample memory: what a read gives after a write, and that every operation keeps the
canonical form. -/

namespace Sys2Proof.Machine

/-- A word just written reads as written. -/
@[simp] theorem Memory.read_write_same (m : Memory) (n : Nat) (w : MemWord)
    (h : m.wf = true) : (m.write n w).read n = w := by
  have above : ∀ (m : Memory) (lo : Nat), m.wfAbove lo = true → ∀ k ≤ lo, m.read k = Memory.unwritten := by
    intro m
    induction m with
    | nil => intros; rfl
    | cons p rest ih =>
      obtain ⟨a, v⟩ := p
      intro lo hw k hk
      simp only [Memory.wfAbove, Bool.and_eq_true, decide_eq_true_eq] at hw
      have : a ≠ k := by omega
      simp only [Memory.read, this, if_false]
      exact ih a hw.2 k (by omega)
  have main : ∀ (m : Memory) (lo : Nat), m.wfAbove lo = true → (m.write n w).read n = w := by
    intro m
    induction m with
    | nil => intro lo _; by_cases hz : w = 0#32 <;> simp [Memory.write, Memory.read, hz]
    | cons p rest ih =>
      obtain ⟨a, v⟩ := p
      intro lo hw
      simp only [Memory.wfAbove, Bool.and_eq_true, decide_eq_true_eq] at hw
      unfold Memory.write
      split
      · next hlt =>
        split
        · next hz =>
          have : a ≠ n := by omega
          simp only [Memory.read, this, if_false, hz]
          exact above rest a hw.2 n (by omega)
        · simp [Memory.read]
      · split
        · next heq =>
          split
          · next hz => rw [hz]; exact above rest a hw.2 n (by omega)
          · simp [Memory.read]
        · next hlt hne =>
          have : a ≠ n := fun e => hne e.symm
          simp only [Memory.read, this, if_false]
          exact ih a hw.2
  cases m with
  | nil => by_cases hz : w = 0#32 <;> simp [Memory.write, Memory.read, hz]
  | cons p rest =>
    obtain ⟨a, v⟩ := p
    simp only [Memory.wf, Bool.and_eq_true, decide_eq_true_eq] at h
    unfold Memory.write
    split
    · next hlt =>
      split
      · next hz =>
        have : a ≠ n := by omega
        simp only [Memory.read, this, if_false, hz]
        exact above rest a h.2 n (by omega)
      · simp [Memory.read]
    · split
      · next heq =>
        split
        · next hz => rw [hz]; exact above rest a h.2 n (by omega)
        · simp [Memory.read]
      · next hlt hne =>
        have : a ≠ n := fun e => hne e.symm
        simp only [Memory.read, this, if_false]
        exact main rest a h.2

/-- Every other word reads as before. -/
theorem Memory.read_write_other (m : Memory) {n k : Nat} (w : MemWord) (h : k ≠ n) :
    (m.write n w).read k = m.read k := by
  have hn : n ≠ k := fun e => h e.symm
  induction m with
  | nil => by_cases hz : w = 0#32 <;> simp [Memory.write, Memory.read, hz, hn]
  | cons p rest ih =>
    obtain ⟨a, v⟩ := p
    unfold Memory.write
    split
    · split
      · rfl
      · simp [Memory.read, hn]
    · split
      · next heq =>
        subst heq
        split <;> simp [Memory.read, hn]
      · simp only [Memory.read, ih]

theorem Memory.wfAbove_mono {lo lo' : Nat} (h : lo' ≤ lo) (m : Memory) (hw : m.wfAbove lo = true) :
    m.wfAbove lo' = true := by
  cases m with
  | nil => rfl
  | cons p rest =>
    simp only [Memory.wfAbove, Bool.and_eq_true, decide_eq_true_eq] at hw ⊢
    exact ⟨⟨by omega, hw.1.2⟩, hw.2⟩

theorem Memory.wfAbove_write {lo : Nat} (m : Memory) (n : Nat) (w : MemWord) (hn : lo < n)
    (hw : m.wfAbove lo = true) : (m.write n w).wfAbove lo = true := by
  induction m generalizing lo with
  | nil => by_cases hz : w = 0#32 <;> simp [Memory.write, Memory.wfAbove, hz, hn]
  | cons p rest ih =>
    obtain ⟨a, v⟩ := p
    have hw0 := hw
    simp only [Memory.wfAbove, Bool.and_eq_true, decide_eq_true_eq] at hw
    unfold Memory.write
    split
    · next hlt =>
      split
      · exact hw0
      · next hz =>
        simp only [Memory.wfAbove, Bool.and_eq_true, decide_eq_true_eq]
        exact ⟨⟨hn, hz⟩, ⟨hlt, hw.1.2⟩, hw.2⟩
    · split
      · next heq =>
        split
        · exact Memory.wfAbove_mono (by omega) rest hw.2
        · next hz =>
          simp only [Memory.wfAbove, Bool.and_eq_true, decide_eq_true_eq]
          exact ⟨⟨hn, hz⟩, heq ▸ hw.2⟩
      · simp only [Memory.wfAbove, Bool.and_eq_true, decide_eq_true_eq]
        exact ⟨hw.1, ih (by omega) hw.2⟩

/-- A write keeps the canonical form. -/
theorem Memory.wf_write (m : Memory) (n : Nat) (w : MemWord) (hw : m.wf = true) :
    (m.write n w).wf = true := by
  cases m with
  | nil => by_cases hz : w = 0#32 <;> simp [Memory.write, Memory.wf, Memory.wfAbove, hz]
  | cons p rest =>
    obtain ⟨a, v⟩ := p
    have hw0 := hw
    simp only [Memory.wf, Bool.and_eq_true, decide_eq_true_eq] at hw
    unfold Memory.write
    split
    · next hlt =>
      split
      · exact hw0
      · next hz =>
        simp only [Memory.wf, Memory.wfAbove, Bool.and_eq_true, decide_eq_true_eq]
        exact ⟨hz, ⟨hlt, hw.1⟩, hw.2⟩
    · split
      · next heq =>
        split
        · cases rest with
          | nil => rfl
          | cons q r =>
            simp only [Memory.wfAbove, Bool.and_eq_true, decide_eq_true_eq] at hw
            simp only [Memory.wf, Bool.and_eq_true, decide_eq_true_eq]
            exact ⟨hw.2.1.2, hw.2.2⟩
        · next hz =>
          simp only [Memory.wf, Bool.and_eq_true, decide_eq_true_eq]
          exact ⟨hz, heq ▸ hw.2⟩
      · simp only [Memory.wf, Bool.and_eq_true, decide_eq_true_eq]
        exact ⟨hw.1, Memory.wfAbove_write rest n w (by omega) hw.2⟩

theorem Memory.wf_writeAll (m : Memory) (n : Nat) (ws : List MemWord) (hw : m.wf = true) :
    (m.writeAll n ws).wf = true := by
  induction ws generalizing m n with
  | nil => exact hw
  | cons w ws ih => exact ih _ _ (Memory.wf_write m n w hw)

theorem Memory.wf_writeByte (m : Memory) (page b : Nat) (x : Byte) (hw : m.wf = true) :
    (m.writeByte page b x).wf = true := by
  unfold Memory.writeByte
  simp only []
  split
  · exact Memory.wf_write _ _ _ hw
  · exact hw

theorem Memory.wf_writeBytes (m : Memory) (page b : Nat) (xs : List Byte) (hw : m.wf = true) :
    (m.writeBytes page b xs).wf = true := by
  induction xs generalizing m b with
  | nil => exact hw
  | cons x xs ih => exact ih _ _ (Memory.wf_writeByte m page b x hw)

/-- Words outside a run that is written read as before. -/
theorem Memory.read_writeAll_other (m : Memory) (n : Nat) (ws : List MemWord) {k : Nat}
    (h : k < n ∨ n + ws.length ≤ k) : (m.writeAll n ws).read k = m.read k := by
  induction ws generalizing m n with
  | nil => rfl
  | cons w ws ih =>
    simp only [List.length_cons] at h
    simp only [Memory.writeAll]
    rw [ih (m.write n w) (n + 1) (by omega)]
    exact Memory.read_write_other m w (by omega)

theorem setWidth_wordOfSample (x : Sample) : (wordOfSample x).setWidth 24 = x := by
  unfold wordOfSample
  ext i hi
  simp only [BitVec.getElem_setWidth, BitVec.getLsbD_signExtend]
  simp [hi]
  omega

theorem extract_wordOfSample (x : Sample) (n : Nat) (h : n + 8 ≤ 24) :
    (wordOfSample x).extractLsb' n 8 = x.extractLsb' n 8 := by
  unfold wordOfSample
  ext i hi
  have : n + i < 24 := by omega
  simp [BitVec.getLsbD_signExtend, this]; omega

theorem sampleOfBytes_bit (a b c : Byte) (i : Nat) :
    (sampleOfBytes a b c).getLsbD i =
      if i < 8 then c.getLsbD i else if i < 16 then b.getLsbD (i - 8) else a.getLsbD (i - 16) := by
  show ((a ++ b : BitVec (8 + 8)) ++ c).getLsbD i = _
  rw [BitVec.getLsbD_append, BitVec.getLsbD_append]
  by_cases h : i < 8
  · simp [h]
  · by_cases h2 : i < 16
    · simp [h, h2]; omega
    · simp [h, h2, show ¬ i - 8 < 8 by omega, show i - 8 - 8 = i - 16 by omega]

theorem extract_sampleOfBytes_high (a b c : Byte) : (sampleOfBytes a b c).extractLsb' 16 8 = a := by
  ext i hi
  rw [BitVec.getElem_extractLsb', sampleOfBytes_bit]
  simp [BitVec.getLsbD_eq_getElem hi, show ¬ 16 + i < 8 by omega, show ¬ 16 + i < 16 by omega]

theorem extract_sampleOfBytes_mid (a b c : Byte) : (sampleOfBytes a b c).extractLsb' 8 8 = b := by
  ext i hi
  rw [BitVec.getElem_extractLsb', sampleOfBytes_bit]
  simp [BitVec.getLsbD_eq_getElem hi, show 8 + i < 16 by omega]

theorem extract_sampleOfBytes_low (a b c : Byte) : (sampleOfBytes a b c).extractLsb' 0 8 = c := by
  ext i hi
  rw [BitVec.getElem_extractLsb', sampleOfBytes_bit]
  simp [hi]

theorem extract_sampleOfWord (w : MemWord) (n : Nat) (h : n + 8 ≤ 24) :
    (sampleOfWord w).extractLsb' n 8 = w.extractLsb' n 8 := by
  unfold sampleOfWord
  ext i hi
  simp; omega

/-- What a byte of a clip's data written changes (R64, R189): byte b mod 3 of the sample of word b / 3, which
stays sign-extended, and no other byte of that sample and no other word. -/
theorem Memory.writeByte_changes (m : Memory) (page b : Nat) (x : Byte) (h : m.wf = true) :
    let w := page * Config.pageWords + b / 3
    let m' := m.writeByte page b x
    (∀ a, a ≠ w → m'.read a = m.read a) ∧
      m'.read w = ((m'.read w).setWidth 24).signExtend 32 ∧
      ((m'.read w).extractLsb' (16 - 8 * (b % 3)) 8 = x) ∧
      ∀ k, k < 3 → k ≠ b % 3 →
        (m'.read w).extractLsb' (16 - 8 * k) 8 = (m.read w).extractLsb' (16 - 8 * k) 8 := by
  intro w m'
  have go : ∀ p q r : Byte, m' = m.write w (wordOfSample (sampleOfBytes p q r)) →
      (∀ a, a ≠ w → m'.read a = m.read a) ∧ m'.read w = wordOfSample (sampleOfBytes p q r) := by
    intro p q r hy
    rw [hy]
    exact ⟨fun a ha => Memory.read_write_other m _ ha, Memory.read_write_same m w _ h⟩
  have hb : b % 3 = 0 ∨ b % 3 = 1 ∨ b % 3 = 2 := by omega
  have hs : ∀ n, n + 8 ≤ 24 → (sampleOfWord (m.read w)).extractLsb' n 8 = (m.read w).extractLsb' n 8 :=
    fun n hn => extract_sampleOfWord _ n hn
  rcases hb with hb | hb | hb
  all_goals
    obtain ⟨h1, h2⟩ := go _ _ _ (by
      show Memory.writeByte m page b x = _
      unfold Memory.writeByte sampleBytes
      rw [hb]
      rfl)
    refine ⟨h1, ?_, ?_, fun k hk hk2 => ?_⟩ <;> rw [h2]
    · rw [setWidth_wordOfSample]; rfl
    · rw [hb, extract_wordOfSample _ _ (by omega)]
      simp only [extract_sampleOfBytes_high, extract_sampleOfBytes_mid, extract_sampleOfBytes_low, Nat.mul_zero,
        Nat.sub_zero, Nat.mul_one, Nat.reduceSub, Nat.reduceMul]
    · rw [extract_wordOfSample _ _ (by omega), ← hs _ (by omega)]
      have hk3 : k = 0 ∨ k = 1 ∨ k = 2 := by omega
      rcases hk3 with rfl | rfl | rfl <;> first
        | exact absurd hb.symm hk2
        | simp only [extract_sampleOfBytes_high, extract_sampleOfBytes_mid, extract_sampleOfBytes_low,
            Nat.mul_zero, Nat.sub_zero, Nat.mul_one, Nat.reduceSub, Nat.reduceMul, w]

/-- Bytes written one after another from byte b of a clip's data on: each stands in its place, in a sample that
is sign-extended; every byte of a sample that none is written to, and every other word, is as before. -/
theorem Memory.writeBytes_changes (m : Memory) (page b : Nat) (xs : List Byte) (h : m.wf = true) :
    let m' := m.writeBytes page b xs
    let word (j : Nat) : Nat := page * Config.pageWords + (b + j) / 3
    (∀ a, (∀ j, j < xs.length → a ≠ word j) → m'.read a = m.read a) ∧
      (∀ j (hj : j < xs.length),
        m'.read (word j) = ((m'.read (word j)).setWidth 24).signExtend 32 ∧
          (m'.read (word j)).extractLsb' (16 - 8 * ((b + j) % 3)) 8 = xs[j]) ∧
      ∀ a k, k < 3 → (∀ j, j < xs.length → ¬ (a = word j ∧ k = (b + j) % 3)) →
        (m'.read a).extractLsb' (16 - 8 * k) 8 = (m.read a).extractLsb' (16 - 8 * k) 8 := by
  induction xs generalizing m b with
  | nil => exact ⟨fun a _ => rfl, fun j hj => absurd hj (by simp), fun a k _ _ => rfl⟩
  | cons x xs ih =>
    intro m' word
    obtain ⟨c1, c2, c3, c4⟩ := Memory.writeByte_changes m page b x h
    obtain ⟨i1, i2, i3⟩ := ih (m.writeByte page b x) (b + 1) (Memory.wf_writeByte m page b x h)
    have hw : ∀ j, page * Config.pageWords + (b + 1 + j) / 3 = word (j + 1) := by
      intro j; show _ = page * Config.pageWords + (b + (j + 1)) / 3; congr 2; omega
    have hr : ∀ j, (b + 1 + j) % 3 = (b + (j + 1)) % 3 := by intro j; congr 1; omega
    simp only [hw, hr] at i1 i2 i3
    refine ⟨fun a ha => ?_, fun j hj => ?_, fun a k hk ha => ?_⟩
    · show ((m.writeByte page b x).writeBytes page (b + 1) xs).read a = _
      rw [i1 a (fun j hj => ha (j + 1) (by simpa using hj)), c1 a (ha 0 (by simp))]
    · cases j with
      | succ j => exact i2 j (by simpa using hj)
      | zero =>
        have e : word 0 = page * Config.pageWords + b / 3 := rfl
        by_cases hq : ∃ j, j < xs.length ∧ word 0 = word (j + 1)
        · obtain ⟨j, hj2, he⟩ := hq
          refine ⟨?_, ?_⟩
          · rw [he]; exact (i2 j hj2).1
          · show (((m.writeByte page b x).writeBytes page (b + 1) xs).read (word 0)).extractLsb' _ 8 = x
            rw [i3 (word 0) ((b + 0) % 3) (by omega) ?_]
            · rw [e]; exact c3
            · rintro j' hj' ⟨e1, e2⟩
              have : page * Config.pageWords + b / 3 = page * Config.pageWords + (b + (j' + 1)) / 3 := e1
              omega
        · have hsame : m'.read (word 0) =
              (m.writeByte page b x).read (word 0) := i1 (word 0) (fun j hj2 he => hq ⟨j, hj2, he⟩)
          rw [hsame]
          exact ⟨c2, c3⟩
    · show (((m.writeByte page b x).writeBytes page (b + 1) xs).read a).extractLsb' _ 8 = _
      rw [i3 a k hk (fun j hj => ha (j + 1) (by simpa using hj))]
      by_cases hq : a = word 0
      · have e : word 0 = page * Config.pageWords + b / 3 := rfl
        rw [hq, e]
        exact c4 k hk (fun hk2 => ha 0 (by simp) ⟨hq, hk2⟩)
      · rw [c1 a hq]

end Sys2Proof.Machine
end

