-- ==== Sys2Proof/Laws/Ops.lean ====
section
/-! SUPPORT. What each shared operation can change, said once: the part after it is the part before it with
the named fields replaced. -/

namespace Sys2Proof.Machine

/-- An offer changes the queues and counters of the bus unit and takes one free value. -/
theorem offerPacket_frame (dst : Nat) (body : PacketBody) (ok : Bool) (n : Node) :
    offerPacket dst body ok n =
      { n with bus := (offerPacket dst body ok n).bus, fresh := (offerPacket dst body ok n).fresh } := by
  unfold offerPacket; split <;> rfl

/-- Outside RUN an offer changes nothing (R3). -/
theorem offerPacket_outside (dst : Nat) (body : PacketBody) (ok : Bool) {n : Node} (h : n.inRun = false) :
    offerPacket dst body ok n = n := by
  unfold offerPacket; rw [h]; rfl

/-- A queue keeps its bound, and the other tables of the bus unit stay (R4). -/
theorem enqueue_tables (b : Bus) (cls : Nat) (p : Packet) :
    (b.enqueue cls p).presence = b.presence ∧ (b.enqueue cls p).requesters = b.requesters ∧
      (b.enqueue cls p).linkStation = b.linkStation ∧ (b.enqueue cls p).line = b.line ∧
      (b.enqueue cls p).idleCount = b.idleCount ∧ (b.enqueue cls p).rollCountdown = b.rollCountdown := by
  unfold Bus.enqueue; split <;> split <;> exact ⟨rfl, rfl, rfl, rfl, rfl, rfl⟩

/-- A request sent changes the bus unit and takes at most one free value (R12). -/
theorem sendRequest_frame (code target : Nat) (args : List Byte) (o : Originator) (n : Node) :
    (sendRequest code target args o n).2 =
      { n with
        bus := (sendRequest code target args o n).2.bus,
        fresh := (sendRequest code target args o n).2.fresh } := by
  unfold sendRequest
  split
  · split
    · simp only [offer]; rw [offerPacket_frame]
    · rfl
  · rfl

/-- A listen entry added changes the stream unit and the slot's meter point (R28, R57). -/
theorem addListen_frame (station index : Nat) (p : Purpose) (n : Node) :
    (addListen station index p n).2 =
      { n with
        streams := (addListen station index p n).2.streams,
        meters := (addListen station index p n).2.meters } := by
  unfold addListen; split <;> rfl

/-- The outcome of adding an entry is R28's. -/
theorem addListen_outcome (station index : Nat) (p : Purpose) (n : Node) :
    (addListen station index p n).1 = n.streams.addOutcome station index := by
  unfold addListen; split <;> simp_all

/-- A listen entry removed changes the stream unit and the slot's meter point (R30, R57). -/
theorem removeListen_frame (i : Nat) (n : Node) :
    removeListen i n =
      { n with streams := (removeListen i n).streams, meters := (removeListen i n).meters } := by
  unfold removeListen; split <;> rfl

/-- A change of purpose changes the listen table (R29). -/
theorem changePurpose_frame (i : Nat) (p : Purpose) (n : Node) :
    changePurpose i p n = { n with streams := (changePurpose i p n).streams } := by
  unfold changePurpose; simp only []; split <;> rfl

/-- A request to an outgoing index changes the stream unit (R24, R26). -/
theorem requestOut_frame (i : Nat) (f : OutIndex → OutIndex) (n : Node) :
    requestOut i f n = { n with streams := (requestOut i f n).streams } := by
  unfold requestOut; split <;> rfl

/-- A request to an index that the role set does not send is refused: nothing changes (R24). -/
theorem requestOut_refused {i : Nat} {n : Node} (f : OutIndex → OutIndex)
    (h : sendsIndex n.cfg.roles i = false) : requestOut i f n = n := by
  unfold requestOut; rw [h]; rfl

/-- A start request changes the stream unit (R24). -/
theorem startOut_frame (i line : Nat) (n : Node) :
    startOut i line n = { n with streams := (startOut i line n).streams } := requestOut_frame i _ n

/-- A stop request changes the stream unit (R26). -/
theorem stopOut_frame (i : Nat) (n : Node) :
    stopOut i n = { n with streams := (stopOut i n).streams } := requestOut_frame i _ n

/-- A clip looked up changes the use counts alone (R77). -/
theorem acquireClip_frame (c : Nat) (n : Node) :
    (acquireClip c n).1 = { n with store := (acquireClip c n).1.store } := by
  unfold acquireClip
  split
  · rfl
  · split <;> rfl

/-- A history entry written changes the ring and the last alert outcome (R164). -/
theorem writeHistory_frame (r : AlertRecord) (issuer : Nat) (o : AlertOutcome) (f : HistFlags) (n : Node) :
    writeHistory r issuer o f n =
      { n with
        alert :=
          { n.alert with
            ring := (writeHistory r issuer o f n).alert.ring,
            writePos := (n.alert.writePos + 1) % 16, entryCount := min (n.alert.entryCount + 1) 16 },
        lines := { n.lines with lastAlert := some { id := r.id, cls := r.cls, outcome := o } } } := rfl

/-- A hand-over that waits changes the link unit and the holder input point, and reads nothing else (R170). -/
theorem sourceChange_meters (n : Node) (t : Meters) (h : t.holderInput = n.meters.holderInput) :
    sourceChange { n with meters := t } =
      { n with
        link := (sourceChange n).link,
        meters := { t with holderInput := (sourceChange n).meters.holderInput } } := by
  cases t
  cases h
  unfold sourceChange mapLinkCounters
  cases n.link.pending with
  | none => rfl
  | some s => dsimp only; split <;> rfl

theorem sourceChange_frame (n : Node) :
    sourceChange n =
      { n with
        link := (sourceChange n).link,
        meters := { n.meters with holderInput := (sourceChange n).meters.holderInput } } :=
  sourceChange_meters n n.meters rfl

/-- With no hand-over waiting nothing changes. -/
theorem sourceChange_none {n : Node} (h : n.link.pending = none) : sourceChange n = n := by
  unfold sourceChange; rw [h]

end Sys2Proof.Machine
end

