-- ==== Sys2Proof/Laws/PerInstr.lean ====
section
/-! SUPPORT. A statement about every command, one lemma for each constructor: a well-formed command that is a
REQUEST fits the bus (sections 1.3 and 1.4): its addresses are legal, and its payload, the code and the tag
before the arguments, has at most 1,024 bytes. -/

namespace Sys2Proof.Laws.RequestFits

open Sys2Proof.Machine

def Statement (i : Instr) : Prop :=
  i.wf = true → ∀ r, requestParts i = some r → packetWf r.src r.dst (r.code :: r.tag :: r.args) = true

/-- A request with arguments. -/
theorem of_request {i : Instr} {src dst : Nat} {code tag : Byte} {args : List Byte}
    (hp : requestParts i = some ⟨src, dst, code, tag, args⟩) (hw : i.wf = requestWf src dst args) : Statement i := by
  intro h r hr
  rw [hp, Option.some.injEq] at hr
  subst hr
  rw [hw] at h
  simp only [requestWf, packetWf, Bool.and_eq_true, decide_eq_true_eq, List.length_cons] at h ⊢
  exact ⟨h.1, by omega⟩

/-- A status query. -/
theorem of_query {i : Instr} {src dst : Nat} {tag kind index : Byte}
    (hp : requestParts i = some ⟨src, dst, 18, tag, [kind, index]⟩) (hw : i.wf = addressed src dst) :
    Statement i := by
  intro h r hr
  rw [hp, Option.some.injEq] at hr
  subst hr
  rw [hw] at h
  simp only [packetWf, Bool.and_eq_true, decide_eq_true_eq, List.length_cons, List.length_nil]
  exact ⟨h, by omega⟩

/-- A command that is no request. -/
theorem of_none {i : Instr} (hp : requestParts i = none) : Statement i := by
  intro _ r hr
  rw [hp] at hr
  cases hr

theorem pinReset : Statement .pinReset := of_none rfl
theorem configReadDone (mem : List Byte) : Statement (.configReadDone mem) := of_none rfl
theorem blockBoundary : Statement .blockBoundary := of_none rfl
theorem listenWindowEnd : Statement .listenWindowEnd := of_none rfl
theorem deferralExpiry (gaps : Nat) : Statement (.deferralExpiry gaps) := of_none rfl
theorem sendComplete : Statement .sendComplete := of_none rfl
theorem sendCollision : Statement .sendCollision := of_none rfl
theorem packetDiscarded (bytes : List Byte) : Statement (.packetDiscarded bytes) := of_none rfl
theorem block (src dst : Nat) (payload : List Byte) : Statement (.block src dst payload) := of_none rfl
theorem claim (src dst : Nat) (payload : List Byte) : Statement (.claim src dst payload) := of_none rfl
theorem rollcall (src dst : Nat) (payload : List Byte) : Statement (.rollcall src dst payload) := of_none rfl
theorem answer (src dst : Nat) (payload : List Byte) : Statement (.answer src dst payload) := of_none rfl
theorem alert (src dst : Nat) (payload : List Byte) : Statement (.alert src dst payload) := of_none rfl
theorem clipseg (src dst : Nat) (payload : List Byte) : Statement (.clipseg src dst payload) := of_none rfl
theorem unknownRequest (src dst : Nat) (code tag : Byte) (args : List Byte) : Statement (.unknownRequest src dst code tag args) :=
    of_request rfl rfl
theorem cueAdd (src dst : Nat) (tag : Byte) (args : List Byte) : Statement (.cueAdd src dst tag args) :=
    of_request rfl rfl
theorem cueRemove (src dst : Nat) (tag : Byte) (args : List Byte) : Statement (.cueRemove src dst tag args) :=
    of_request rfl rfl
theorem cueClear (src dst : Nat) (tag : Byte) (args : List Byte) : Statement (.cueClear src dst tag args) :=
    of_request rfl rfl
theorem play (src dst : Nat) (tag : Byte) (args : List Byte) : Statement (.play src dst tag args) :=
    of_request rfl rfl
theorem stop (src dst : Nat) (tag : Byte) (args : List Byte) : Statement (.stop src dst tag args) :=
    of_request rfl rfl
theorem sceneWrite (src dst : Nat) (tag : Byte) (args : List Byte) : Statement (.sceneWrite src dst tag args) :=
    of_request rfl rfl
theorem sceneSwap (src dst : Nat) (tag : Byte) (args : List Byte) : Statement (.sceneSwap src dst tag args) :=
    of_request rfl rfl
theorem clipOpen (src dst : Nat) (tag : Byte) (args : List Byte) : Statement (.clipOpen src dst tag args) :=
    of_request rfl rfl
theorem clipDelete (src dst : Nat) (tag : Byte) (args : List Byte) : Statement (.clipDelete src dst tag args) :=
    of_request rfl rfl
theorem claimSet (src dst : Nat) (tag : Byte) (args : List Byte) : Statement (.claimSet src dst tag args) :=
    of_request rfl rfl
theorem callAnswer (src dst : Nat) (tag : Byte) (args : List Byte) : Statement (.callAnswer src dst tag args) :=
    of_request rfl rfl
theorem callScreen (src dst : Nat) (tag : Byte) (args : List Byte) : Statement (.callScreen src dst tag args) :=
    of_request rfl rfl
theorem callTake (src dst : Nat) (tag : Byte) (args : List Byte) : Statement (.callTake src dst tag args) :=
    of_request rfl rfl
theorem callHold (src dst : Nat) (tag : Byte) (args : List Byte) : Statement (.callHold src dst tag args) :=
    of_request rfl rfl
theorem callDrop (src dst : Nat) (tag : Byte) (args : List Byte) : Statement (.callDrop src dst tag args) :=
    of_request rfl rfl
theorem alertEndLocal (src dst : Nat) (tag : Byte) (args : List Byte) : Statement (.alertEndLocal src dst tag args) :=
    of_request rfl rfl
theorem siteClipSend (src dst : Nat) (tag : Byte) (args : List Byte) : Statement (.siteClipSend src dst tag args) :=
    of_request rfl rfl
theorem statusQueryStation (src dst : Nat) (tag index : Byte) : Statement (.statusQueryStation src dst tag index) :=
    of_query rfl rfl
theorem statusQuerySlot (src dst : Nat) (tag index : Byte) : Statement (.statusQuerySlot src dst tag index) :=
    of_query rfl rfl
theorem statusQueryClip (src dst : Nat) (tag index : Byte) : Statement (.statusQueryClip src dst tag index) :=
    of_query rfl rfl
theorem statusQueryCueList (src dst : Nat) (tag index : Byte) : Statement (.statusQueryCueList src dst tag index) :=
    of_query rfl rfl
theorem statusQueryPlayer (src dst : Nat) (tag index : Byte) : Statement (.statusQueryPlayer src dst tag index) :=
    of_query rfl rfl
theorem statusQueryLines (src dst : Nat) (tag index : Byte) : Statement (.statusQueryLines src dst tag index) :=
    of_query rfl rfl
theorem statusQueryAirView (src dst : Nat) (tag index : Byte) : Statement (.statusQueryAirView src dst tag index) :=
    of_query rfl rfl
theorem statusQueryAlertHist (src dst : Nat) (tag index : Byte) : Statement (.statusQueryAlertHist src dst tag index) :=
    of_query rfl rfl
theorem statusQueryLink (src dst : Nat) (tag index : Byte) : Statement (.statusQueryLink src dst tag index) :=
    of_query rfl rfl
theorem restart (src dst : Nat) (tag : Byte) (args : List Byte) : Statement (.restart src dst tag args) :=
    of_request rfl rfl
theorem restartDeadline : Statement .restartDeadline := of_none rfl
theorem rollcallDue : Statement .rollcallDue := of_none rfl
theorem requestTimeout : Statement .requestTimeout := of_none rfl
theorem presenceExpiry : Statement .presenceExpiry := of_none rfl
theorem slotTimeout : Statement .slotTimeout := of_none rfl
theorem sceneSwapEnd : Statement .sceneSwapEnd := of_none rfl
theorem faderRampDone : Statement .faderRampDone := of_none rfl
theorem callerReleaseDone : Statement .callerReleaseDone := of_none rfl
theorem meterWindowClose : Statement .meterWindowClose := of_none rfl
theorem loadTimeout : Statement .loadTimeout := of_none rfl
theorem fadeOutStart : Statement .fadeOutStart := of_none rfl
theorem segueDue : Statement .segueDue := of_none rfl
theorem itemNaturalEnd : Statement .itemNaturalEnd := of_none rfl
theorem segueCountdownDone : Statement .segueCountdownDone := of_none rfl
theorem outgoingExpiry : Statement .outgoingExpiry := of_none rfl
theorem ringStart : Statement .ringStart := of_none rfl
theorem giveUp : Statement .giveUp := of_none rfl
theorem hangUp : Statement .hangUp := of_none rfl
theorem takeWatchExpiry : Statement .takeWatchExpiry := of_none rfl
theorem callerWatchExpiry : Statement .callerWatchExpiry := of_none rfl
theorem alertLineRecord (bytes : List Byte) : Statement (.alertLineRecord bytes) := of_none rfl
theorem alertLineGapTimeout : Statement .alertLineGapTimeout := of_none rfl
theorem alertActivation : Statement .alertActivation := of_none rfl
theorem alertClipDone : Statement .alertClipDone := of_none rfl
theorem alertFadeDone : Statement .alertFadeDone := of_none rfl
theorem alertCapDue : Statement .alertCapDue := of_none rfl
theorem legDrop : Statement .legDrop := of_none rfl
theorem reservePlayerStart : Statement .reservePlayerStart := of_none rfl
theorem linkFrameMade : Statement .linkFrameMade := of_none rfl
theorem linkFrameSent : Statement .linkFrameSent := of_none rfl
theorem transferNoReport : Statement .transferNoReport := of_none rfl
theorem returnLost : Statement .returnLost := of_none rfl
theorem returnFrame (bytes : List Byte) : Statement (.returnFrame bytes) := of_none rfl
theorem siteLinkFrame (bytes : List Byte) : Statement (.siteLinkFrame bytes) := of_none rfl
theorem siteFrameStall : Statement .siteFrameStall := of_none rfl
theorem siteFrameBoundary : Statement .siteFrameBoundary := of_none rfl
theorem siteConceal : Statement .siteConceal := of_none rfl
theorem siteReserveEntry : Statement .siteReserveEntry := of_none rfl
theorem siteReservePlayerStart : Statement .siteReservePlayerStart := of_none rfl
theorem siteContactChange : Statement .siteContactChange := of_none rfl
theorem claimKey : Statement .claimKey := of_none rfl
theorem playNext : Statement .playNext := of_none rfl
theorem stopAll : Statement .stopAll := of_none rfl
theorem takeNextCaller : Statement .takeNextCaller := of_none rfl
theorem dropCaller : Statement .dropCaller := of_none rfl
theorem keySceneSwap : Statement .keySceneSwap := of_none rfl
theorem answerNextLine : Statement .answerNextLine := of_none rfl
theorem voiceOpen : Statement .voiceOpen := of_none rfl
theorem voiceOpenRelease : Statement .voiceOpenRelease := of_none rfl
theorem sampleSetInstant (inputs : Inputs) : Statement (.sampleSetInstant inputs) := of_none rfl
theorem carrierAppears (gaps : Nat) : Statement (.carrierAppears gaps) := of_none rfl
theorem alertLineByte (b : Byte) (stopBit : Bool) : Statement (.alertLineByte b stopBit) := of_none rfl
theorem siteLinkByte (b : Byte) : Statement (.siteLinkByte b) := of_none rfl

end Sys2Proof.Laws.RequestFits
end

