-- ==== Sys2Proof/Laws/Phone.lean ====
section
/-! SUPPORT. The caller queue and the line records, said once: what joining and leaving do to the queue's members,
and that a line set is that line alone. -/

namespace Sys2Proof.Machine

/-- A line put at its place is added to the queue, and nothing else. -/
theorem insert_perm (p : Phone) (i : Nat) (q : List Nat) : (p.insert i q).Perm (i :: q) := by
  induction q with
  | nil => exact List.Perm.refl _
  | cons j r ih =>
    unfold Phone.insert
    split
    · exact List.Perm.refl _
    · exact (ih.cons j).trans (List.Perm.swap i j r)

theorem joinQueue_mem (i j : Nat) (n : Node) :
    j ∈ (joinQueue i n).phone.queue ↔ j = i ∨ j ∈ n.phone.queue := by
  unfold joinQueue; dsimp only; rw [(insert_perm _ _ _).mem_iff, List.mem_cons]

theorem joinQueue_nodup {i : Nat} {n : Node} (h : n.phone.queue.Nodup) (hi : i ∉ n.phone.queue) :
    (joinQueue i n).phone.queue.Nodup := by
  unfold joinQueue; dsimp only; rw [(insert_perm _ _ _).nodup_iff]; exact List.nodup_cons.mpr ⟨hi, h⟩

theorem leaveQueue_mem (i j : Nat) (n : Node) :
    j ∈ (leaveQueue i n).phone.queue ↔ j ∈ n.phone.queue ∧ j ≠ i := by
  unfold leaveQueue; dsimp only; simp

theorem leaveQueue_nodup {i : Nat} {n : Node} (h : n.phone.queue.Nodup) : (leaveQueue i n).phone.queue.Nodup :=
  h.filter _

@[simp] theorem setLine_queue (i : Nat) (l : LineRecord) (n : Node) : (setLine i l n).phone.queue = n.phone.queue := rfl

@[simp] theorem joinQueue_lines (i : Nat) (n : Node) : (joinQueue i n).phone.lines = n.phone.lines := rfl

@[simp] theorem leaveQueue_lines (i : Nat) (n : Node) : (leaveQueue i n).phone.lines = n.phone.lines := rfl

/-- A line read after one line is set. -/
theorem setLine_line {i j : Nat} (l : LineRecord) (n : Node) (hi : 1 ≤ i) (hj : 1 ≤ j)
    (hl : i ≤ n.phone.lines.length) : (setLine i l n).phone.line j = if j = i then l else n.phone.line j := by
  unfold setLine Phone.line
  simp only [List.getD_eq_getElem?_getD, List.getElem?_set]
  by_cases h : j = i
  · subst h; rw [if_pos rfl, if_pos rfl, if_pos (by omega)]; rfl
  · rw [if_neg h, if_neg (by omega)]

end Sys2Proof.Machine
end

