-- ==== Sys2Proof/Laws/Reception.lean ====
section
/-! SUPPORT. What the reception of a packet does once it has passed the checks of R6, said once for every
packet kind and for every request. -/

namespace Sys2Proof.Machine

/-- A packet that reaches the station and has its kind's form is handed on as R8 lays down. -/
theorem receivePacket_reached {src dst kind : Nat} {p : List Byte} {s : State}
    (h : Reached src dst p.length s) (form : formGood kind src p = true) :
    receivePacket kind src dst p s.node = deliver kind src dst p s.node.heard := by
  obtain ⟨_, hr, hu, h1, h2, h3, hs, hd1, hd⟩ := h
  have hcfg : (packetEnd s.node).cfg = s.node.cfg := by unfold packetEnd; split <;> rfl
  have hst : (packetEnd s.node).station = s.node.station := by unfold packetEnd; split <;> rfl
  have ha : addressGood src dst p.length = true := by
    have : dst ≤ 31 := by omega
    simp [addressGood, h1, h2, h3, hd1, this]
  have hdst : ¬(dst ≠ s.node.cfg.number ∧ dst ≠ 31) := by omega
  unfold receivePacket checkPacket
  simp only [hr, if_true, ha, form, hst, hcfg, hu, hs, hdst]
  rfl

theorem onPacket_reached {src dst kind : Nat} {p : List Byte} {s : State}
    (h : Reached src dst p.length s) (form : formGood kind src p = true) :
    onPacket (fun n => receivePacket kind src dst p n) s =
      settle
        { s with
          mem := applySegment (deliver kind src dst p s.node.heard).2 s.mem,
          node := (deliver kind src dst p s.node.heard).1 } := by
  rw [onPacket_quiet h.1]
  simp only [receivePacket_reached h form]

@[simp] theorem heard_station (n : Node) : n.heard.station = n.station := by
  simp only [Node.heard, packetEnd]; split <;> rfl

@[simp] theorem heard_cfg (n : Node) : n.heard.cfg = n.cfg := by
  simp only [Node.heard, packetEnd]; split <;> rfl

@[simp] theorem heard_inRun (n : Node) : n.heard.inRun = n.inRun := by
  simp only [Node.inRun, heard_station, heard_cfg]

/-- A request that its owner decides: the decision of R10 and its answer (R11). -/
theorem onRequest_asked {src dst : Nat} {code tag : Byte} {a : List Byte} {s : State}
    (h : Asked src dst a.length s) :
    onRequest src dst code tag a s =
      settle
        { s with
          node :=
            let r := decideRequest code.toNat src tag a s.node.heard
            offerPacket src (.answer code.toNat tag r.result r.data)
              (bringsRestart code.toNat r s.node.heard) r.node } := by
  obtain ⟨hr, hrun, hd⟩ := h
  have hl : (code :: tag :: a).length = 2 + a.length := by simp; omega
  have hr' : Reached src dst (code :: tag :: a).length s := by rw [hl]; exact hr
  unfold onRequest
  rw [onPacket_reached hr' (by simp [formGood])]
  have hc : byteAt (code :: tag :: a) 0 = code.toNat := rfl
  have ht : (code :: tag :: a).getD 1 0 = tag := rfl
  simp only [deliver, requestPacket, heard_inRun, hrun, hd, hc, ht, applySegment, ne_eq,
    not_false_eq_true, decide_true, Bool.and_self, if_true, List.drop_succ_cons, List.drop_zero]

/-- The same for a request other than RESTART. -/
theorem onRequest_answered {src dst : Nat} {code tag : Byte} {a : List Byte} {s : State}
    (h : Asked src dst a.length s) (hc : code.toNat ≠ 19) :
    onRequest src dst code tag a s =
      answered src code.toNat tag (decideRequest code.toNat src tag a s.node.heard) s := by
  rw [onRequest_asked h]
  simp only [bringsRestart, hc, decide_false, Bool.false_and, answered]

/-- R10 passed: a known code, the role it needs, and enough arguments leave the decision to the owner. -/
theorem decideRequest_owner {code src : Nat} {tag : Byte} {a : List Byte} {n : Node} (h1 : 1 ≤ code)
    (h19 : code ≤ 19) (role : roleServes n.cfg.roles code = true) (args : minArgs code ≤ a.length) :
    decideRequest code src tag a n = ownerReply code src tag a n := by
  unfold decideRequest
  rw [if_neg (by omega), if_neg (by simp [role]), if_neg (by omega)]

/-- A request other than RESTART at its owner: the owner's decision and its answer. -/
theorem onRequest_owner {src dst : Nat} {code tag : Byte} {a : List Byte} {s : State}
    (h : Asked src dst a.length s) (h19 : code.toNat ≠ 19) (h1 : 1 ≤ code.toNat) (hle : code.toNat ≤ 19)
    (role : roleServes s.node.cfg.roles code.toNat = true) (args : minArgs code.toNat ≤ a.length) :
    onRequest src dst code tag a s =
      answered src code.toNat tag (ownerReply code.toNat src tag a s.node.heard) s := by
  rw [onRequest_answered h h19, decideRequest_owner h1 hle (by rw [heard_cfg]; exact role) args]

/-- Every request row is the reception of its REQUEST. -/
theorem exec_request {c : Instr} {r : RequestParts} (h : requestParts c = some r) (s : State) :
    exec c s = .next (onRequest r.src r.dst r.code r.tag r.args s) := by
  cases c <;> simp only [requestParts, Option.some.injEq, reduceCtorEq] at h <;> subst h <;> rfl

/-! The rest of the part is as it was when a packet has been heard. -/

@[simp] theorem heard_streams (n : Node) : n.heard.streams = n.streams := by
  simp only [Node.heard, packetEnd]; split <;> rfl
@[simp] theorem heard_mixer (n : Node) : n.heard.mixer = n.mixer := by
  simp only [Node.heard, packetEnd]; split <;> rfl
@[simp] theorem heard_meters (n : Node) : n.heard.meters = n.meters := by
  simp only [Node.heard, packetEnd]; split <;> rfl
@[simp] theorem heard_store (n : Node) : n.heard.store = n.store := by
  simp only [Node.heard, packetEnd]; split <;> rfl
@[simp] theorem heard_cue (n : Node) : n.heard.cue = n.cue := by
  simp only [Node.heard, packetEnd]; split <;> rfl
@[simp] theorem heard_air (n : Node) : n.heard.air = n.air := by
  simp only [Node.heard, packetEnd]; split <;> rfl
@[simp] theorem heard_phone (n : Node) : n.heard.phone = n.phone := by
  simp only [Node.heard, packetEnd]; split <;> rfl
@[simp] theorem heard_take (n : Node) : n.heard.take = n.take := by
  simp only [Node.heard, packetEnd]; split <;> rfl
@[simp] theorem heard_alert (n : Node) : n.heard.alert = n.alert := by
  simp only [Node.heard, packetEnd]; split <;> rfl
@[simp] theorem heard_link (n : Node) : n.heard.link = n.link := by
  simp only [Node.heard, packetEnd]; split <;> rfl
@[simp] theorem heard_site (n : Node) : n.heard.site = n.site := by
  simp only [Node.heard, packetEnd]; split <;> rfl
@[simp] theorem heard_lines (n : Node) : n.heard.lines = n.lines := by
  simp only [Node.heard, packetEnd]; split <;> rfl
@[simp] theorem heard_pins (n : Node) : n.heard.pins = n.pins := by
  simp only [Node.heard, packetEnd]; split <;> rfl
@[simp] theorem heard_fresh (n : Node) : n.heard.fresh = n.fresh := by
  simp only [Node.heard, packetEnd]; split <;> rfl
@[simp] theorem heard_restart (n : Node) : n.heard.restart = n.restart := by
  simp only [Node.heard, packetEnd]; split <;> rfl
@[simp] theorem heard_presence (n : Node) : n.heard.bus.presence = n.bus.presence := by
  simp only [Node.heard, packetEnd]; split <;> rfl
@[simp] theorem heard_requesters (n : Node) : n.heard.bus.requesters = n.bus.requesters := by
  simp only [Node.heard, packetEnd]; split <;> rfl
@[simp] theorem heard_linkStation (n : Node) : n.heard.bus.linkStation = n.bus.linkStation := by
  simp only [Node.heard, packetEnd]; split <;> rfl

end Sys2Proof.Machine
end

