-- ==== Sys2Proof/Laws/Step.lean ====
section
/-! SUPPORT. Everything that a step can do to the part, said once: a property of the part that the settling, the
stages of a boundary and the few operations between two boundaries keep is kept by every step. -/

namespace Sys2Proof.Machine

/-- What a property of the part must be kept by to be kept by every step. -/
structure KeptBySteps (P : Node → Prop) : Prop where
  settled : ∀ n, P n → P n.settled
  stage : ∀ st m n, P n → P (stageRun st m n)
  gaps : ∀ k n, P n → P (gapsPass k n).1
  carrier : ∀ k n, P n → P (carrier k n)
  sent : ∀ n, P n → P (sendingComplete n)
  collided : ∀ n, P n → P (collide n)
  packet : ∀ kind src dst p n, P n → P (checkPacket kind src dst p n).1
  counted : ∀ f n, P n → P (mapBusCounters f n)
  heard : ∀ n, P n → P (packetEnd n)
  alertByte : ∀ b stop n, P n → P (alertByte b stop n)
  frameSent : ∀ n, P n → P (linkFrameSent n)
  returned : ∀ bs n, P n → P (returnFrameHeard bs n)
  siteByte : ∀ b n, P n → P (siteByte b n).1
  config : ∀ bs n, P n → P (configRead bs n)
  instant : ∀ m inp n, P n → P (instant m inp n)
  reset : ∀ n, P n → P (pinResetNode n)

namespace KeptBySteps

variable {P : Node → Prop}

theorem runStage (h : KeptBySteps P) (m : Memory) (st : Stage) {n : Node} (hn : P n) : P (runStage m n st) := by
  unfold Machine.runStage
  split
  · exact h.settled _ (h.stage st m n hn)
  · exact hn

theorem runStages (h : KeptBySteps P) (m : Memory) (sts : List Stage) {n : Node} (hn : P n) :
    P (runStages m sts n) := by
  induction sts generalizing n with
  | nil => exact hn
  | cons st sts ih => exact ih (h.runStage m st hn)

theorem finishBoundary (h : KeptBySteps P) {s : State} (hs : P s.node) : P (finishBoundary s).node :=
  h.runStages s.mem s.agenda hs

theorem settle (h : KeptBySteps P) {s : State} (hs : P s.node) : P (settle s).node := h.settled _ hs

theorem openBoundary (h : KeptBySteps P) (st : Stage) {s : State} (hs : P s.node) : P (openBoundary st s).node := by
  unfold Machine.openBoundary
  split
  · exact hs
  · exact h.settle (h.finishBoundary hs)

theorem boundaryRow (h : KeptBySteps P) (st : Stage) {s : State} (hs : P s.node) : P (boundaryRow st s).node := by
  have ho := h.openBoundary st hs
  unfold Machine.boundaryRow
  dsimp only
  split
  · split
    · exact h.settled _ (h.stage _ _ _ (h.runStages _ _ ho))
    · exact hs
  · exact hs

theorem wholeBoundary (h : KeptBySteps P) {s : State} (hs : P s.node) : P (wholeBoundary s).node := by
  unfold Machine.wholeBoundary
  split
  · exact h.settled _ (h.runStages _ _ hs)
  · exact h.settle (h.finishBoundary hs)

theorem onNode (h : KeptBySteps P) {f : Memory → Node → Node} (hf : ∀ m n, P n → P (f m n)) {s : State}
    (hs : P s.node) : P (onNode f s).node :=
  h.settled _ (hf _ _ (h.finishBoundary hs))

theorem onPacket (h : KeptBySteps P) {f : Node → Node × Option SegmentWrite} (hf : ∀ n, P n → P (f n).1)
    {s : State} (hs : P s.node) : P (onPacket f s).node :=
  h.settled _ (hf _ (h.finishBoundary hs))

theorem siteBytes (h : KeptBySteps P) (bs : List Byte) (m : Memory) {n : Node} (hn : P n) :
    P (siteBytes bs m n).2 := by
  induction bs generalizing m n with
  | nil => exact hn
  | cons b bs ih => exact ih _ (h.siteByte b n hn)

theorem onSitePort (h : KeptBySteps P) (bs : List Byte) {s : State} (hs : P s.node) : P (onSitePort bs s).node :=
  h.settled _ (h.siteBytes bs _ (h.finishBoundary hs))

theorem onLine (f : Node → Node) (hf : ∀ n, P n → P (f n)) {n : Node} (hn : P n) : P (onLine f n) := by
  unfold Machine.onLine
  split
  · exact hn
  · exact hf n hn

theorem receivePacket (h : KeptBySteps P) (kind src dst : Nat) (p : List Byte) {n : Node} (hn : P n) :
    P (receivePacket kind src dst p n).1 := by
  unfold Machine.receivePacket
  split
  · exact h.packet _ _ _ _ _ (h.heard _ hn)
  · exact hn

theorem receiveBytes (h : KeptBySteps P) (bs : List Byte) {n : Node} (hn : P n) : P (receiveBytes bs n).1 := by
  have he := h.heard _ hn
  have hc (f : BusCounters → BusCounters) : P (mapBusCounters f (packetEnd n)) := h.counted f _ he
  unfold Machine.receiveBytes
  split
  · exact hn
  · dsimp only
    split
    · dsimp only; exact hc _
    · split
      · dsimp only; exact hc _
      · split
        · dsimp only; exact hc _
        · exact h.packet _ _ _ _ _ he

theorem onRequest (h : KeptBySteps P) (src dst : Nat) (code tag : Byte) (a : List Byte) {s : State}
    (hs : P s.node) : P (onRequest src dst code tag a s).node :=
  h.onPacket (fun _ hn => h.receivePacket _ _ _ _ hn) hs

theorem alertBytes (h : KeptBySteps P) (bs : List Byte) {n : Node} (hn : P n) : P (alertBytesHeard bs n) := by
  unfold alertBytesHeard
  induction bs generalizing n with
  | nil => exact hn
  | cons b bs ih => exact ih (h.alertByte b true n hn)

/-- Such a property holds after every command that it held before. -/
theorem exec (h : KeptBySteps P) (c : Instr) {s t : State} (hs : P s.node) (he : exec c s = .next t) : P t.node := by
  cases hc : eventStage c with
  | some st =>
    rw [exec_event hc] at he
    cases he
    exact h.boundaryRow st hs
  | none =>
    cases hr : requestParts c with
    | some r =>
      have hx : Machine.exec c s = .next (Machine.onRequest r.src r.dst r.code r.tag r.args s) := by
        cases c <;> simp only [requestParts, Option.some.injEq, reduceCtorEq] at hr <;> subst hr <;> rfl
      rw [hx] at he
      cases he
      exact h.onRequest _ _ _ _ _ hs
    | none =>
      cases c <;> simp only [eventStage, requestParts, reduceCtorEq] at hc hr <;> cases he
      case none.none.pinReset.refl => exact h.reset _ hs
      case none.none.blockBoundary.refl => exact h.wholeBoundary hs
      case none.none.configReadDone.refl => exact h.onNode (fun _ n hn => h.config _ n hn) hs
      case none.none.sampleSetInstant.refl => exact h.onNode (fun m n hn => h.instant m _ n hn) hs
      case none.none.deferralExpiry.refl => exact h.onNode (fun _ _ hn => onLine _ (fun n => h.gaps _ n) hn) hs
      case none.none.carrierAppears.refl => exact h.onNode (fun _ _ hn => onLine _ (fun n => h.carrier _ n) hn) hs
      case none.none.sendComplete.refl => exact h.onNode (fun _ _ hn => onLine _ h.sent hn) hs
      case none.none.sendCollision.refl => exact h.onNode (fun _ _ hn => onLine _ h.collided hn) hs
      case none.none.packetDiscarded.refl => exact h.onPacket (fun _ hn => h.receiveBytes _ hn) hs
      case none.none.block.refl => exact h.onPacket (fun _ hn => h.receivePacket _ _ _ _ hn) hs
      case none.none.claim.refl => exact h.onPacket (fun _ hn => h.receivePacket _ _ _ _ hn) hs
      case none.none.rollcall.refl => exact h.onPacket (fun _ hn => h.receivePacket _ _ _ _ hn) hs
      case none.none.answer.refl => exact h.onPacket (fun _ hn => h.receivePacket _ _ _ _ hn) hs
      case none.none.alert.refl => exact h.onPacket (fun _ hn => h.receivePacket _ _ _ _ hn) hs
      case none.none.clipseg.refl => exact h.onPacket (fun _ hn => h.receivePacket _ _ _ _ hn) hs
      case none.none.alertLineByte.refl => exact h.onNode (fun _ n hn => h.alertByte _ _ n hn) hs
      case none.none.alertLineRecord.refl => exact h.onNode (fun _ _ hn => h.alertBytes _ hn) hs
      case none.none.linkFrameSent.refl => exact h.onNode (fun _ n hn => h.frameSent n hn) hs
      case none.none.returnFrame.refl => exact h.onNode (fun _ n hn => h.returned _ n hn) hs
      case none.none.siteLinkFrame.refl => exact h.onSitePort _ hs
      case none.none.siteLinkByte.refl => exact h.onSitePort _ hs

/-- Such a property holds after every step that it held before. -/
theorem step (h : KeptBySteps P) {s t : State} (hs : P s.node) (he : step s = .next t) : P t.node := by
  unfold Machine.step at he
  split at he
  · cases he; exact hs
  · next c rest _ => exact h.exec c (s := { s with pending := rest }) hs he

end KeptBySteps

end Sys2Proof.Machine
end

