-- ==== Sys2Proof/Laws/Store.lean ====
section
/-! SUPPORT. The operations of a clip store on its directory and its loads, said once: what each leaves of every
clip's state and serial, and what the end of a load leaves of the store. -/

namespace Sys2Proof.Machine

/-- A clip read after one entry is set. -/
theorem clip_setClip (d : Store) (c k : Nat) (e : ClipEntry) :
    (d.setClip c e).clip k = if k = c ∧ c < d.dir.length then e else d.clip k := by
  unfold Store.setClip Store.clip
  simp only [List.getD_eq_getElem?_getD, List.getElem?_set]
  by_cases h : c = k
  · subst h
    by_cases hl : c < d.dir.length <;> simp [hl]
  · rw [if_neg h, if_neg (by omega)]

/-- A clip number beyond the directory reads as an EMPTY clip. -/
theorem clip_out (d : Store) (c : Nat) (h : d.dir.length ≤ c) : d.clip c = .reset := by
  unfold Store.clip; rw [List.getD_eq_getElem?_getD, List.getElem?_eq_none h]; rfl

/-- A clip that is not EMPTY stands in the directory. -/
theorem clip_in {d : Store} {c : Nat} (h : (d.clip c).state ≠ .empty) : c < d.dir.length := by
  refine Decidable.byContradiction fun hc => h ?_
  rw [clip_out d c (by omega)]; rfl

@[simp] theorem emptyClip_loads (d : Store) (c : Nat) : (d.emptyClip c).loads = d.loads := by
  unfold Store.emptyClip; dsimp only; split <;> simp [Store.setClip]

@[simp] theorem emptyClip_pages (d : Store) (c : Nat) : (d.emptyClip c).pages = d.pages := by
  unfold Store.emptyClip; dsimp only; split <;> simp [Store.setClip]

@[simp] theorem emptyClip_counters (d : Store) (c : Nat) : (d.emptyClip c).counters = d.counters := by
  unfold Store.emptyClip; dsimp only; split <;> simp [Store.setClip]

@[simp] theorem emptyClip_dir_length (d : Store) (c : Nat) : (d.emptyClip c).dir.length = d.dir.length := by
  unfold Store.emptyClip; dsimp only; split <;> simp [Store.setClip]

/-- A clip emptied becomes EMPTY and keeps its serial; every other clip keeps both. -/
theorem emptyClip_clip (d : Store) (c k : Nat) :
    ((d.emptyClip c).clip k).state = (if k = c then .empty else (d.clip k).state) ∧
      ((d.emptyClip c).clip k).serial = (d.clip k).serial := by
  by_cases h : (d.clip c).state = .empty
  · have hd : d.emptyClip c = d := by unfold Store.emptyClip; rw [if_pos h]
    rw [hd]
    refine ⟨?_, rfl⟩
    split
    · next hk => rw [hk]; exact h
    · rfl
  · have hc : (d.emptyClip c).clip k = (d.setClip c (d.clip c).toEmpty).clip k := by
      unfold Store.emptyClip; rw [if_neg h]; rfl
    rw [hc, clip_setClip]
    by_cases hk : k = c
    · rw [if_pos ⟨hk, clip_in h⟩, if_pos hk, hk]; exact ⟨rfl, rfl⟩
    · rw [if_neg (fun x => hk x.1), if_neg hk]; exact ⟨rfl, rfl⟩

/-- An offer leaves the clip store as it is. -/
theorem offer_store (dst : Nat) (body : PacketBody) (n : Node) : (offer dst body n).store = n.store := by
  unfold offer offerPacket; (repeat' split) <;> rfl

/-- The store after a load that ends in failure (R75). -/
theorem failLoad_store (l : LoadContext) (r : LoadFailure) (n : Node) :
    (failLoad l r n).store =
      (let s := (n.store.emptyClip l.clip).dropLoad l.clip
       { s.setClip l.clip { s.clip l.clip with lastFailure := r } with
          counters := { s.counters with failed := satInc s.counters.failed } }) := by
  unfold failLoad; dsimp only; rw [offer_store]; rfl

/-- The store after a load that is complete (R74). -/
theorem completeLoad_store (l : LoadContext) (n : Node) :
    (completeLoad l n).store =
      (let s := (n.store.setClip l.clip { n.store.clip l.clip with state := .ready }).dropLoad l.clip
       { s with counters := { s.counters with completed := satInc s.counters.completed } }) := by
  unfold completeLoad; dsimp only; rw [offer_store]

end Sys2Proof.Machine
end

