-- ==== Sys2Proof/Tests/Slice0.lean ====
section
/-! SUPPORT. Tests: the checks of WellFormed, each with a command it refuses; worked values of the spec;
and, for each statement of Certificates/Slice0/Obligations.lean, states and operands that meet its hypotheses
(named test_hyp_<statement>). -/

namespace Sys2Proof.Tests

open Sys2Proof Sys2Proof.Machine

-- One test after another: each evaluates in the kernel, and side by side they wait for one another on threads.
set_option Elab.async false

/-! ## WellFormed -/

theorem test_wf_source : (Instr.claim 0 31 [1, 1]).wf = false ∧ (Instr.claim 31 31 [1, 1]).wf = false ∧
    (Instr.claim 1 31 [1, 1]).wf = true ∧ (Instr.claim 30 31 [1, 1]).wf = true := by decide +kernel

theorem test_wf_destination : (Instr.claim 3 0 [1, 1]).wf = false ∧ (Instr.claim 3 32 [1, 1]).wf = false ∧
    (Instr.claim 3 1 [1, 1]).wf = true := by decide +kernel

theorem test_wf_payload : (Instr.block 3 31 (List.replicate 1025 0)).wf = false ∧
    (Instr.block 3 31 (List.replicate 1024 0)).wf = true := by
  simp [Instr.wf, packetWf, addressed, -List.reduceReplicate]

theorem test_wf_arguments : (Instr.unknownRequest 3 2 0 0 (List.replicate 1023 0)).wf = false ∧
    (Instr.unknownRequest 3 2 0 0 (List.replicate 1022 0)).wf = true := by
  simp [Instr.wf, requestWf, addressed, -List.reduceReplicate]

theorem test_wf_query : (Instr.statusQuerySlot 3 32 0 0).wf = false ∧
    (Instr.statusQuerySlot 3 2 0 255).wf = true := by
  decide

theorem test_wf_record : (Instr.configReadDone (List.replicate 513 0)).wf = false ∧
    (Instr.configReadDone (List.replicate 512 0)).wf = true := by
  simp [Instr.wf, -List.reduceReplicate]

theorem test_wf_gaps : (Instr.deferralExpiry 0).wf = false ∧ (Instr.deferralExpiry 1).wf = true := by decide +kernel

theorem test_wf_received : (Instr.packetDiscarded (List.replicate 1034 0)).wf = false ∧
    (Instr.packetDiscarded []).wf = true := by
  simp [Instr.wf, -List.reduceReplicate]

theorem test_wf_alert_record : (Instr.alertLineRecord (List.replicate 18 0)).wf = false ∧
    (Instr.alertLineRecord (List.replicate 19 0)).wf = true := by
  simp [Instr.wf, -List.reduceReplicate]

theorem test_wf_return_frame : (Instr.returnFrame (List.replicate 26 0)).wf = false ∧
    (Instr.returnFrame (List.replicate 27 0)).wf = true := by
  simp [Instr.wf, -List.reduceReplicate]

theorem test_wf_link_frame : (Instr.siteLinkFrame (List.replicate 1175 0)).wf = false ∧
    (Instr.siteLinkFrame (List.replicate 1417 0)).wf = false ∧
    (Instr.siteLinkFrame (List.replicate 1416 0)).wf = true := by
  simp [Instr.wf, -List.reduceReplicate]

def inputs : Inputs :=
  { locals := List.replicate 4 0, lines := List.replicate 4 0, ring := List.replicate 4 false,
    loop := List.replicate 4 false, keys := List.replicate 8 false, contacts := List.replicate 4 false }

theorem test_wf_inputs : (Instr.sampleSetInstant inputs).wf = true ∧
    (Instr.sampleSetInstant { inputs with locals := [] }).wf = false ∧
    (Instr.sampleSetInstant { inputs with lines := [0] }).wf = false ∧
    (Instr.sampleSetInstant { inputs with ring := [] }).wf = false ∧
    (Instr.sampleSetInstant { inputs with loop := [] }).wf = false ∧
    (Instr.sampleSetInstant { inputs with keys := [] }).wf = false ∧
    (Instr.sampleSetInstant { inputs with contacts := [] }).wf = false := by decide +kernel

/-! ## States -/

/-- Settings of a station 2 with the given roles. -/
def settings (r : Roles) : Settings :=
  { Settings.reset with
    number := 2, roles := r, memPages := 1024, restartCode := 7, alertCode := 0x00FF, phoneStation := 3,
    areaCodes := [5, 0, 0, 0] }

/-- Every role of the bus. -/
def busRoles : Roles := { studio := true, phone := true, link := true, alert := true, site := false }

/-- A station in RUN with every role of the bus, its line idle. -/
def station : Node :=
  { Node.reset with
    station := .run, cfg := settings busRoles, store := .ofPages 1024, bus := { Bus.reset with line := .idle } }

/-- A station in RUN with STUDIO alone. -/
def studio : Node := { station with cfg := settings { Roles.empty with studio := true } }

/-- A SITE chip in RUN. -/
def site : Node :=
  { Node.reset with
    station := .run, cfg := settings { Roles.empty with site := true },
    site := .ofSettings (settings Roles.empty) }

/-- A part between two boundaries, and one whose boundary stands at a stage. -/
def between (n : Node) : State := { State.reset with node := n }

def boundaryAt (st : Stage) (n : Node) : State := { State.reset with agenda := [st], node := n }

/-- A request of station 3 with the given number of arguments reaches station 2. -/
theorem asked {n : Node} {k : Nat} (h1 : n.station = .run) (h2 : n.cfg.roles.site = false) (h3 : n.cfg.number = 2)
    (hk : k ≤ 1022) : Asked 3 2 k (between n) := by
  refine ⟨⟨rfl, ?_, ?_, by omega, by omega, by omega, ?_, by omega, Or.inl ⟨?_, by omega⟩⟩, ?_, by omega⟩ <;>
    simp [between, Node.receives, Node.inRun, h1, h2, h3]

/-- A packet of station 3 to all reaches station 2. -/
theorem reached {n : Node} {k : Nat} (h1 : n.station = .run) (h2 : n.cfg.roles.site = false) (h3 : n.cfg.number = 2)
    (hk : k ≤ 1024) : Reached 3 31 k (between n) := by
  refine ⟨rfl, ?_, ?_, by decide +kernel, by decide +kernel, hk, ?_, by decide +kernel, Or.inr rfl⟩ <;>
    simp [between, Node.receives, h1, h2, h3]

/-- Bytes with their CRC-32. -/
def withCrc (bs : List Byte) : List Byte := bs ++ crcBytes bs

/-! ## Worked values -/

/-- The check value of the standard CRC-32 (log 8). -/
theorem test_crc : crc32 [0x31, 0x32, 0x33, 0x34, 0x35, 0x36, 0x37, 0x38, 0x39] = 0xCBF43926#32 := by decide +kernel

/-- A ramp from 0 to 16384 over 5 blocks: a quarter, half and all of its way (R45). -/
theorem test_ramp :
    let r : Ramp := (Ramp.settled 0).retarget 16384 5
    ({ r with pos := 60 } : Ramp).value = 4096 ∧ ({ r with pos := 120 } : Ramp).value = 8192 ∧
      ({ r with pos := 240 } : Ramp).value = 16384 := by decide +kernel

/-! ## Chapter 1 -/

theorem test_hyp_StepTakesTheFront :
    ({ between station with pending := [.pinReset] } : State).pending = .pinReset :: [] ∧
      (between station).pending = [] := ⟨rfl, rfl⟩

theorem test_hyp_BoundaryAndItsRows :
    actsBetween .sendComplete = true ∧ (between station).agenda = [] ∧
      (boundaryAt .rollcallDue station).agenda ≠ [] ∧ eventStage .rollcallDue = some .rollcallDue ∧
      settle (settle (between station)) = settle (between station) ∧
      (settle (between station)).node.stages =
        stationStages.takeWhile (fun a => decide (a ≠ .rollcallDue)) ++ .rollcallDue ::
          [.windowCount, .listenWindowEnd, .sourceChange, .reserveStop, .reservePlayerStart, .linkPhase,
            .linkFrameMade, .returnLost, .transferNoReport, .restartCount, .restartDeadline, .closeBoundary] ∧
      stageDue .rollcallDue { station with bus := { station.bus with rollCountdown := some 0 } } = true ∧
      stageDue .rollcallDue station = false := by decide +kernel

theorem test_hyp_MemoryStaysCanonical :
    MemoryCanonical ({ between station with mem := [(0, 5#32), (7, 1#32)] } : State) ∧
      step (between station) = .next (between station) := by
  unfold MemoryCanonical; exact ⟨by decide +kernel, rfl⟩

/-- A CLAIM waiting in class 1. -/
def claimPacket : Packet := { dst := 31, body := .claim 1 1, restartOk := false, fresh := 0 }

def sender : Node := { station with bus := { station.bus with q1 := [claimPacket] } }

/-- 34 gap units reach W of class 1 at station 2; 33 do not. -/
theorem test_hyp_DeferralReachesW :
    Quiet (between sender) ∧ sender.inRun = true ∧ sender.bus.line = .idle ∧ sender.cfg.number = 2 ∧
      sender.bus.queue 1 = [claimPacket] ∧ (∀ c, c < 1 → sender.bus.queue c = []) ∧
      (sender.bus.idleCount + 34 - 1) % 128 + 1 = 1 * 32 + sender.cfg.number ∧
      Quiet (between site) ∧ site.cfg.roles.site = true ∧
      (∀ k, 1 ≤ k → k ≤ 33 → (sender.bus.idleCount + k - 1) % 128 + 1 ≠ 1 * 32 + sender.cfg.number) := by
  refine ⟨rfl, rfl, rfl, rfl, rfl, by decide +kernel, rfl, rfl, rfl, fun k h1 h2 => ?_⟩
  show (0 + k - 1) % 128 + 1 ≠ 1 * 32 + 2
  omega

/-- A line on which no idle has been seen, as after a pin reset: the count starts from 0 (log 13). -/
theorem test_first_idle_seen :
    let n : Node := { sender with bus := { sender.bus with line := .busy, idleCount := 77 } }
    n.inRun = true ∧ (gapsPass 33 n).1.bus.line = .idle ∧ (gapsPass 33 n).1.bus.idleCount = 33 ∧
      (gapsPass 34 n).2 = true ∧ (gapsPass 34 n).1.bus.idleCount = 34 := by decide +kernel

def sending (consecutive : Nat) : Node :=
  { sender with bus := { sender.bus with line := .sending 1 [], consecutive := consecutive } }

theorem test_hyp_SendingEnds :
    (sending 6).bus.line = .sending 1 [] ∧ (sending 6).bus.queue 1 = [claimPacket] ∧
      (sending 6).bus.drainAtEnd = false ∧ claimPacket.restartOk = false ∧ (sending 6).bus.consecutive + 1 < 8 ∧
      8 ≤ (sending 7).bus.consecutive + 1 ∧ (sending 7).cfg.roles.site = false ∧ Quiet (between site) ∧
      site.cfg.roles.site = true := by
  unfold Quiet; decide +kernel

def filled (k : Nat) (body : PacketBody) : List Packet :=
  List.replicate k { dst := 31, body := body, restartOk := false, fresh := 0 }

def record : AlertRecord :=
  { start := true, id := 100, cls := 2, area := 0xFFFF, code := 0x00FF, complement := 0xFF00, duration := 10,
    clip := 40, repeats := 1 }

theorem test_hyp_OffersFiledByClass :
    Node.reset.inRun = false ∧ station.inRun = true ∧ (PacketBody.alert record).cls = 0 ∧
      (PacketBody.claim 1 1).cls = 1 ∧ (PacketBody.block 0 2 0 false 0 []).cls = 2 ∧
      (PacketBody.request 11 0 [0]).cls = 3 ∧ (filled 3 (.alert record)).length < 4 ∧
      4 ≤ (filled 4 (.alert record)).length ∧ 8 ≤ (filled 8 (.claim 1 1)).length := by decide +kernel

/-- A packet for each check of R6, in its order, and one that fails none. -/
theorem test_hyp_PacketChecks :
    let crcOk (b : List Byte) := 9 ≤ b.length ∧ crcBytes (b.take (b.length - 4)) = b.drop (b.length - 4)
    let form (b : List Byte) := formGood (byteAt b 0) (byteAt b 2) ((b.drop 5).take (b.length - 9)) = true
    let wrongLength := withCrc [2, 31, 3, 0, 9]
    let wrongKind := withCrc [8, 31, 3, 0, 0]
    let wrongForm := withCrc [2, 31, 3, 0, 0]
    let claim := withCrc [2, 31, 3, 0, 2, 1, 1]
    let own := withCrc [2, 31, 2, 0, 2, 1, 1]
    let ownRoll := withCrc [3, 31, 2, 0, 5, 2, 8, 0, 0, 0]
    ¬ crcOk [] ∧ crcOk wrongLength ∧ fieldAt wrongLength 3 2 ≠ wrongLength.length - 9 ∧ crcOk wrongKind ∧
      7 < byteAt wrongKind 0 ∧ crcOk wrongForm ∧ ¬ form wrongForm ∧ crcOk claim ∧ form claim ∧ crcOk own ∧
      form own ∧ crcOk ownRoll ∧ form ownRoll ∧ station.receives = true := by decide +kernel

/-- A roll call of station 3 with role ALERT alone, and one with every role. -/
theorem test_hyp_PresenceRecorded :
    Reached 3 31 2 (between station) ∧ Reached 3 31 5 (between station) ∧
      (parseRollcall 3 [3, 8, 0, 0, 0]).isSome = true ∧
      (parseRollcall 3
        [3, 15, 2, 9, 7, 1, 0, 30, 2, 1, 0, 1, 2, 4, 3, 0, 0, 0, 5, 4, 0, 0]).isSome = true ∧
      parseRollcall 3 [3, 4, 0, 0, 0, 1, 0, 31, 2, 1] = none :=
  ⟨reached rfl rfl rfl (by decide +kernel), reached rfl rfl rfl (by decide +kernel), by decide +kernel⟩

def pendingRequest (age : Nat) : Requester :=
  { tag := 5, code := 13, target := 3, age := age, origin := .take 1 1 }

def asking (age : Nat) : Node := { station with bus := { station.bus with requesters := [pendingRequest age] } }

theorem test_hyp_RequestsPairedOrTimedOut :
    Reached 3 31 3 (between (asking 0)) ∧
      (asking 0).heard.bus.requesters.find? (fun e => decide (e.tag = ([13, 5, 0] : List Byte).getD 1 0)) =
        some (pendingRequest 0) ∧
      (asking 0).heard.bus.requesters.find? (fun e => decide (e.tag = ([13, 6, 0] : List Byte).getD 1 0)) = none ∧
      AtStage .requestTimeout [] (boundaryAt .requestTimeout (asking 100)) ∧
      (∃ e ∈ (asking 100).bus.requesters, 100 ≤ e.age) :=
  ⟨reached rfl rfl rfl (by omega), by decide +kernel, by decide +kernel, rfl, pendingRequest 100, by decide +kernel⟩

/-- A request asked for outside RUN, with room, with its first two tags taken, and with the table full. -/
theorem test_hyp_RequestsPairedOrTimedOut_sent :
    let asks (n : Node) := (sendRequest 11 3 [0] (.answerKey 1) n).1
    let tagged (ts : List Byte) : Node :=
      { station with
        bus :=
          { station.bus with requesters := ts.map (fun t => { pendingRequest 0 with tag := t }), tagCounter := 255 } }
    Node.reset.inRun = false ∧ asks Node.reset = .notSent ∧ station.inRun = true ∧
      station.bus.requesters.length < 4 ∧ asks (tagged []) = .sent 255 ∧ asks (tagged [255, 0]) = .sent 1 ∧
      4 ≤ (tagged [1, 2, 3, 4]).bus.requesters.length ∧ asks (tagged [1, 2, 3, 4]) = .dropped := by
  decide +kernel

theorem test_hyp_RequestsRefusedByTheBus :
    requestParts (.unknownRequest 3 2 20 0 []) = some ⟨3, 2, 20, 0, []⟩ ∧ Asked 3 2 0 (between studio) ∧
      roleServes studio.cfg.roles 11 = false ∧ roleServes studio.cfg.roles 2 = true ∧
      ([] : List Byte).length < minArgs 2 ∧ ({ studio with station := .listen } : Node).inRun = false ∧
      Reached 3 31 2 (between studio) :=
  ⟨rfl, asked rfl rfl rfl (by omega), by decide, by decide, by decide, by decide,
    reached rfl rfl rfl (by omega)⟩

def counting : Node := { station with bus := { station.bus with rollCountdown := some 0 } }

def aged : Node :=
  { station with
    bus :=
      { station.bus with presence := station.bus.presence.set 4 { Presence.absent with present := true } } }

theorem test_hyp_RollCallAndAbsence :
    AtStage .rollcallDue [] (boundaryAt .rollcallDue counting) ∧ counting.inRun = true ∧
      counting.bus.rollCountdown = some 0 ∧ AtStage .presenceExpiry [] (boundaryAt .presenceExpiry aged) ∧
      (∃ p ∈ aged.bus.presence, p.present = true ∧ 400 ≤ p.age) :=
  ⟨rfl, rfl, rfl, rfl, { Presence.absent with present := true }, by decide +kernel, by decide +kernel⟩

theorem test_hyp_StatusRecordsAnswered :
    Asked 3 2 2 (between station) ∧ station.cfg.roles.link = true ∧ studio.cfg.roles.link = false :=
  ⟨asked rfl rfl rfl (by decide +kernel), rfl, rfl⟩

/-- A START that waits for an ARMED player: shown at the player that is armed next and not at the other; the largest
free extent, the first of equal ones, and none. -/
theorem test_hyp_StatusRecordsAnswered_records :
    let n : Node := { station with cue := { station.cue with armStart := true, preferB := true } }
    let f (xs : List Extent) : Option Extent :=
      (({ station with store := { station.store with free := xs } } : Node).clipRecord 1).largest
    let pending (i : Nat) := (n.playerRecord i).player.pending
    pending 1 = true ∧ pending 0 = false ∧ f [] = none ∧
      f [⟨0, 1⟩, ⟨5, 3⟩, ⟨10, 3⟩] = some ⟨5, 3⟩ := by decide +kernel

/-! ## Chapter 2 -/

/-- A mono BLOCK of index 0 with sequence 5, silent. -/
def blockBytes : List Byte := [0, 1, 0, 5, 0] ++ List.replicate 144 0

def entry3 : ListenEntry := { valid := true, station := 3, index := 0, purpose := .follow, requester := .airUnit }

def listening (last : Option Seq16) : Node :=
  { station with
    streams :=
      { station.streams with
        listen := station.streams.listen.set 0 entry3,
        slots := station.streams.slots.set 0 { Slot.reset with state := .running, lastSeq := last } } }

theorem test_hyp_BlockPlacedBySequence :
    Reached 3 31 blockBytes.length (between station) ∧ (parseBlock blockBytes).isSome = true ∧
      (parseBlock blockBytes).map BlockFields.seq = some 5 ∧ station.streams.find 3 0 = none ∧
      (listening none).streams.find 3 0 = some 0 ∧ ((5 : Seq16) - 4).toNat = 1 ∧ ((5 : Seq16) - 3).toNat = 2 ∧
      ((5 : Seq16) - 65533).toNat = 8 ∧ ((5 : Seq16) - 65532).toNat = 9 ∧ ((5 : Seq16) - 32773).toNat = 32768 ∧
      ((5 : Seq16) - 32772).toNat = 32769 ∧ ((5 : Seq16) - 5).toNat = 0 :=
  ⟨reached rfl rfl rfl (by decide +kernel), by decide +kernel⟩

def held (seq : Seq16) (e : Bool) : HeldBlock := { seq := seq, channels := 1, endFlag := e, audio := [] }

theorem test_hyp_SlotsAtABoundary :
    let filling : Slot := { Slot.reset with state := .filling, blocks := [held 1 false, held 2 false] }
    let dry : Slot := { Slot.reset with state := .running }
    let running : Slot := { filling with state := .running }
    filling.blocks.length < 3 ∧ (∀ b ∈ filling.blocks, b.endFlag = false) ∧ dry.blocks = [] ∧
      2 ≤ filling.blocks.length ∧ running.blocks.length < 3 ∧ 2 ≤ running.blocks.length ∧
      Slot.reset.state = .free ∧ ({ Slot.reset with state := .ended } : Slot).state = .ended ∧
      12 ≤ (List.replicate 12 (held 1 false)).length ∧ (held 1 true).endFlag = true := by decide +kernel

theorem test_hyp_SlotsAtABoundary_timeout :
    let n : Node :=
      { station with
        streams :=
          { station.streams with
            slots := station.streams.slots.set 7 { Slot.reset with state := .refilling, noArrival := 50 } } }
    AtStage .slotTimeout [] (boundaryAt .slotTimeout n) ∧
      (∃ x ∈ n.streams.slots, (x.state = .running ∨ x.state = .refilling) ∧ 50 ≤ x.noArrival) :=
  ⟨rfl, { Slot.reset with state := .refilling, noArrival := 50 }, by decide +kernel, by decide +kernel⟩

theorem test_hyp_ListenTableChanges :
    (∃ e ∈ (listening none).streams.listen, e.valid = true ∧ e.station = 3 ∧ e.index = 0) ∧
      (∀ e ∈ List.replicate 8 entry3, ¬(e.valid = true ∧ e.station = 4 ∧ e.index = 0)) ∧
      (∀ e ∈ List.replicate 8 entry3, e.valid = true) ∧
      (listening none).streams.listen = [entry3] ++ ListenEntry.reset :: List.replicate 6 ListenEntry.reset ∧
      ListenEntry.reset.valid = false :=
  ⟨⟨entry3, by decide +kernel, by decide +kernel⟩, by decide +kernel, by decide +kernel, by decide +kernel, rfl⟩

/-- A change of purpose by the entry's own requester, by another, and at an entry that is not valid; an entry
removed. -/
theorem test_hyp_ListenTableChanges_purpose :
    let n : Node := listening none
    let valid (i : Nat) := (n.streams.entry i).valid
    valid 0 = true ∧ (n.streams.entry 0).requester = .airUnit ∧ valid 1 = false ∧
      ((changePurpose 0 .watch n).streams.entry 0).purpose = .watch ∧
      ((changePurpose 0 .item n).streams.entry 0).purpose = .follow ∧
      ((removeListen 0 n).streams.entry 0).valid = false ∧ ((removeListen 0 n).streams.slot 0).state = .free ∧
      removeListen? (some 0) n = removeListen 0 n := by decide +kernel

/-- An index in each of its states, with and without a start that waits. -/
theorem test_hyp_BlocksMade :
    let o : OutIndex := OutIndex.reset
    o.state = .inactive ∧ o.start = none ∧ station.streams.outgoing[7]? = some o ∧
      station.inRun = true ∧ Node.reset.inRun = false ∧ sendsIndex busRoles 0 = true ∧ sendsIndex Roles.empty 0 = false ∧
      (o.askStart 3).start = some 3 ∧ (o.askStart 3).state = .inactive ∧
      (({ o with state := .active } : OutIndex).askStart 3).next = some 3 ∧
      (({ o with state := .active } : OutIndex).askStop).state = .ending ∧
      (({ o with state := .ending } : OutIndex).askStart 3).start = some 3 ∧ o.again = false ∧
      station.audio.lines[3]? = some [] ∧
      (List.replicate 48 ((0, 0) : SampleSet)).length = 48 := by decide +kernel

/-- A start taken in DUPLICATE: ACTIVE at the next boundary with no BLOCK (R24, R25); an ACTIVE index, one with no
start and an ENDING one before its END block stay as they are. -/
theorem test_hyp_BlocksMade_outside_run :
    let n (o : OutIndex) : Node :=
      { station with
        station := .duplicate, streams := { station.streams with outgoing := station.streams.outgoing.set 6 o } }
    let o : OutIndex := { OutIndex.reset with start := some 3, seq := 8 }
    let ended : OutIndex := { o with state := .ending }
    let made (x : OutIndex) := makeBlock 6 (n x)
    let shown (x : Node) := (x.streams.out 6, x.bus.q2.length)
    let active : OutIndex := { OutIndex.reset with state := .active, line := 3, seq := 8 }
    (n o).inRun = false ∧ (n o).streams.outgoing[6]? = some o ∧ shown (made o) = (active, 0) ∧
      shown (stageRun .makeBlocks [] (n o)) = (active, 0) ∧ made active = n active ∧
      shown (made { ended with again := true }) = (active, 0) ∧ made ended = n ended ∧
      made OutIndex.reset = n OutIndex.reset := by decide +kernel

/-! ## Chapter 3 -/

theorem test_hyp_RampsTurnAndRun :
    let r : Ramp := (Ramp.settled 16384).retarget 0 1
    r.pos < r.len ∧ (Ramp.settled 5).len ≤ (Ramp.settled 5).pos ∧ 0 < 1 := by decide +kernel

theorem test_hyp_InstantMixesTheProgramme :
    Quiet (between studio) ∧ studio.onBus = true ∧ studio.cfg.roles.studio = true := by
  unfold Quiet; decide +kernel

theorem test_hyp_InstantAtSelectorAndSite :
    let link : Node := { station with cfg := settings { Roles.empty with link := true } }
    link.onBus = true ∧ link.cfg.roles.link = true ∧ link.cfg.roles.studio = false ∧ site.onBus = false ∧
      site.siteWorks = true ∧ Node.reset.onBus = false ∧ Node.reset.siteWorks = false ∧
      link.link.outgoing = none ∧ studio.cfg.roles.phone = false ∧ station.cfg.roles.phone = true ∧ (station.phone.line 4).state = .idle := by
  decide +kernel

def swapping (started : Bool) (remaining : Nat) : Node :=
  { studio with
    mixer := { studio.mixer with swap := some { len := 10, remaining := remaining, started := started } } }

/-- Items 7 and 8 of the live bank 0, bank 1, and the first values outside. -/
theorem test_hyp_SceneWriteDecided :
    Asked 3 2 4 (between studio) ∧ studio.cfg.roles.studio = true ∧ studio.mixer.swap = none ∧
      (swapping true 3).mixer.swap ≠ none ∧ studio.mixer.live = 0 ∧ byteAt [0, 7, 1, 0] 1 ≤ 7 ∧
      byteAt [0, 8, 1, 0] 1 = 8 ∧ 8 < byteAt [0, 9, 1, 0] 1 ∧ byteAt [1, 0, 1, 0] 0 ≠ studio.mixer.live ∧
      1 < byteAt [2, 0, 1, 0] 0 ∧ studio.mixer.duckOn = false :=
  ⟨asked rfl rfl rfl (by decide), by decide +kernel⟩

theorem test_hyp_MixerBoundaryAndSceneSwap_request :
    Asked 3 2 2 (between studio) ∧ Asked 3 2 2 (between (swapping true 3)) ∧ studio.mixer.swap = none ∧
      (swapping true 3).mixer.swap ≠ none ∧ fieldAt [3, 232] 0 2 = 1000 ∧ 1000 < fieldAt [3, 233] 0 2 ∧
      fieldAt [0, 0] 0 2 = 0 :=
  ⟨asked rfl rfl rfl (by decide), asked rfl rfl rfl (by decide), by decide +kernel⟩

theorem test_hyp_MixerBoundaryAndSceneSwap :
    studio.cfg.roles.studio = true ∧ (∀ w, studio.mixer.swap = some w → w.started = true) ∧
      (swapping false 10).mixer.swap = some { len := 10, remaining := 10, started := false } := by
  refine ⟨rfl, fun w h => ?_, rfl⟩
  simp [studio, station, Node.reset, Mixer.reset] at h

def releasing : Caller :=
  { state := .releasing, source := .line 1, fader := { (Ramp.settled 16384).retarget 0 5 with pos := 240 },
    pending := none }

def ending (a b : Bool) : Node :=
  { studio with
    mixer :=
      { studio.mixer with
        caller1 := if a then releasing else .reset, caller2 := if b then releasing else .reset } }

/-- Key 3 is VOICE_OPEN; pressed, held, and let go while held. -/
def voice (accepted held pressed : Bool) : Node :=
  { studio with
    cfg := { studio.cfg with keyFns := studio.cfg.keyFns.set 2 .voiceOpen },
    lines :=
      { studio.lines with
        keys := studio.lines.keys.set 2 { accepted := accepted, stable := 0 },
        voiceHeld := studio.lines.voiceHeld.set 2 held, pressed := if pressed then [3] else [] } }

theorem test_hyp_MixerBoundaryAndSceneSwap_rows :
    AtStage .sceneSwapEnd [] (boundaryAt .sceneSwapEnd (swapping true 0)) ∧
      (swapping true 0).mixer.swap = some { len := 10, remaining := 0, started := true } ∧
      (ending true false).mixer.caller1.releaseOver = true ∧ (ending true false).mixer.caller2.releaseOver = false ∧
      (ending false true).mixer.caller2.releaseOver = true ∧ (ending true true).mixer.caller1.releaseOver = true ∧
      (voice true false true).pressedWith (isFn .voiceOpen) ≠ [] ∧
      (voice false true false).lines.voiceHeld.getD 2 false = true ∧
      ((voice false true false).lines.keys.getD 2 .reset).accepted = false := by
  unfold AtStage; decide +kernel

def closing (p : MeterPoint) : Node := { station with meters := { station.meters with linkOutput := p } }

theorem test_hyp_MeterWindowsClose :
    let p : MeterPoint := { MeterPoint.reset with running := true, pos := 10, silentRun := 1999 }
    AtStage .meterWindowClose [] (boundaryAt .meterWindowClose (closing p)) ∧ p.running = true ∧
      p.waiting = false ∧ 10 ≤ p.pos ∧ (closing p).meters.siteOutput.running = false ∧
      (closing p).meters.incoming.running = false ∧ (closing p).air.holder.kind = .none ∧
      (∀ k, k ≤ 30 → (closing p).claimIn k .silent = none) ∧
      (sourceChange (closing p)).meters.holderInput = (closing p).meters.holderInput ∧
      (sourceChange { closing p with link := { (closing p).link with pending := some .own } }).meters.holderInput =
        (closing p).meters.holderInput.begin := by
  unfold AtStage; decide +kernel

/-- Every state: points of a SITE chip whose windows end; a point that falls silent, one that sounds again, one
that sounds on and one whose window does not end. -/
theorem test_hyp_MeterWindowsClose_every :
    let p : MeterPoint := { MeterPoint.reset with running := true, pos := 10 }
    let cfg : Settings := { Settings.reset with silenceThreshold := 100, silenceTime := 5 }
    let low : Node := { site with meters := { site.meters with siteOutput := p } }
    let high : Node := { site with meters := { site.meters with incoming := p } }
    let silent : MeterPoint := { p with silentRun := 4, peak := 99 }
    let back : MeterPoint := { p with silent := true, soundRun := 199, peak := 100 }
    AtStage .meterWindowClose [] (boundaryAt .meterWindowClose low) ∧ low.meters.siteOutput.windowDone = true ∧
      high.meters.incoming.windowDone = true ∧ (silent.finish cfg).report = some true ∧
      (silent.finish cfg).sounding = false ∧ (back.finish cfg).report = some false ∧
      (back.finish cfg).sounding = true ∧ ({ back with soundRun := 198 }.finish cfg).report = none ∧
      ({ back with soundRun := 198 }.finish cfg).sounding = false ∧
      ({ silent with pos := 9 }.finish cfg).report = none ∧
      ({ silent with pos := 9 }.finish cfg).point = { silent with pos := 9 } := by
  unfold AtStage; decide +kernel

/-- The programme link's output falls silent and sounds again (R172). -/
theorem test_hyp_MeterWindowsClose_link :
    let p : MeterPoint := { MeterPoint.reset with running := true, pos := 10 }
    let n (q : MeterPoint) : Node :=
      { closing q with
        cfg := { station.cfg with silenceThreshold := 100, silenceTime := 5 },
        link := { station.link with deadAir := q.silent } }
    let shown (q : MeterPoint) :=
      let l := (closeLinkOutput (n q)).link
      (l.deadAir, l.counters.deadAirOnsets)
    shown { p with silentRun := 4 } = (true, 1) ∧
      shown { p with silent := true, soundRun := 199, peak := 100 } = (false, 0) ∧
      shown { p with silent := true } = (true, 0) := by decide +kernel

/-! ## Chapter 4 -/

def openArgs10 (clip channels : Byte) (length : List Byte) : List Byte := [clip, channels] ++ length ++ [0, 0, 0, 0]

def loading : ClipEntry :=
  { ClipEntry.reset with state := .loading, channels := 1, length := 1, pageCount := 1, serial := 4 }

def load1 : LoadContext := { clip := 1, opener := 3, tag := 9, serial := 4, crc := 0xFFFFFFFF, idleAge := 2000 }

def stored (e : ClipEntry) (loads : List LoadContext) : Node :=
  { studio with store := { (studio.store.setClip 1 e) with loads := loads, free := [{ first := 1, count := 1023 }] } }

def readyClip : ClipEntry := { loading with state := .ready, received := 1 }

/-- Lengths 1 and 16,777,215, and one that no extent holds; the four outcomes before OK. -/
theorem test_hyp_ClipOpenAndDeleteDecided :
    Asked 3 2 10 (between studio) ∧ (openArgs10 1 1 [0, 0, 0, 1]).length = 10 ∧
      fieldAt (openArgs10 1 2 [0, 255, 255, 255]) 2 4 = 16777215 ∧ byteAt (openArgs10 1 3 [0, 0, 0, 1]) 1 = 3 ∧
      0 < ((stored { readyClip with useCount := 1 } []).store.clip 1).useCount ∧
      4 ≤ (List.replicate 4 { load1 with clip := 2 }).length ∧
      (∀ l ∈ List.replicate 4 { load1 with clip := 2 }, l.clip ≠ 1) ∧
      (∀ x ∈ studio.store.free, x.count < (16777215 * 2 + 4095) / 4096) ∧
      studio.store.free = [] ++ { first := 0, count := 1024 } :: [] ∧ (1 * 1 + 4095) / 4096 ≤ 1024 :=
  ⟨asked rfl rfl rfl (by decide), by decide +kernel⟩

theorem test_hyp_ClipOpenAndDeleteDecided_delete :
    Asked 3 2 1 (between studio) ∧ (studio.store.clip 1).state = .empty ∧
      ((stored { readyClip with useCount := 1 } []).store.clip 1).useCount = 1 ∧
      ((stored readyClip []).store.clip 1).state = .ready ∧ ((stored readyClip []).store.clip 1).useCount = 0 ∧
      ((stored loading [load1]).store.clip 1).state = .loading :=
  ⟨asked rfl rfl rfl (by decide), by decide +kernel⟩

/-- A segment of one mono sample set of clip 1, serial 4. -/
def segment (off count flags : Byte) : List Byte := [1, 4, 0, 0, off, count, flags, 0, 0, 1]

theorem test_hyp_ClipLoadGoesOn :
    Reached 3 31 10 (between (stored loading [load1])) ∧ (stored loading [load1]).store.loadOf 1 = some load1 ∧
      (segment 0 1 1).length = 7 + 1 * 1 * 3 ∧ byteAt (segment 0 1 1) 1 = (4 : Byte) ∧
      byteAt (segment 0 0 1) 5 = 0 ∧ byteAt (segment 0 129 1) 5 = 129 ∧ byteAt (segment 0 1 2) 6 = 2 ∧
      (stored readyClip []).store.loadOf 1 = none ∧ (segment 0 2 1).length ≠ 7 + 2 * 1 * 3 ∧
      fieldAt (segment 0 1 0) 2 3 < 1 ∧ 0 < fieldAt (segment 1 1 0) 2 3 ∧ loading.length = 0 + 1 :=
  ⟨reached rfl rfl rfl (by decide), by decide +kernel⟩

theorem test_hyp_ClipLoadGoesOn_closed :
    AtStage .loadTimeout [] (boundaryAt .loadTimeout (stored loading [load1])) ∧
      (∃ l ∈ (stored loading [load1]).store.loads, 2000 ≤ l.idleAge) ∧ readyClip.received = readyClip.length ∧
      loading.received < loading.length :=
  ⟨rfl, ⟨load1, by decide +kernel, by decide⟩, by decide, by decide⟩

theorem test_hyp_FreeExtentsKept :
    let l : List Extent := [{ first := 0, count := 2 }, { first := 5, count := 3 }]
    let e : Extent := { first := 2, count := 3 }
    l.Pairwise (fun a b => a.first + a.count < b.first) ∧ (∀ x ∈ l, 0 < x.count) ∧
      (∀ x ∈ l, e.first + e.count ≤ x.first ∨ x.first + x.count ≤ e.first) ∧
      freeExtent e l = [{ first := 0, count := 8 }] ∧ allocate 3 l = some (5, [{ first := 0, count := 2 }]) ∧
      (∀ x ∈ l, x.count < 4) := by decide +kernel

/-- A station of every role with clip 1 READY and a link unit. -/
def linked (f : Link → Link) : Node := { stored readyClip [] with cfg := settings busRoles, link := f Link.reset }

/-! ## Chapter 5 -/

/-- CUE_ADD of entry 7: clip 1 from its start, an empty label. -/
def cueArgs (id start : Byte) : List Byte := [id, 0, 1, 0, 0, 0, start, 0, 0, 0, 0, 0, 64, 0, 1, 0, 0]

def cue7 : CueEntry := cueOfArgs (cueArgs 7 0)

def cued (l : List CueEntry) (a b : Player) : Node :=
  { stored readyClip [] with cue := { Cue.reset with list := l, a := a, b := b } }

def player (st : PlayerState) : Player := { Player.reset with state := st, item := some cue7 }

theorem test_hyp_CueListRequestsDecided :
    Asked 3 2 17 (between (cued [] .reset .reset)) ∧ (cueArgs 7 0).length = 17 + byteAt (cueArgs 7 0) 16 ∧
      cueFieldsGood 2 (cueArgs 7 0) = true ∧ cueFieldsGood 2 (cueArgs 0 0) = false ∧
      (List.replicate 32 cue7).length = 32 ∧ (List.replicate 31 cue7).length < 32 ∧ cue7.id = 7 ∧
      ((cued [] .reset .reset).store.clip 1).state = .ready ∧ (cueOfArgs (cueArgs 7 0)).startOffset < 1 ∧
      1 ≤ (cueOfArgs (cueArgs 7 1)).startOffset ∧ (player .armed).cueId = 7 ∧
      [cue7].find? (fun x => decide (x.id = 7)) = some cue7 :=
  ⟨asked rfl rfl rfl (by decide), by decide +kernel⟩

theorem test_hyp_PlayAndStopDecided :
    Asked 3 2 1 (between (cued [cue7] (player .playing) .reset)) ∧
      (cued [] (player .paused) .reset).cue.a.state = .paused ∧
      (cued [] .reset (player .armed)).cue.b.state = .armed ∧ (cued [cue7] .reset .reset).cue.list = [cue7] ∧
      (cued [] .reset .reset).cue.list = [] ∧
      ((cued [] (player .playing) (player .stopping)).cue.a.state = .playing ∧
        (cued [] (player .playing) (player .stopping)).cue.b.state = .stopping) ∧
      2 < byteAt [3] 0 ∧ byteAt [2] 0 = 2 :=
  ⟨asked rfl rfl rfl (by decide), by decide +kernel⟩

theorem test_hyp_ArmingAndStart :
    ((cued [cue7] .reset .reset).player false).state = .idle ∧
      ((cued [cue7] .reset .reset).player true).state ≠ .armed ∧ (cued [cue7] .reset .reset).cue.preferB = false ∧
      cue7.source = .clip 1 ∧ station.streams.addOutcome 3 0 = .added 0 ∧
      (listening none).streams.addOutcome 3 0 = .refused .inUse ∧
      ((cued [] (player .armed) .reset).player false).item = some cue7 := by decide +kernel

/-- A PAUSABLE stream item that a segue starts with the held flag set: PAUSED, its position saved (R91). -/
theorem test_hyp_ArmingAndStart_stream :
    let e : CueEntry := { cue7 with source := .stream 3 0, pausable := true }
    let n (held : Bool) : Node :=
      let x := cued [] { player .armed with item := some e, entry := some 0 } .reset
      { x with cue := { x.cue with heldFlag := held } }
    let shown (x : Node) := (x.cue.a.state, x.cue.a.saved)
    ((n true).player false).item = some e ∧ e.isClip = false ∧ e.startOffset = 0 ∧
      shown (startPlayer false false (n true)) = (.paused, some 0) ∧
      shown (startPlayer false true (n true)) = (.playing, none) ∧
      shown (startPlayer false false (n false)) = (.playing, none) := by decide +kernel

theorem test_hyp_CueRowsAtABoundary :
    let ended : Player := { player .playing with blocks := 1, segueBlock := 1, count := 1 }
    let fading : Player :=
      { ended with item := some { cue7 with fadeOut := 1 }, count := 0 }
    let n : Node := cued [] ended .reset
    let r : Node := { n with mixer := { n.mixer with faderA := { (Ramp.settled 0).retarget 16384 1 with pos := 48 } } }
    AtStage .itemNaturalEnd [] (boundaryAt .itemNaturalEnd n) ∧ ended.naturalEnd = true ∧
      n.cue.a.segueDue = true ∧ fading.fadeOutDue = true ∧ r.mixer.faderA.running = true ∧
      r.mixer.faderA.len ≤ r.mixer.faderA.pos ∧
      ({ n with cue := { n.cue with countdown := some 0 } } : Node).cue.heldFlag = false := by
  unfold AtStage; decide +kernel

/-- A player whose slot has ended, in each case of R97; paused under PREEMPTED, resumed by a wake or a PLAY;
armed with a PLAY pending; each order of step 5. -/
theorem test_hyp_CueItemsEndPauseResumeAndPlay :
    let ended (st : PlayerState) : Node := cued [] { player st with slotEnded := true } .reset
    let x : ListenEntry := { valid := true, station := 3, index := 2, purpose := .item, requester := .cueEngine }
    let n : Node := { station with streams := { station.streams with listen := station.streams.listen.set 5 x } }
    (n.streams.entry 5).purpose = .item ∧ ((ended .stopping).player false).slotEnded = true ∧
      ((ended .stopping).player false).state = .stopping ∧ ((ended .playing).player false).state = .playing ∧
      ((ended .playing).player false).auto = true ∧
      ({ player .playing with item := some { cue7 with auto := false } } : Player).auto = false ∧
      (station.player true).slotEnded = false ∧
      (player .playing).pausable = false ∧
      ({ player .playing with item := some { cue7 with pausable := true } } : Player).pausable = true ∧
      station.cue.standing = none ∧
      ({ player .paused with wake := true } : Player).wake = true ∧
      ({ player .paused with pending := true, saved := some 5 } : Player).saved = some 5 ∧
      ({ player .armed with pending := true } : Player).pending = true ∧ (player .paused).order = none ∧
      ({ player .playing with order := some .start } : Player).fadeOutDue = false ∧
      ({ player .playing with
          item := some { cue7 with fadeOut := 1 }, order := some .start, blocks := 1, count := 0 } : Player).fadeOutDue
        = true := by
  decide +kernel

/-! ## Chapter 6 -/

theorem test_hyp_ClaimSetDecided :
    Asked 3 2 1 (between studio) ∧ studio.cfg.roles.studio = true ∧ 2 < byteAt [3] 0 ∧
      byteAt [0] 0 = studio.air.ownLevel ∧ byteAt [2] 0 ≠ studio.air.ownLevel ∧ byteAt [2] 0 ≤ 2 :=
  ⟨asked rfl rfl rfl (by decide), by decide +kernel⟩

def claimOf (level : Nat) (st : ClaimState) : Claim :=
  { kind := .peer, level := level, arrival := 0, state := st, reason := none, alertId := 0 }

def claiming (k level : Nat) (st : ClaimState) (h : Holder) (stack : List StackRecord) : Node :=
  { studio with
    air :=
      { ({ studio.air with holder := h, stack := stack } : Air).modifyEntry k
          (fun e => { e with claim := some (claimOf level st) }) with
        arrivals := 1 } }

def peerHolder : Holder := { kind := .peer, station := 4, level := 1, arrival := 0, alertId := 0, entry := none }

def stacked : StackRecord := { station := 4, level := 1, arrival := 0, isOwn := false }

theorem test_hyp_ClaimsPreemptAndResume :
    studio.cfg.roles.link = false ∧ studio.judging = true ∧
      ((claiming 3 2 .waiting peerHolder []).air.entry 3).claim = some (claimOf 2 .waiting) ∧
      (claiming 3 2 .waiting peerHolder []).bestWaiting = some (3, claimOf 2 .waiting) ∧
      peerHolder.level < 2 ∧ (1 : Nat) ≤ peerHolder.level ∧
      (claiming 3 2 .silent peerHolder []).bestWaiting = none ∧
      ((claiming 3 1 .holding peerHolder [stacked]).air.entry 3).claim = some (claimOf 1 .holding) ∧
      (claiming 3 1 .stacked peerHolder [stacked]).air.stack = [stacked] ∧ 3 - 1 < studio.air.claims.length ∧
      ((claiming 3 1 .unreachable peerHolder []).air.entry 3).claim = some (claimOf 1 .unreachable) ∧
      ((claiming 3 1 .stacked peerHolder [stacked]).air.entry 3).claim = some (claimOf 1 .stacked) ∧
      ((claiming 3 1 .silent peerHolder []).air.entry 3).claim = some (claimOf 1 .silent) ∧
      ((claiming 3 1 .waiting peerHolder []).air.entry 3).listen = none ∧
      (studio.air.entry 3).claim = none := by decide +kernel

/-- AIRVIEW lists the kind of an entry that holds a last serial and no claim, of PEER and LOCAL alike (R127). -/
theorem test_airview_kinds :
    let n (k : Nat) : Node :=
      { studio with air := studio.air.modifyEntry k (fun e => { e with lastSerial := some 7 }) }
    let shown (x : Node) := x.airView.claims.map (fun r => (r.station, r.kind, r.entry.claim))
    shown studio = [] ∧ shown (n 3) = [(3, .peer, none)] ∧ shown (n 2) = [(2, .own, none)] := by decide +kernel

/-- Claims heard from a source that is absent and from one that is present, at the distances 0, 1, 127, 128 and
255 of the serial (R111). -/
theorem test_hyp_ClaimsPreemptAndResume_heard :
    let n (last : Option Byte) : Node :=
      { studio with
        bus :=
          { studio.bus with presence := studio.bus.presence.set 2 { Presence.absent with present := true } },
        air := studio.air.modifyEntry 3 (fun e => { e with lastSerial := last }) }
    let counts (x : Node) := (x.air.counters.absentSource, x.air.counters.stale, (x.air.entry 3).claim.isSome)
    let heard (last : Option Byte) (serial : Byte) := counts (claimHeard 3 1 serial (n last))
    (studio.bus.entry 3).present = false ∧ ((n none).bus.entry 3).present = true ∧
      ((n (some 255)).air.entry 3).lastSerial = some 255 ∧ counts (claimHeard 3 1 0 studio) = (1, 0, false) ∧
      heard none 9 = (0, 0, true) ∧ heard (some 255) 255 = (0, 0, false) ∧ heard (some 255) 0 = (0, 0, true) ∧
      heard (some 1) 128 = (0, 0, true) ∧ heard (some 1) 129 = (0, 1, false) ∧ heard (some 1) 0 = (0, 1, false) := by
  decide +kernel

theorem test_hyp_OutgoingMembersLeave :
    let n : Node :=
      { (claiming 3 2 .stacked peerHolder []) with
        air := { (claiming 3 2 .stacked peerHolder []).air with outgoing := [{ entry := 0, count := 0 }] } }
    AtStage .outgoingExpiry [] (boundaryAt .outgoingExpiry n) ∧ (∃ m ∈ n.air.outgoing, m.count = 0) ∧
      ((n.air.entry 3).claim).map Claim.state = some .stacked ∧ (n.air.entry 5).claim = none := by
  unfold AtStage; decide +kernel

/-- A LINK station with a claim in entry 3 and a listen table. -/
def follower (st : ClaimState) (h : Holder) (listen : List ListenEntry) : Node :=
  { claiming 3 2 st h [] with
    cfg := settings busRoles, streams := { studio.streams with listen := listen } }

/-- A FOLLOW entry of the air unit for station 3 in hand, none in hand with room, and none in hand without. -/
theorem test_hyp_LinkStationFollows :
    let free : List ListenEntry := List.replicate 8 ListenEntry.reset
    let full : List ListenEntry := List.replicate 8 { entry3 with station := 5 }
    let n : Node := follower .waiting studio.air.holder free
    n.cfg.roles.link = true ∧ n.judging = true ∧ n.air.holder.kind = .none ∧
      (n.air.entry 3).claim = some (claimOf 2 .waiting) ∧ n.air.holder.level < 2 ∧ n.streams.find 3 0 = none ∧
      n.streams.addOutcome 3 0 = .added 0 ∧ (obtainFollow 3 n).1 = .added 0 ∧
      ((obtainFollow 3 n).2.air.entry 3).listen = some 0 ∧
      ((follower .waiting studio.air.holder (free.set 2 entry3)).streams.find 3 0) = some 2 ∧
      ((follower .waiting studio.air.holder (free.set 2 entry3)).streams.entry 2).requester = .airUnit ∧
      (obtainFollow 3 (follower .waiting studio.air.holder full)).1 = .refused .full ∧
      (∀ m ∈ n.air.outgoing, m.entry ≠ 0) ∧
      ((follower .unreachable peerHolder free).air.entry 3).claim = some (claimOf 2 .unreachable) ∧
      ((follower .holding peerHolder free).air.entry 3).claim = some (claimOf 2 .holding) ∧
      ((follower .stacked peerHolder free).air.entry 3).claim = some (claimOf 2 .stacked) ∧
      ({ n.bus.entry 3 with present := true } : Presence).present = true := by decide +kernel

/-- A claimant of a LINK station above a PEER and a LOCAL holder, and below one; stack tops that sound, have
ended, and stand below a claim that waits. -/
theorem test_hyp_LinkStationFollows_selection :
    let free : List ListenEntry := List.replicate 8 ListenEntry.reset
    let above (h : Holder) (l : List ListenEntry) : Node := follower .waiting h l
    let stood (top : StackRecord) (st : ClaimState) (slot : SlotState) : Node :=
      let n := follower st { peerHolder with station := 3, level := 2 } (free.set 2 { entry3 with station := 4 })
      { n with
        air := { (n.air.modifyEntry 4 (fun e => { e with listen := some 2 })) with stack := [top] },
        streams := { n.streams with slots := n.streams.slots.set 2 { Slot.reset with state := slot } } }
    let own : StackRecord := { stacked with isOwn := true, level := 2 }
    peerHolder.kind = .peer ∧ (above peerHolder free).air.holder.level < 2 ∧
      (obtainFollow 3 (above peerHolder free)).1 = .added 0 ∧
      (above { peerHolder with kind := .own } free).air.holder.kind = .own ∧
      (2 : Nat) ≤ (above { peerHolder with level := 2 } free).air.holder.level ∧
      (claimOf 2 .waiting).kind = .peer ∧ (stood stacked .waiting .ended).bestWaiting = some (3, claimOf 2 .waiting) ∧
      stacked.isOwn = false ∧ ((stood stacked .silent .ended).air.entry 4).listen = some 2 ∧
      ((stood stacked .silent .ended).streams.slot 2).state = .ended ∧
      ((stood stacked .silent .running).streams.slot 2).state ≠ .ended ∧
      (stood stacked .silent .running).bestWaiting = none ∧ (stood own .waiting .ended).air.stack = [own] ∧
      stacked.level < 2 ∧ (2 : Nat) ≤ own.level ∧ (follower .silent peerHolder free).air.stack = [] ∧
      (follower .silent peerHolder free).bestWaiting = none := by decide +kernel

/-- A PEER holder heard through entry 0, and a SILENT claimant; a window whose peak is loud. -/
theorem test_hyp_SilenceAndRecovery :
    let h : Holder := { peerHolder with entry := some 0 }
    let quiet : MeterPoint := { MeterPoint.reset with running := true, pos := 10, silentRun := 1999 }
    let loud : MeterPoint := { MeterPoint.reset with running := true, pos := 10, peak := 1 }
    let cfg : Settings := { settings busRoles with silenceThreshold := 1 }
    (follower .silent h []).air.holder.kind = .peer ∧ (follower .silent h []).air.holder.entry = some 0 ∧
      station.air.holder.kind = .none ∧ ((follower .silent h []).air.entry 3).claim = some (claimOf 2 .silent) ∧
      (studio.air.entry 3).claim = none ∧ (quiet.finish cfg).report = some true ∧
      station.link.pending = none ∧ (linked fun l => { l with pending := some .own }).link.pending = some .own ∧
      (loud.finish cfg).sounding = true ∧ (quiet.finish cfg).sounding = false ∧
      (station.streams.slot 0).state ≠ .ended := by decide +kernel

/-- The two views, and each standing in each of them. -/
theorem test_hyp_StandingFollows :
    let own (h : Holder) : Node :=
      let n := claiming 3 2 .waiting h []
      { n with air := { n.air with ownLevel := 1 } }
    let far (l : RollLink) : Node :=
      { own studio.air.holder with
        bus :=
          { studio.bus with
            linkStation := some 5,
            presence := studio.bus.presence.set 4 { Presence.absent with present := true, link := some l } } }
    let l (h : Announced) : RollLink := { holder := h, level := 2, lost := false }
    (studio.bus.linkStation = none ∧ (far (l .reserve)).bus.linkStation = some 5) ∧
      (refreshStanding (own { peerHolder with kind := .own, station := 2 })).air.standing = .holding ∧
      (refreshStanding (own { peerHolder with level := 2 })).air.standing = .preempted ∧
      (refreshStanding (own { peerHolder with level := 1 })).air.standing = .offAir ∧
      (refreshStanding (far (l (.station 2)))).air.standing = .holding ∧
      (refreshStanding (far (l (.alert 9)))).air.standing = .preempted ∧
      (refreshStanding (far (l (.alert 9)))).air.alertOnAir = true ∧
      (refreshStanding (far (l .reserve))).air.standing = .offAir ∧
      (refreshStanding (far (l .reserve))).air.waiting = true ∧
      stageDue .tallyApply studio = true := by decide +kernel

/-! ## Chapter 7 -/

def lineIn (st : LineState) : LineRecord := { LineRecord.reset with state := st }

def phoned (l : LineRecord) (queue : List Nat) : Node :=
  { station with phone := { station.phone with lines := station.phone.lines.set 3 l, queue := queue } }

def onAirFor (who : Party) (index : Nat) : LineRecord :=
  { lineIn .onAir with seized := true, studio := some who, mmIndex := some index }

theorem test_hyp_CallRequestsDecided :
    Asked 3 2 1 (between (phoned (lineIn .ringing) [])) ∧ Asked 3 2 3 (between station) ∧
      station.cfg.roles.phone = true ∧ 4 < byteAt [5] 0 ∧ byteAt [0] 0 = 0 ∧ station.phone.nextRinging = none ∧
      (phoned { lineIn .ringing with rangAt := some 0 } []).phone.nextRinging = some 4 ∧
      ((phoned (lineIn .ringing) []).phone.line 4).state = .ringing ∧ (station.phone.line 4).state = .idle ∧
      ((phoned (lineIn .queued) [4]).phone.line 4).state = .queued ∧ byteAt [4, 1, 0] 2 = 0 ∧
      byteAt [4, 1, 17] 2 = 17 ∧ ((phoned (onAirFor (.station 3) 6) []).phone.line 4).studio = some (.station 3) ∧
      ((phoned (onAirFor .own 6) []).phone.line 4).studio ≠ some (.station 3) :=
  ⟨asked rfl rfl rfl (by decide), asked rfl rfl rfl (by decide), by decide +kernel⟩

/-- Lines 2 to 4 RINGING at the block count 5: the oldest across the wrap, and the lowest of two equals (R131). -/
theorem test_hyp_CallRequestsDecided_next :
    let rung (x : Count32) : LineRecord := { lineIn .ringing with rangAt := some x }
    let p (a b c : Count32) : Phone :=
      { station.phone with blockCount := 5, lines := [lineIn .idle, rung a, rung b, rung c] }
    (5 - (4294967295 : Count32)).toNat ≤ 2147483647 ∧ (p 3 4294967295 2).nextRinging = some 3 ∧
      (p 3 2 2).nextRinging = some 3 ∧ (p 5 5 5).nextRinging = some 2 := by decide +kernel

theorem test_hyp_CallTakeDecided :
    Asked 3 2 2 (between (phoned (lineIn .queued) [4])) ∧ 4 < byteAt [5, 6] 0 ∧ byteAt [0, 5] 1 = 5 ∧
      (phoned (lineIn .queued) [4]).phone.queue.head? = some 4 ∧
      (phoned { lineIn .queued with screened := true } [4]).phone.queue.find?
        (fun j => ((phoned { lineIn .queued with screened := true } [4]).phone.line j).screened) = some 4 ∧
      ((phoned (onAirFor (.station 3) 6) []).phone.line 4).mmIndex = some 6 ∧
      ((phoned (onAirFor (.station 3) 7) []).phone.line 4).mmIndex ≠ some 6 ∧
      ((phoned (onAirFor (.station 5) 6) []).phone.line 4).studio ≠ some (.station 3) ∧
      (phoned (lineIn .queued) [4]).streams.addOutcome 3 6 = .added 0 ∧
      (∀ j, j < 4 → 1 ≤ j → ((phoned (lineIn .queued) [4]).phone.line j).state = .idle) :=
  ⟨asked rfl rfl rfl (by decide), by decide +kernel⟩

def caller (st : TakeState) (w : Option Watch) : Node :=
  { station with
    take := { station.take with ch1 := { TakeRecord.reset with state := st, line := some 1, watch := w } },
    mixer := { station.mixer with caller1 := { Caller.reset with state := .active } } }

theorem test_hyp_PhoneLinesChange :
    let rung : Node := { station with pins := { station.pins with ring := [false, false, false, true] } }
    AtStage .ringStart [] (boundaryAt .ringStart rung) ∧ rung.rings 4 = true ∧
      (phoned { lineIn .ringing with ringAbsent := 6000 } []).gaveUp 4 = true ∧
      (phoned { lineIn .queued with seized := true, loopAbsent := 20 } [4]).hungUp 4 = true ∧
      (phoned { onAirFor .own 6 with watch := some { age := 200, met := false } } []).takeWatchFails 4 = true ∧
      (caller .onAir (some { age := 200, met := false })).callerWatchDue = true ∧
      ((caller .onAir none).take.channel 1).state = .onAir ∧
      ((caller .onAir none).mixer.caller 1).state = .active ∧ station.phone.holdEntry = none ∧
      ({ caller .onAir none with mixer := station.mixer }.mixer.caller 1).state = .inactive ∧
      ({ phoned (lineIn .queued) [4] with cfg := settings { Roles.empty with phone := true } } : Node).holdNeeded =
        false := by
  unfold AtStage; decide +kernel

/-- A line joins the queue at its head, in its middle and at its end, an equal count by line number, across the
wrap (R133); a queue of none. -/
theorem test_hyp_PhoneLinesChange_queue :
    let at_ (x : Count32) : LineRecord := { lineIn .held with answeredAt := some x }
    let joined (a b c : Count32) (i : Nat) (q : List Nat) : List Nat :=
      let n : Node :=
        { station with
          phone := { station.phone with lines := [at_ a, at_ b, at_ c, lineIn .idle], queue := q } }
      (joinQueue i n).phone.queue
    joined 4294967295 0 1 1 [2, 3] = [1, 2, 3] ∧ joined 1 2 3 2 [1, 3] = [1, 2, 3] ∧
      joined 1 2 2 3 [1, 2] = [1, 2, 3] ∧ joined 1 2 2 2 [1, 3] = [1, 2, 3] ∧ joined 1 2 3 1 [] = [1] := by
  decide +kernel

/-- The station of a line ON_AIR goes absent: the line returns to HELD and the loss is counted (R142); the line of
another station, and one that is not ON_AIR, stay. -/
theorem test_hyp_RollCallAndAbsence_studio :
    let n : Node := phoned { onAirFor (.station 5) 6 with answeredAt := some 1 } []
    let m : Node := studioAbsent 5 n
    (n.phone.line 4).state = .onAir ∧ (n.phone.line 4).studio = some (.station 5) ∧
      (m.phone.line 4).state = .held ∧ m.phone.queue = [4] ∧ m.phone.counters.studioLosses = 1 ∧
      ((studioAbsent 6 n).phone.line 4).state = .onAir := by
  decide +kernel

/-- The roll call of a station with every role whose channel 1 holds a caller of station 3 (R15), with each kind of
holder. -/
theorem test_hyp_RollCallAndAbsence_content :
    let n (k : HolderKind) : Node :=
      let c : Node := caller .onAir none
      { c with
        take := { c.take with ch1 := { c.take.ch1 with phone := some (.station 3) } },
        air := { c.air with holder := { c.air.holder with kind := k, station := 4, level := 1, alertId := 9 } } }
    let held (k : HolderKind) := (n k).rollcall.link.map (fun l => (l.holder, l.level))
    (n .none).rollcall.studio = some { caller1 := some (3, 1), caller2 := none } ∧
      held .none = some (.silence, 0) ∧ held .reserve = some (.silence, 0) ∧ held .peer = some (.station 4, 1) ∧
      held .own = some (.station 2, 1) ∧ held .alert = some (.alert 9, 1) ∧ studio.rollcall.link = none ∧
      studio.rollcall.phone = none := by decide +kernel

/-- The hold feed's entry added, and refused where the stream is named already (R135). -/
theorem test_hyp_PhoneLinesChange_hold :
    let n (x : Node) : Node := { x with bus := { x.bus with linkStation := some 3 } }
    let follows : Node :=
      { listening none with
        streams :=
          { (listening none).streams with listen := station.streams.listen.set 0 { entry3 with index := 5 } } }
    let shown (x : Node) := (x.phone.holdEntry, x.phone.counters.holdFeedRefusals)
    (n station).streams.addOutcome 3 5 = .added 0 ∧ (n follows).streams.addOutcome 3 5 = .refused .inUse ∧
      shown (addHold (n station)) = (some 0, 0) ∧ shown (addHold (n follows)) = (none, 1) := by decide +kernel

/-- A RINGING line without ring and a seized one without loop current; watches met, to be met and to age. -/
theorem test_hyp_PhoneLinesChange_counts :
    let rings : Node := phoned { lineIn .ringing with ringAbsent := 5999 } []
    let held : Node := phoned { lineIn .held with seized := true, loopAbsent := 19 } [4]
    let watched (st : SlotState) (met : Bool) : Node :=
      { phoned { onAirFor .own 6 with mmEntry := some 7, watch := some { age := 199, met := met } } [] with
        streams :=
          { station.streams with slots := station.streams.slots.set 7 { Slot.reset with state := st } } }
    let w (n : Node) := ((stageRun .takeWatch [] n).phone.line 4).watch
    let c (n : Node) := (stageRun .callerWatch [] n).take.ch1.watch
    ((stageRun .phoneCounts [] rings).phone.line 4).ringAbsent = 6000 ∧
      ((stageRun .phoneCounts [] held).phone.line 4).loopAbsent = 20 ∧
      w (watched .free false) = some { age := 200, met := false } ∧
      w (watched .ended false) = some { age := 199, met := true } ∧
      w (watched .free true) = some { age := 199, met := true } ∧ w station = none ∧
      c (caller .onAir (some { age := 199, met := false })) = some { age := 200, met := false } ∧
      c (caller .releasing (some { age := 199, met := false })) = some { age := 199, met := false } := by
  decide +kernel

/-- A channel TAKING, one ON_AIR with two drops pending, one RELEASING; answers with a line and without. -/
theorem test_hyp_TakeAndDropOutcomes :
    let on : Node :=
      { station with
        take :=
          { station.take with
            ch2 := { TakeRecord.reset with state := .onAir, entry := some 4, drops := [7, 8] } } }
    ((caller .taking none).take.channel 1).state = .taking ∧ (station.take.channel 2).state ≠ .taking ∧
      station.streams.addOutcome 3 4 = .added 0 ∧
      (listening none).streams.addOutcome 3 0 = .refused .inUse ∧
      (7 : Byte) ∈ (on.take.channel 2).drops ∧ (8 : Byte) ∈ (on.take.channel 2).drops ∧
      (9 : Byte) ∉ (on.take.channel 2).drops ∧ ((on.take.channel 2).drops.erase 7).getLast? = some 8 ∧
      ((on.take.channel 2).drops.erase 8).getLast? = some 7 ∧
      ((caller .releasing none).take.channel 1).state = .releasing ∧ (on.take.channel 2).entry = some 4 ∧
      (on.take.channel 1).entry ≠ some 4 ∧
      (dropTimedOut 2 8 9 on).lines.lastRefusal.map RefusedKey.result = some .timeout ∧
      (dropTimedOut 2 8 9 on).lines.refusals = 1 ∧ ((dropTimedOut 2 8 9 on).take.channel 2).state = .onAir ∧
      ((dropAnswered 2 8 7 2 on).take.channel 2).state = .free := by decide +kernel

/-! ## Chapter 8 -/

def gathering (bs : List Byte) : Node := { station with alert := { station.alert with gathered := bs } }

/-- The record's bytes on the alert line. -/
def lineBytes (r : AlertRecord) : List Byte := withCrc (0x96 :: alertBytes r)

theorem test_hyp_AlertLineHeard :
    station.onBus = true ∧ station.cfg.roles.alert = true ∧ studio.cfg.roles.alert = false ∧
      station.alert.gathered = [] ∧ (gathering [0x96]).alert.gathered ≠ [] ∧ (lineBytes record).length = 19 ∧
      crcBytes ((lineBytes record).take 15) = (lineBytes record).drop 15 ∧ byteAt (lineBytes record) 1 = 1 ∧
      byteAt (lineBytes record) 4 = 2 ∧ byteAt (lineBytes { record with cls := 4 }) 4 = 4 ∧
      byteAt (lineBytes { record with cls := 5 }) 4 = 5 ∧
      crcBytes ((lineBytes record).take 14 ++ [0]) ≠ (lineBytes record).drop 15 ∧ Quiet (between station) := by
  unfold Quiet; decide +kernel

def queued (id cls : Nat) : QueuedAlert :=
  { record := { record with id := id, cls := cls }, issuer := 3, hasMessage := false }

def active (cls : Nat) (e : Ending) : ActiveAlert :=
  { record := { record with cls := cls }, issuer := 3, hasMessage := false, noTone := false, count := 0,
    capBlock := 10000, ending := e }

def alerting (q : List QueuedAlert) (a : Option ActiveAlert) (p : AlertPlayer) : Node :=
  { station with alert := { station.alert with queue := q, active := a, player := p } }

theorem test_hyp_AlertsJudged :
    Reached 3 31 14 (between station) ∧ (alertBytes record).length = 14 ∧ Asked 3 2 2 (between station) ∧
      record.code ^^^ record.complement = 65535 ∧ record.code = station.cfg.alertCode ∧
      record.code ≠ studio.cfg.alertCode + 1 ∧ areaPasses station.cfg 65535 = true ∧
      areaPasses station.cfg 5 = true ∧ areaPasses station.cfg 6 = false ∧
      station.alert.knows record = false ∧ (alerting [queued 100 2] none .reset).alert.knows record = true ∧
      station.cfg.testAlerts = false ∧ [queued 1 1, queued 2 1, queued 3 1].length < 4 ∧
      [queued 1 3, queued 2 3, queued 3 1, queued 4 1].getLast? = some (queued 4 1) ∧
      (active 1 .none).record.cls < record.cls ∧ (active 2 .cap).record.id = record.id ∧
      fieldAt [0, 100] 0 2 = 100 ∧ fieldAt [0, 101] 0 2 ≠ 100 ∧ station.alert.writePos < 16 ∧
      station.alert.ring.length = 16 :=
  ⟨reached rfl rfl rfl (by decide), by decide +kernel, asked rfl rfl rfl (by decide), by decide +kernel⟩

theorem test_hyp_AlertRowsAtABoundary :
    let tone : AlertPlayer := { AlertPlayer.reset with phase := .tone }
    let faded : AlertPlayer := { tone with fader := { (Ramp.settled 16384).retarget 0 10 with pos := 480 } }
    AtStage .alertActivation [] (boundaryAt .alertActivation (alerting [queued 1 2] none .reset)) ∧
      (alerting [queued 1 2] none .reset).activationDue = true ∧
      (alerting [] (some (active 2 .none)) tone).alertClipDue = true ∧
      (alerting [] (some (active 2 .none)) { tone with phase := .message, repetition := 1 }).alertClipDue = true ∧
      (alerting [] (some (active 2 .cap)) faded).alertFadeDue = true ∧
      (alerting [] (some { active 2 .none with count := 9990 }) tone).alertCapDue = true ∧
      ({ gathering [0x96] with alert := { (gathering [0x96]).alert with gap := 20 } } : Node).gapDue = true ∧
      (alerting [] (some (active 2 .none)) { tone with startNext := true }).alert.player.startNext = true ∧
      (active 2 .none).noTone = false ∧ ({ active 2 .none with noTone := true } : ActiveAlert).noTone = true := by
  unfold AtStage; decide +kernel

/-- The history after 1, 16 and 17 entries: the newest first, the oldest lost, the write position round. -/
theorem test_history_ring :
    let written (k : Nat) : Node :=
      (List.range k).foldl (fun n i => writeHistory { record with id := i } 3 .aired HistFlags.none n) station
    (written 1).alert.history.map HistEntry.id = [0] ∧ (written 16).alert.history.length = 16 ∧
      (written 16).alert.writePos = 0 ∧ (written 17).alert.entryCount = 16 ∧ (written 17).alert.writePos = 1 ∧
      (written 17).alert.history.map HistEntry.id = (List.range 16).map (fun k => 16 - k) := by decide +kernel

/-! ## Chapter 9 -/

theorem test_hyp_SiteClipSendDecided :
    Asked 3 2 2 (between (linked id)) ∧ ((linked id).store.clip 1).state = .ready ∧
      ((linked id).store.clip 2).state ≠ .ready ∧ (linked id).link.returnLost = true ∧
      (linked (fun l => { l with returnLost := false })).link.transfer.phase = .none ∧
      (linked (fun l => { l with transfer := { l.transfer with phase := .waiting } })).link.transfer.phase ≠ .none :=
  ⟨asked rfl rfl rfl (by decide), by decide +kernel⟩

def status (serial : Byte) (st mode : Nat) : ReturnFrame :=
  ReturnFrame.sealed {
    linkId := 0, siteId := 0, seq := 1, siteMode := mode, lastGood := 0, crcErrors := 0, lost := 0,
    contacts := [false, false, false, false], transferState := st, transferSerial := serial,
    transferOffset := 0, peak := 0, crc := 0 }

theorem test_hyp_ReturnFrameTaken :
    Quiet (between (linked id)) ∧ (linked id).onBus = true ∧
      returnFrameGood 0 0 (returnFrameBytes (status 0 4 3)) = true ∧
      returnFrameGood 0 0 (returnFrameBytes (status 0 0 1)) = true ∧
      returnFrameGood 0 0 (returnFrameBytes (status 0 5 3)) = false ∧
      returnFrameGood 0 0 (returnFrameBytes (status 0 2 4)) = false ∧
      (linked (fun l => { l with transfer := { l.transfer with phase := .sending } })).link.transfer.serial =
        (status 0 2 1).transferSerial := by
  unfold Quiet; decide +kernel

theorem test_hyp_LinkFrameIsMadeAndSent :
    let t : Transfer := { Transfer.reset with phase := .sending, localClip := 1, total := 3 }
    AtStage .linkFrameMade [] (boundaryAt .linkFrameMade (linked (fun l => { l with phase := 4 }))) ∧
      (linked id).onBus = true ∧ (linked id).cfg.roles.link = true ∧ t.openSent = false ∧
      ({ t with openSent := true } : Transfer).nextOffset + min 240 (t.total - t.nextOffset) = t.total := by
  unfold AtStage; decide +kernel

def frame : LinkFrame :=
  { linkId := 0, siteId := 0, seq := 0, blockSeq := 0, mode := { kind := .silence, arg := 0 }, modeStart := true,
    modeEnd := false, attach := false, last := false, attachKind := 0, attachOffset := 0, attachment := [],
    audio := List.replicate 192 (0, 0), crc := 0 }

/-- The bytes of a frame with its CRC-32 computed end with the CRC-32 of the bytes it covers, of a link frame and
of a return frame alike, and a return frame comes back from its bytes. -/
theorem test_frame_crc :
    (∀ f : LinkFrame, linkFrameBytes f.sealed = [0x5A, 0xC3] ++ f.covered ++ crcBytes f.covered) ∧
      (∀ f : ReturnFrame, returnFrameBytes f.sealed = [0xA5, 0x3C] ++ f.covered ++ crcBytes f.covered) ∧
      returnFrameOfBytes (returnFrameBytes (status 5 2 1)) = status 5 2 1 :=
  ⟨fun _ => rfl, fun _ => rfl, by decide +kernel⟩

theorem test_hyp_LinkFrameIsMadeAndSent_port :
    (linked (fun l => { l with buffer := [frame] })).link.buffer = frame :: [] ∧
      (linked (fun l => { l with portTail := some frame })).link.portTail = some frame ∧
      (linked id).link.buffer = [] ∧ (linked id).link.portTail = none := by decide +kernel

theorem test_hyp_LinkRowsAndLegs :
    let leg : Leg := { source := .own, gain := { (Ramp.settled 16384).retarget 0 10 with pos := 480 } }
    AtStage .legDrop [] (boundaryAt .legDrop (linked (fun l => { l with outgoing := some leg }))) ∧
      leg.gain.running = true ∧ leg.gain.len ≤ leg.gain.pos ∧ (linked id).link.incoming.source = .reserve ∧
      (linked id).link.reserve.playing = false ∧
      ({ linked id with cfg := { settings busRoles with reserveClip := 1 } } : Node).reserveStartDue = true ∧
      (linked (fun l => { l with returnLost := false, returnAge := 125 })).returnLostDue = true ∧
      (linked (fun l => { l with transfer := { l.transfer with phase := .waiting, waitAge := 250 } })).noReportDue =
        true := by
  unfold AtStage; decide +kernel

/-- A leg at each of the cases of the table of R170: the gain equal, and one above. -/
theorem test_hyp_LinkRowsAndLegs_change :
    let leg (g : Nat) : Leg := { source := .own, gain := .settled g }
    (∃ e x y, Source.peer 1 3 = .peer e x ∧ Source.peer 1 4 = .peer e y) ∧ Source.own ≠ .reserve ∧
      (leg 8000).gain.value ≤ (leg 8000).gain.value ∧ (leg 8000).gain.value < (leg 8001).gain.value ∧
      (linked id).link.pending = none ∧
      (changeLegs (linked id).link.incoming (linked id).link.outgoing .own).2.2 = true ∧
      (changeLegs (linked id).link.incoming (linked id).link.outgoing .reserve).2.2 = false :=
  ⟨⟨1, 3, 4, rfl, rfl⟩, by decide +kernel⟩

/-! ## Chapter 10 -/

def sited (f : Site → Site) : Node := { site with site := f site.site }

theorem test_hyp_SitePortTaken :
    Quiet (between site) ∧ site.siteWorks = true ∧ site.site.receiver = .hunting false ∧
      (sited (fun x => { x with receiver := .gathering (List.replicate 17 0) })).site.receiver =
        .gathering (List.replicate 17 0) ∧
      (List.replicate 17 (0 : Byte) ++ [241]).length = 18 ∧ 240 < byteAt (List.replicate 17 0 ++ [241]) 17 ∧
      ¬ 240 < byteAt (List.replicate 17 0 ++ [240]) 17 := by
  unfold Quiet; decide +kernel

theorem test_hyp_SitePortTaken_frame :
    let covered : List Byte := List.replicate 1174 0
    Quiet (between site) ∧ site.site.receiver = .hunting false ∧ byteAt covered 17 ≤ 240 ∧
      covered.length = 1174 + byteAt covered 17 := by
  refine ⟨rfl, rfl, by decide +kernel, ?_⟩
  rw [List.length_replicate]
  decide +kernel

/-- A frame of 18 bytes, the audio and the attachment that the last of them gives the length of, with its CRC-32. -/
theorem frame_withCrc {h x : List Byte} (h18 : h.length = 18) (hx : x.length = 1152 + byteAt h 17) :
    let c := withCrc (h ++ x)
    beBytes (crc32 (c.take (1170 + byteAt c 17))).toNat 4 = c.drop (1170 + byteAt c 17) ∧
      c.length = 1174 + byteAt c 17 ∧ ∀ i, i < 18 → byteAt c i = byteAt h i := by
  have hb (i : Nat) (hi : i < 18) : byteAt (withCrc (h ++ x)) i = byteAt h i := by
    unfold byteAt withCrc
    rw [List.append_assoc, List.getD_eq_getElem?_getD, List.getD_eq_getElem?_getD, List.getElem?_append_left (by omega)]
  have hl : (h ++ x).length = 1170 + byteAt (withCrc (h ++ x)) 17 := by
    rw [hb 17 (by omega), List.length_append]; omega
  refine ⟨?_, ?_, hb⟩
  · rw [← hl]
    unfold withCrc
    rw [List.take_left' rfl, List.drop_left' rfl]
    rfl
  · have hw : (withCrc (h ++ x)).length = (h ++ x).length + 4 := by
      unfold withCrc; rw [List.length_append]; rfl
    rw [hw, hl]; omega

/-- Frames that pass every check of R182 at a chip of link id 0 and site id 0: with no attachment in mode 4, with an
OPEN and with a DATA attachment of one byte in mode 1; what their bytes 8 to 17 leave of the checks is shown. -/
theorem test_hyp_SitePortTaken_accepted :
    let head (mode flags kind len : Byte) : List Byte :=
      [0, 0, 0, 7, 0, 0, 0, 0, mode, 0, 0, flags, kind, 0, 0, 0, 0, len]
    let c (mode flags kind len : Byte) : List Byte :=
      withCrc (head mode flags kind len ++ List.replicate (1152 + len.toNat) 0)
    site.cfg.linkId = 0 ∧ site.cfg.siteId = 0 ∧
      ∀ mode flags kind len : Byte,
        (mode, flags, kind, len) ∈ ([(4, 0, 0, 0), (1, 12, 1, 11), (1, 4, 2, 1), (2, 15, 2, 240)] :
          List (Byte × Byte × Byte × Byte)) →
        linkFrameGood 0 0 (c mode flags kind len) = true ∧
          (c mode flags kind len).length = 1174 + byteAt (c mode flags kind len) 17 ∧
          byteAt (c mode flags kind len) 12 = kind.toNat ∧ byteAt (c mode flags kind len) 17 ≤ 240 := by
  refine ⟨rfl, rfl, fun mode flags kind len hm => ?_⟩
  obtain ⟨hc, hl, hb⟩ :=
    frame_withCrc (h := [0, 0, 0, 7, 0, 0, 0, 0, mode, 0, 0, flags, kind, 0, 0, 0, 0, len])
      (x := List.replicate (1152 + len.toNat) 0) rfl (by rw [List.length_replicate]; rfl)
  dsimp only
  rw [linkFrameGood_iff, hb 0 (by omega), hb 1 (by omega), hb 8 (by omega), hb 11 (by omega), hb 12 (by omega),
    hb 17 (by omega)]
  rw [hb 17 (by omega)] at hc hl
  refine ⟨⟨hc, ?_⟩, hl, rfl, ?_⟩
  all_goals
    simp only [List.mem_cons, List.not_mem_nil, or_false, Prod.mk.injEq] at hm
    rcases hm with ⟨rfl, rfl, rfl, rfl⟩ | ⟨rfl, rfl, rfl, rfl⟩ | ⟨rfl, rfl, rfl, rfl⟩ | ⟨rfl, rfl, rfl, rfl⟩ <;>
      decide +kernel

theorem test_hyp_SiteFrameBoundaryKeepsTime :
    let f (s : Seq16) : BufferedFrame := { seq := s, audio := [] }
    let b : LinkBuffer := { LinkBuffer.reset with frames := [f 1, f 2] }
    LinkBuffer.reset.lastSeq = none ∧ ((9 : Seq16) - 1).toNat = 8 ∧ ((10 : Seq16) - 1).toNat = 9 ∧
      ((2 : Seq16) - 1).toNat = 1 ∧ ((1 : Seq16) - 1).toNat = 0 ∧ b.frames.length < 6 ∧ 2 ≤ b.frames.length ∧
      6 ≤ (List.replicate 6 (f 1)).length ∧ (List.replicate 7 (f 1)).length < 8 ∧
      8 ≤ (List.replicate 8 (f 1)).length ∧ LinkBuffer.reset.state ≠ .running := by decide +kernel

theorem test_hyp_SiteFrameBoundaryKeepsTime_read :
    AtStage .siteFrameBoundary [] (boundaryAt .siteFrameBoundary (sited (fun x => { x with phase := 4 }))) ∧
      site.siteWorks = true ∧ (4 : Nat) ≤ (sited (fun x => { x with phase := 4 })).site.phase ∧
      (sited (fun x => { x with mode := .concealing })).site.mode = .concealing ∧ site.site.mode ≠ .concealing := by
  unfold AtStage; decide +kernel

theorem test_hyp_SiteRowsAtABoundary :
    (sited (fun x => { x with receiver := .gathering [], stall := 4 })).stallDue = true ∧
      (sited (fun x => { x with mode := .following, noFrame := 50 })).concealDue = true ∧
      (sited (fun x => { x with mode := .concealing, reserveCount := 1250 })).reserveEntryDue = true ∧
      ({ sited (fun x => { x with store := x.store.setClip 0 readyClip }) with
          cfg := settings { Roles.empty with site := true } } : Node).siteReserveDue = true ∧
      ({ site with pins := { site.pins with contacts := [true, false, false, false] } } : Node).contactDue = true := by
  decide +kernel

/-- A FOLLOWING site whose output falls silent, and a site in RESERVE whose incoming audio sounds. -/
theorem test_hyp_SiteRowsAtABoundary_silence :
    let p (silent : Bool) (a b : Nat) : MeterPoint :=
      { MeterPoint.reset with running := true, pos := 10, silent := silent, silentRun := a, soundRun := b }
    let back : Site := { site.site with mode := .reserve, reason := .silence, goodRun := 250 }
    let cfg : Settings := { settings Roles.empty with silenceThreshold := 1 }
    ((p false 1999 0).finish cfg).report = some true ∧ (MeterPoint.reset.finish cfg).report = none ∧
      (sited (fun x => { x with mode := .following })).site.mode = .following ∧ site.site.mode = .reserve ∧
      (({ p true 0 199 with peak := 1 } : MeterPoint).finish cfg).report = some false ∧
      (({ p true 0 199 with peak := 1 } : MeterPoint).finish cfg).point.silent = false ∧
      back.goodRun = 250 := by decide +kernel

theorem test_hyp_SiteAttachmentsJudged :
    let t : SiteTransfer :=
      { state := .receiving, clip := 1, serial := 1, received := 3, total := 6, crc := 0xFFFFFFFF }
    t.state = .receiving ∧ (2 : Nat) < t.received ∧ t.received < 4 ∧ t.received + [0, 0, (0 : Byte)].length ≤ t.total ∧
      t.total < t.received + [0, 0, 0, (0 : Byte)].length ∧ site.site.transfer.state ≠ .receiving ∧
      frame.attachKind = 0 ∧ ({ frame with attach := true, attachKind := 1 } : LinkFrame).attachKind = 1 ∧
      ({ frame with attach := true, attachKind := 2, attachment := [1] } : LinkFrame).attachKind = 2 ∧
      Memory.wf [(4096, 0x00010203#32)] = true := by decide +kernel

/-- Four bytes from byte 2 of a clip's data on: the low byte of sample 0, and sample 1, whose sign is extended. -/
theorem test_site_data_words :
    let m := applyWrite (some { firstPage := 1, offset := 2, bytes := [5, 0x80, 0, 1] }) [(4096, 0x00010203#32)]
    m = [(4096, 0x00010205#32), (4097, 0xFF800001#32)] := by decide +kernel

/-- OPEN of clip 1: READY and in use, READY and free, with channels 0, 1, 2 and 3, and with no pages left. -/
theorem test_hyp_SiteAttachmentsJudged_open :
    let o (ch len : Nat) : OpenFields := { clip := 1, serial := 7, channels := ch, length := len, crc := 0 }
    let y (k : Nat) (free : List Extent) : Site :=
      { site.site with
        store := { (site.site.store.setClip 1 { readyClip with useCount := k }) with free := free } }
    0 < ((y 1 []).store.clip (o 1 1).clip).useCount ∧ ((y 0 []).store.clip (o 1 1).clip).useCount = 0 ∧
      ¬ ((o 0 1).channels = 1 ∨ (o 0 1).channels = 2) ∧ ¬ ((o 3 1).channels = 1 ∨ (o 3 1).channels = 2) ∧
      (o 2 0).length = 0 ∧ allocate ((1 * 4097 + 4095) / 4096) (((y 0 []).store.emptyClip 1).free) = none ∧
      allocate ((1 * 4096 + 4095) / 4096) (((y 0 []).store.emptyClip 1).free) ≠ none := by decide +kernel

theorem test_hyp_SiteFrameAccepted :
    (site.site.accepted + 1) % 25 ≠ 0 ∧ ((sited (fun x => { x with accepted := 24 })).site.accepted + 1) % 25 = 0 ∧
      site.site.mode = .reserve ∧ min ((sited (fun x => { x with goodRun := 249 })).site.goodRun + 1) 250 = 250 := by
  decide +kernel

/-! ## Chapter 11 -/

/-- Bytes 5 to 124 of a configuration record, all 0 but the phone station, 3. -/
def recordTail : List (List Byte) :=
  [List.replicate 26 0, List.replicate 25 0 ++ [3], List.replicate 34 0, List.replicate 34 0]

/-- The bytes of a record of station 2 with a role byte, without its CRC-32. -/
def recordBody (roles : Byte) : List Byte :=
  [0, 129, 1, 2, roles] ++ (recordTail.getD 0 [] ++ (recordTail.getD 1 [] ++
    (recordTail.getD 2 [] ++ recordTail.getD 3 [])))

theorem studio_steps :
    crcUpdate crcInit [0, 129, 1, 2, 1] = 0x28CBE19F#32 ∧
      crcUpdate 0x28CBE19F#32 (recordTail.getD 0 []) = 0x95F5648A#32 ∧
      crcUpdate 0x95F5648A#32 (recordTail.getD 1 []) = 0xE823EA3B#32 ∧
      crcUpdate 0xE823EA3B#32 (recordTail.getD 2 []) = 0xAECD3109#32 ∧
      crcUpdate 0xAECD3109#32 (recordTail.getD 3 []) = 0xE806F210#32 := by
  decide +kernel

/-- The CRC-32 of the record, found in parts. -/
theorem test_studio_record_crc : crcBytes (recordBody 1) = [23, 249, 13, 239] := by
  obtain ⟨h0, h1, h2, h3, h4⟩ := studio_steps
  unfold crcBytes crc32 recordBody
  simp only [crcUpdate, List.foldl_append] at h0 h1 h2 h3 h4 ⊢
  rw [h0, h1, h2, h3, h4]
  decide +kernel

theorem site_steps :
    crcUpdate crcInit [0, 129, 1, 2, 16] = 0x427BC16D#32 ∧
      crcUpdate 0x427BC16D#32 (recordTail.getD 0 []) = 0xA50DD49E#32 ∧
      crcUpdate 0xA50DD49E#32 (recordTail.getD 1 []) = 0x16B4476E#32 ∧
      crcUpdate 0x16B4476E#32 (recordTail.getD 2 []) = 0xDC4DEDB3#32 ∧
      crcUpdate 0xDC4DEDB3#32 (recordTail.getD 3 []) = 0x1053F050#32 := by
  decide +kernel

/-- The CRC-32 of the record, found in parts. -/
theorem test_site_record_crc : crcBytes (recordBody 16) = [239, 172, 15, 175] := by
  obtain ⟨h0, h1, h2, h3, h4⟩ := site_steps
  unfold crcBytes crc32 recordBody
  simp only [crcUpdate, List.foldl_append] at h0 h1 h2 h3 h4 ⊢
  rw [h0, h1, h2, h3, h4]
  decide +kernel

/-- The other checks of R199 on both records, at the bounds of the station number and the role byte. -/
theorem test_hyp_StartUpDecided :
    crcBytes (recordBody 1) = [23, 249, 13, 239] ∧ crcBytes (recordBody 16) = [239, 172, 15, 175] ∧
      (recordBody 1 ++ [23, 249, 13, 239]).length = 129 ∧ beNat ((recordBody 1).take 2) = 129 ∧
      byteAt (recordBody 1) 2 = 1 ∧ byteAt (recordBody 1) 3 = 2 ∧ rolesGood 1 = true ∧ rolesGood 15 = true ∧
      rolesGood 16 = true ∧ rolesGood 0 = false ∧ rolesGood 17 = false ∧ rolesGood 32 = false ∧
      byteAt (recordBody 1) 50 ≤ 1 ∧ byteAt (recordBody 1) 57 ≤ 1 ∧ byteAt (recordBody 1) 56 = 3 ∧
      byteAt (recordBody 1) 72 < 16 ∧
      (∀ i, i < 8 → byteAt (recordBody 1) (109 + i) ≤ 10 ∧ byteAt (recordBody 1) (117 + i) ≤ 8) ∧
      readRecord [] = none ∧ Node.reset.station = .config ∧ station.station ≠ .config ∧
      (recordBody 16 ++ [239, 172, 15, 175]).length = 129 ∧ byteAt (recordBody 16) 4 = 16 ∧
      ({ studio with station := .listen, windowCount := 500 } : Node).windowDue = true :=
  ⟨test_studio_record_crc, test_site_record_crc, by decide +kernel⟩

theorem test_hyp_RestartDecided :
    Asked 3 2 2 (between station) ∧ restartGood station.cfg [7, 0xF8] = true ∧
      station.cfg.roles.site = false ∧ restartGood station.cfg [7, 0xF9] = false ∧ restartGood station.cfg [8, 0xF7] = false ∧
      station.restart = none ∧ ({ station with restart := some 10 } : Node).restartDue = true ∧
      ({ station with restart := some 9 } : Node).restartDue = false ∧
      (sending 0).bus.line = .sending 1 [] ∧
      ((∃ x ∈ (stored loading [load1]).store.loads, x.clip = 1) ∧
        ((stored loading [load1]).store.clip 1).state ≠ .empty ∧ (stored readyClip []).store.loads = []) ∧
      (∀ cls wire, station.bus.line ≠ .sending cls wire) := by
  refine ⟨asked rfl rfl rfl (by decide), by decide, rfl, by decide, by decide, rfl, by decide, by decide, rfl,
    by decide +kernel, ?_⟩
  intro c w h
  cases h

/-- A VOICE_OPEN key that is still held over a soft restart, and one that is not (R201). -/
theorem test_hyp_RestartDecided_voice :
    let held (n : Node) := ((softRestart n).lines.voiceHeld.getD 2 false, (softRestart n).lines.pressed)
    held (voice true false true) = (true, []) ∧ held (voice false true false) = (false, []) := by decide +kernel

def keyed (f : KeyFn) (n : Node) : Node :=
  { n with cfg := { n.cfg with keyFns := n.cfg.keyFns.set 0 f }, lines := { n.lines with pressed := [1] } }

theorem test_hyp_KeyPressesAct :
    AtStage .claimKey [] (boundaryAt .claimKey (keyed .claimAuto studio)) ∧
      (keyed .claimAuto studio).pressedWith isClaimKey ≠ [] ∧ (keyed .playNext studio).pressedWith (isFn .playNext) ≠ [] ∧
      (keyed .dropCaller2 studio).pressedWith isDropKey ≠ [] ∧ studio.inRun = true ∧
      ({ studio with station := .listen } : Node).inRun = false ∧ studio.cfg.roles.studio = true ∧
      site.cfg.roles.studio = false ∧ studio.take.ch1.state = .free ∧ (caller .onAir none).take.ch1.state ≠ .free ∧
      station.phoneTarget = none ∧ studio.streams.listen.countP (fun e => !e.valid) = 8 ∧
      (sendRequest 11 3 [0] (.answerKey 1) studio).1 = .sent 0 := by
  unfold AtStage; decide +kernel

/-- A key on the ninth and tenth boundary of its change, and parts with each kind of pattern. -/
theorem test_hyp_KeysAndTallies :
    let key (stable : Nat) (level : Bool) : Node :=
      { studio with
        lines := { studio.lines with keys := studio.lines.keys.set 7 { accepted := false, stable := stable } },
        pins := { studio.pins with keys := List.replicate 7 false ++ [level] } }
    (key 9 true).lines.keys[7]? = some { accepted := false, stable := 9 } ∧ (key 9 true).pins.keys[7]? = some true ∧
      (stageRun .keySample [] (key 9 true)).lines.pressed = [8] ∧
      (stageRun .keySample [] (key 8 true)).lines.pressed = [] ∧
      (stageRun .keySample [] (key 8 true)).lines.keys[7]? = some { accepted := false, stable := 9 } ∧
      (stageRun .keySample [] (key 9 false)).lines.keys[7]? = some { accepted := false, stable := 0 } ∧
      site.onBus = false ∧ studio.onBus = true ∧ site.siteWorks = true ∧ Node.reset.station = .config ∧
      ({ Node.reset with station := .unconfigured } : Node).pattern = List.replicate 8 true ∧
      ({ Node.reset with station := .unconfigured, badSite := true } : Node).pattern = List.replicate 8 false ∧
      studio.cfg.roles.site = false ∧ site.cfg.roles.site = true ∧
      site.site.contacts = [false, false, false, false] ∧
      site.pattern = [false, false, true, false, false, false, false, true] := by decide +kernel

/-! ## Invariants -/

/-- Clip 1 LOADING in page 0 with its load context, line 4 HELD in the queue. -/
def invariantNode : Node :=
  { stored loading [load1] with
    phone := { station.phone with lines := station.phone.lines.set 3 (lineIn .held), queue := [4] } }

theorem test_hyp_CallerQueueStaysExact :
    let s : State := { between invariantNode with pending := [.blockBoundary] }
    CallerQueueExact s ∧ ∃ t, step s = .next t := by
  refine ⟨⟨rfl, by decide, fun i => ?_, fun i h1 h2 => ?_⟩, _, rfl⟩
  · by_cases h : i ≤ 4
    · obtain rfl | rfl | rfl | rfl | rfl : i = 0 ∨ i = 1 ∨ i = 2 ∨ i = 3 ∨ i = 4 := by omega
      all_goals decide +kernel
    · have hq : i ∉ [4] := by simp; omega
      exact ⟨fun x => absurd x hq, fun x => absurd x.2.1 h⟩
  · obtain rfl | rfl | rfl | rfl : i = 1 ∨ i = 2 ∨ i = 3 ∨ i = 4 := by omega
    all_goals decide +kernel

/-- A clip of a store with nothing in it is EMPTY. -/
theorem ofPages_clip (pages c : Nat) : (Store.ofPages pages).clip c = .reset := by
  unfold Store.clip
  show (List.replicate 256 ClipEntry.reset).getD c .reset = .reset
  rw [List.getD_eq_getElem?_getD, List.getElem?_replicate]
  split <;> rfl

theorem test_hyp_LoadsStayMatched :
    let s : State := { between invariantNode with pending := [.blockBoundary] }
    LoadsMatchClips s ∧ ∃ t, step s = .next t := by
  have hc (c : Nat) : invariantNode.store.clip c = if c = 1 then loading else .reset := by
    have : invariantNode.store.clip c = ((Store.ofPages 1024).setClip 1 loading).clip c := rfl
    have hl : 1 < (Store.ofPages 1024).dir.length := by
      show 1 < (List.replicate 256 ClipEntry.reset).length
      rw [List.length_replicate]; decide
    rw [this, clip_setClip, ofPages_clip]
    by_cases h : c = 1
    · rw [if_pos ⟨h, hl⟩, if_pos h]
    · rw [if_neg (fun x => h x.1), if_neg h]
  have hx (c : Nat) : invariantNode.site.store.clip c = .reset := ofPages_clip 0 c
  refine ⟨⟨by decide +kernel, by decide, by decide, fun c => ?_, ?_, by decide +kernel, fun c => ?_⟩, _, rfl⟩
  · show (invariantNode.store.clip c).state = .loading ↔ ∃ l ∈ [load1], l.clip = c
    rw [hc c]
    by_cases h : c = 1
    · simp [h, loading, load1]
    · simp [h, ClipEntry.reset, load1, Ne.symm h]
  · show ∀ l ∈ [load1], l.serial = (invariantNode.store.clip l.clip).serial
    intro l hl
    obtain rfl := List.mem_singleton.mp hl
    rw [hc]; rfl
  · show (invariantNode.site.store.clip c).state = .loading ↔ SiteTransferState.none = .receiving ∧ _
    rw [hx c]; simp [ClipEntry.reset]

/-- Page 0 is of clip 1 and the pages 1 to 1023 are free; a SITE chip's store of no pages. -/
theorem test_hyp_PagesStayCoveredOnce :
    let s : State := { between invariantNode with pending := [.blockBoundary] }
    PagesCoveredOnce s ∧ ∃ t, step s = .next t := by
  have hz (k page : Nat) :
      (List.replicate k ClipEntry.reset).countP
        (fun e => decide (e.state ≠ .empty ∧ e.firstPage ≤ page ∧ page < e.firstPage + e.pageCount)) = 0 := by
    rw [List.countP_replicate]; simp [ClipEntry.reset]
  refine ⟨⟨⟨?_, ?_, fun page => ?_⟩, ⟨?_, ?_, fun page => ?_⟩⟩, _, rfl⟩
  · show List.Pairwise _ [(⟨1, 1023⟩ : Extent)]
    simp
  · show ∀ e ∈ [(⟨1, 1023⟩ : Extent)], 0 < e.count
    simp
  · show List.countP _ [(⟨1, 1023⟩ : Extent)] +
      List.countP _ (ClipEntry.reset :: loading :: List.replicate 254 ClipEntry.reset) = if page < 1024 then 1 else 0
    rw [List.countP_cons, List.countP_cons, List.countP_cons, List.countP_nil, hz]
    have e1 : decide (ClipEntry.reset.state ≠ .empty ∧ ClipEntry.reset.firstPage ≤ page ∧
        page < ClipEntry.reset.firstPage + ClipEntry.reset.pageCount) = false := by simp [ClipEntry.reset]
    have e2 : decide (loading.state ≠ .empty ∧ loading.firstPage ≤ page ∧
        page < loading.firstPage + loading.pageCount) = decide (page = 0) := by
      simp [loading, ClipEntry.reset]
    rw [e1, e2]
    simp only [decide_eq_true_eq]
    by_cases h0 : page = 0
    · simp [h0]
    · by_cases h1 : page < 1024
      · rw [if_neg h0, if_pos h1, if_pos (by omega)]; rfl
      · rw [if_neg h0, if_neg h1, if_neg (by omega)]; rfl
  · exact List.Pairwise.nil
  · exact fun e he => nomatch he
  · show List.countP _ ([] : List Extent) + List.countP _ (List.replicate 256 ClipEntry.reset) =
      if page < 0 then 1 else 0
    rw [List.countP_nil, hz, if_neg (by omega)]

/-! ## Steps -/

/-- The part after one step with a command in front. -/
def after (c : Instr) (s : State) : Option Node :=
  match step { s with pending := [c] } with
  | .next t => if t.pending = [] then some t.node else none
  | _ => none

theorem test_pin_reset : (after .pinReset (between station)).map Node.station = some .config := by decide +kernel

theorem test_empty_record : (after (.configReadDone []) State.reset).map Node.station = some .unconfigured := by
  decide +kernel

/-- A claim at level 2 is taken, offered, and holds the air over RESERVE. -/
theorem test_claim_set :
    (after (.claimSet 3 2 9 [2]) (between studio)).map (fun n => (n.air.ownLevel, n.bus.q1.length, n.air.holder.kind)) =
      some (2, 2, .own) := by decide +kernel

/-- A START of the alert line is relayed, judged and queued at a station with ALERT and LINK. -/
theorem test_alert_record :
    (after (.alertLineRecord (lineBytes record)) (between station)).map
      (fun n => (n.alert.queue.map (fun q => q.record.id), n.bus.q0.length, n.alert.counters.good)) =
      some ([100], 1, 1) := by decide +kernel

/-- A queue of 101/2 102/1 103/1 104/1 drops 105/1 and gives up 104/1 for 106/2 (the example of chapter 8). -/
theorem test_alert_queue :
    let q := [queued 101 2, queued 102 1, queued 103 1, queued 104 1]
    let ids (n : Node) := n.alert.queue.map (fun x => x.record.id)
    ids (queueAlert { record with id := 105, cls := 1 } 3 (alerting q none .reset)) = [101, 102, 103, 104] ∧
      ids (queueAlert { record with id := 106 } 3 (alerting q none .reset)) = [101, 106, 102, 103] := by
  decide +kernel

/-- A ringing line answered for NEXT enters the queue. -/
theorem test_call_answer :
    (after (.callAnswer 3 2 1 [0]) (between (phoned { lineIn .ringing with rangAt := some 0 } []))).map
      (fun n => (n.phone.queue, (n.phone.line 4).state)) = some ([4], .queued) := by decide +kernel

/-- The first roll call falls at the first boundary in RUN. -/
theorem test_block_boundary :
    (after .blockBoundary (between { studio with bus := { studio.bus with rollCountdown := some 1 } })).map
      (fun n => (n.bus.q3.length, n.bus.rollCountdown)) = some (1, some 100) := by decide +kernel

/-- A start request is carried out at the next boundary, with the first BLOCK; a stop before it leaves it
waiting, and a stop after it makes the END block (R24, R26). -/
theorem test_start_waits_for_the_boundary :
    let n : Node := startOut 0 0 { studio with bus := { studio.bus with rollCountdown := some 90 } }
    let at_ (x : Node) : OutIndex := x.streams.outgoing.getD 0 .reset
    (at_ n).state = .inactive ∧ (at_ (stopOut 0 n)).start = some 0 ∧
      (after .blockBoundary (between n)).map (fun x => ((at_ x).state, (at_ x).seq, x.bus.q2.length)) =
        some (.active, 1, 1) ∧
      (after .blockBoundary (between (stopOut 0 (makeBlock 0 n)))).map (fun x => ((at_ x).state, x.bus.q2.length)) =
        some (.inactive, 2) := by decide +kernel

/-- A stop and a start before a boundary: the END block there, ENDING still, and ACTIVE with the next BLOCK at
the boundary after (R24, R26). -/
theorem test_end_and_start_again :
    let n : Node := makeBlock 0 (startOut 0 0 { studio with bus := { studio.bus with rollCountdown := some 90 } })
    let again : Node := startOut 0 0 (stopOut 0 n)
    let shown (x : Node) := ((x.streams.outgoing.getD 0 .reset).state, x.bus.q2.length)
    shown (makeBlock 0 again) = (.ending, 2) ∧ shown (makeBlock 0 (stopOut 0 (makeBlock 0 again))) = (.active, 3) := by
  decide +kernel

/-- A sample beyond the range saturates; half an output step rounds up (R44, R55). -/
theorem test_saturation : (saturate 8388608).toInt = 8388607 ∧ (saturate (-8388609)).toInt = -8388608 ∧
    (saturate ((8192 + 8192 : Int).fdiv 16384)).toInt = 1 := by decide +kernel

end Sys2Proof.Tests
end

section
/-! PROOFS. The line of the studio bus (section 1.1): the bytes of a packet, the gap units to the station's
wait, and the two ends of a sending. -/

namespace Sys2Proof.Machine

/-! ## The rows of the line between two boundaries -/

/-- A SITE chip does no work on its bus line (R200). -/
theorem onLine_site {n : Node} (h : n.cfg.roles.site = true) (f : Node → Node) : onLine f n = n := by
  unfold onLine; rw [if_pos h]

theorem onLine_station {n : Node} (h : n.cfg.roles.site = false) (f : Node → Node) : onLine f n = f n := by
  unfold onLine; rw [h]; rfl

theorem Node.site_of_inRun {n : Node} (h : n.inRun = true) : n.cfg.roles.site = false := by
  simp only [Node.inRun, Bool.and_eq_true, Bool.not_eq_true'] at h
  exact h.1

/-- Work on the line of a SITE chip, between two boundaries: nothing but the settling. -/
theorem onNode_onLine_site {s : State} (q : Quiet s) (h : s.node.cfg.roles.site = true) (f : Node → Node) :
    onNode (fun _ => onLine f) s = settle s := by
  rw [onNode_quiet q, onLine_site h]

theorem onNode_onLine_station {s : State} (q : Quiet s) (h : s.node.cfg.roles.site = false) (f : Node → Node) :
    onNode (fun _ => onLine f) s = settle { s with node := f s.node } := by
  rw [onNode_quiet q, onLine_station h]

/-! ## The bytes of a packet on the line (R5) -/

theorem beBytes_length (n w : Nat) : (beBytes n w).length = w := by
  induction w generalizing n with
  | zero => rfl
  | succ w ih => simp [beBytes, ih]

/-- Five header bytes, the payload, and four bytes of CRC-32. -/
theorem wireBytes_length (own : Nat) (p : Packet) :
    (wireBytes own p).length = 9 + (p.body.payload p.fresh).length := by
  simp only [wireBytes, crcBytes, List.length_append, beBytes_length, List.length_cons, List.length_nil]
  omega

/-! ## Gap units and the wait (R1) -/

/-- The lowest-numbered class that holds a packet. -/
theorem Bus.lowestClass_eq {b : Bus} {cls : Nat} {p : Packet} {rest : List Packet} (hc : cls ≤ 3)
    (hq : b.queue cls = p :: rest) (hl : ∀ c, c < cls → b.queue c = []) : b.lowestClass = some cls := by
  have holds : (b.queue cls).isEmpty = false := by rw [hq]; rfl
  have empty (c : Nat) (h : c < cls) : (b.queue c).isEmpty = true := by rw [hl c h]; rfl
  unfold Bus.lowestClass
  match cls, hc, holds, empty with
  | 0, _, holds, _ => simp only [List.find?_cons, holds, Bool.not_false]
  | 1, _, holds, empty =>
    simp only [List.find?_cons, holds, empty 0 (by decide), Bool.not_true, Bool.not_false]
  | 2, _, holds, empty =>
    simp only [List.find?_cons, holds, empty 0 (by decide), empty 1 (by decide), Bool.not_true, Bool.not_false]
  | 3, _, holds, empty =>
    simp only [List.find?_cons, holds, empty 0 (by decide), empty 1 (by decide), empty 2 (by decide), Bool.not_true,
      Bool.not_false]

/-- Of the gap units that bring the idle count to the wait, `gapsUntil` counts the fewest. -/
theorem gapsUntil_le {count w k : Nat} (hk : 1 ≤ k) (h : (count + k - 1) % 128 + 1 = w) : gapsUntil count w ≤ k := by
  unfold gapsUntil; omega

theorem count_gapsUntil {count w : Nat} (h1 : 1 ≤ w) (h2 : w ≤ 128) :
    (count + gapsUntil count w - 1) % 128 + 1 = w := by
  unfold gapsUntil; omega

theorem one_le_gapsUntil (count w : Nat) : 1 ≤ gapsUntil count w := by unfold gapsUntil; omega

theorem idleAfter_eq {count g : Nat} (h : 1 ≤ g) : idleAfter count g = (count + g - 1) % 128 + 1 := by
  unfold idleAfter; rw [if_neg (by omega)]

/-- The wait is reached among the gap units: the head packet of the class goes on the line at that count. -/
theorem idleGaps_sends {n : Node} {g cls : Nat} {p : Packet} {rest : List Packet} (run : n.inRun = true)
    (low : n.bus.lowestClass = some cls) (hq : n.bus.queue cls = p :: rest)
    (h : gapsUntil n.bus.idleCount (deferral cls n.cfg.number) ≤ g) :
    idleGaps g n =
      ({ n with
          bus :=
            { n.bus with
              line := .sending cls (wireBytes n.cfg.number p), idleCount := deferral cls n.cfg.number } },
        true) := by
  have started (k : Nat) :
      startSending cls { n with bus := { n.bus with idleCount := k } } =
        { n with bus := { n.bus with line := .sending cls (wireBytes n.cfg.number p), idleCount := k } } := by
    have hk : Bus.queue { n.bus with idleCount := k } cls = p :: rest := hq
    unfold startSending; simp only [hk]
  unfold idleGaps
  simp only [low, run, h, decide_true, Bool.and_self, if_true, started]

/-- The wait is not reached: the count goes on. -/
theorem idleGaps_waits {n : Node} {g cls : Nat} (low : n.bus.lowestClass = some cls)
    (h : g < gapsUntil n.bus.idleCount (deferral cls n.cfg.number)) :
    idleGaps g n = ({ n with bus := { n.bus with idleCount := idleAfter n.bus.idleCount g } }, false) := by
  have hn : ¬ gapsUntil n.bus.idleCount (deferral cls n.cfg.number) ≤ g := by omega
  unfold idleGaps
  simp only [low, hn, decide_false, Bool.and_false, Bool.false_eq_true, if_false]

/-- The idle count from which gap units count on: on a line not idle until then it is 0 (log 13). -/
def Bus.countsFrom (b : Bus) (count : Nat) : Prop :=
  b.line = .idle ∧ count = b.idleCount ∨ b.line = .busy ∧ count = 0

theorem gapsPass_from {n : Node} {count g : Nat} (h : n.bus.countsFrom count) (hg : 1 ≤ g) :
    gapsPass g n = idleGaps g { n with bus := { n.bus with line := .idle, idleCount := count } } := by
  rcases h with ⟨hl, rfl⟩ | ⟨hl, rfl⟩
  · unfold gapsPass
    simp only [hl]
    rw [← hl]
  · unfold gapsPass
    simp only [hl]
    rw [if_neg (by omega)]
    rfl

/-- Gap units that reach the wait start the sending, whether carrier then appears or not. -/
theorem gapsPass_sends {n : Node} {count g cls k : Nat} {p : Packet} {rest : List Packet} (run : n.inRun = true)
    (from_ : n.bus.countsFrom count) (low : n.bus.lowestClass = some cls) (hq : n.bus.queue cls = p :: rest)
    (h1 : 1 ≤ k) (hk : k ≤ g) (h : (count + k - 1) % 128 + 1 = deferral cls n.cfg.number) :
    gapsPass g n =
      ({ n with
          bus :=
            { n.bus with
              line := .sending cls (wireBytes n.cfg.number p), idleCount := deferral cls n.cfg.number } },
        true) := by
  rw [gapsPass_from from_ (Nat.le_trans h1 hk)]
  exact idleGaps_sends (n := { n with bus := { n.bus with line := .idle, idleCount := count } }) run low hq
    (Nat.le_trans (gapsUntil_le h1 h) hk)

/-- Gap units that do not reach the wait leave the line idle, with the count gone on. -/
theorem gapsPass_waits {n : Node} {count g cls : Nat} (from_ : n.bus.countsFrom count)
    (low : n.bus.lowestClass = some cls) (h1 : 1 ≤ deferral cls n.cfg.number) (h2 : deferral cls n.cfg.number ≤ 128)
    (hg : 1 ≤ g) (h : ∀ k, 1 ≤ k → k ≤ g → (count + k - 1) % 128 + 1 ≠ deferral cls n.cfg.number) :
    gapsPass g n =
      ({ n with bus := { n.bus with line := .idle, idleCount := (count + g - 1) % 128 + 1 } }, false) := by
  have hlt : g < gapsUntil count (deferral cls n.cfg.number) :=
    Nat.lt_of_not_le fun hle => h _ (one_le_gapsUntil _ _) hle (count_gapsUntil h1 h2)
  rw [gapsPass_from from_ hg, ← idleAfter_eq hg]
  exact idleGaps_waits (n := { n with bus := { n.bus with line := .idle, idleCount := count } }) low hlt

/-- Settles O5: the wait reached among the gap units and the wait not reached, each under both rows. -/
theorem deferralReachesW : Obligations.DeferralReachesW := by
  refine ⟨⟨fun s gaps q site => ?_, ?_⟩, fun own p => ⟨rfl, wireBytes_length own p⟩⟩
  · exact ⟨congrArg Host.Outcome.next (onNode_onLine_site q site _),
      congrArg Host.Outcome.next (onNode_onLine_site q site _)⟩
  intro s from_ gaps cls p rest q run hfrom num1 num30 hc hq hl w count line
  have low : s.node.bus.lowestClass = some cls := Bus.lowestClass_eq hc hq hl
  have expiry : exec (.deferralExpiry gaps) s = .next (settle { s with node := (gapsPass gaps s.node).1 }) :=
    congrArg Host.Outcome.next (onNode_onLine_station q (Node.site_of_inRun run) _)
  have appears : exec (.carrierAppears gaps) s = .next (settle { s with node := carrier gaps s.node }) :=
    congrArg Host.Outcome.next (onNode_onLine_station q (Node.site_of_inRun run) _)
  rw [expiry, appears]
  refine ⟨fun k h1 hk h => ?_, fun hg h => ?_⟩
  · have sends := gapsPass_sends run hfrom low hq h1 hk h
    unfold carrier
    rw [sends]
    exact ⟨rfl, rfl⟩
  · have waits := gapsPass_waits hfrom low (by unfold deferral; omega) (by unfold deferral; omega) hg h
    unfold carrier
    rw [waits]
    exact ⟨rfl, rfl⟩

/-! ## The two ends of a sending (R2, R20) -/

@[simp] theorem setQueue_counters (b : Bus) (cls : Nat) (q : List Packet) :
    (b.setQueue cls q).counters = b.counters := by
  unfold Bus.setQueue; split <;> rfl

/-- A sending completed, outside a soft restart: the head packet leaves its queue and is counted. -/
theorem sentHead_eq {b : Bus} {cls : Nat} {p : Packet} {rest : List Packet} (hq : b.queue cls = p :: rest)
    (drain : b.drainAtEnd = false) :
    b.sentHead cls =
      { b.setQueue cls rest with
        line := .idle, idleCount := 0, consecutive := 0,
        counters := { b.counters with sent := min (b.counters.sent + 1) 65535 } } := by
  unfold Bus.sentHead
  simp only [hq, List.drop_succ_cons, List.drop_zero, drain, Bus.lineIdle, setQueue_counters]
  rfl

/-- A packet that brings no restart: its sending ends, and nothing else. -/
theorem sendingComplete_eq {n : Node} {cls : Nat} {wire : List Byte} {p : Packet} {rest : List Packet}
    (hl : n.bus.line = .sending cls wire) (hq : n.bus.queue cls = p :: rest)
    (h : p.restartOk = false ∨ n.restart = none) : sendingComplete n = { n with bus := n.bus.sentHead cls } := by
  have hh : n.bus.head cls = some p := by unfold Bus.head; rw [hq]; rfl
  have hr : (p.restartOk && n.restart.isSome) = false := by rcases h with h | h <;> simp [h]
  unfold sendingComplete
  simp only [hl, hh, hr]
  rfl

/-- The bus unit after a mismatch: the line idle, both counts advanced. -/
def Bus.collided (b : Bus) : Bus :=
  { b with
    line := .idle, idleCount := 0, consecutive := b.consecutive + 1,
    counters := { b.counters with collisions := min (b.counters.collisions + 1) 65535 } }

/-- A mismatch outside a soft restart: from eight in a row on the station enters DUPLICATE. -/
theorem collide_eq {n : Node} {cls : Nat} {wire : List Byte} (hl : n.bus.line = .sending cls wire)
    (drain : n.bus.drainAtEnd = false) :
    collide n =
      if 8 ≤ n.bus.consecutive + 1 then enterDuplicate { n with bus := n.bus.collided }
      else { n with bus := n.bus.collided } := by
  unfold collide Bus.lineIdle
  simp only [hl]
  rw [if_neg (by rw [drain]; exact Bool.false_ne_true)]
  rfl

/-- Entry to DUPLICATE on an idle line, outside a soft restart (R20, R26, R198). -/
theorem enterDuplicate_idle {n : Node} (hl : n.bus.line = .idle) (drain : n.bus.drainAtEnd = false) :
    enterDuplicate n =
      { n with
        station := .duplicate, restart := none,
        bus := { n.bus with q0 := [], q1 := [], q2 := [], q3 := [], rollCountdown := none },
        streams := n.streams.silenceOut } := by
  have hs : n.bus.stopSending = n.bus := by unfold Bus.stopSending; rw [hl]
  unfold enterDuplicate Bus.emptyQueues
  rw [hs, ← drain]

/-- Settles O7: the branches of the end of a sending and of a mismatch. -/
theorem sendingEnds : Obligations.SendingEnds := by
  refine ⟨fun s q site => ?_, ?_⟩
  · exact ⟨congrArg Host.Outcome.next (onNode_onLine_site q site _),
      congrArg Host.Outcome.next (onNode_onLine_site q site _)⟩
  intro s cls wire p rest q site hl hq drain b free
  have complete : exec .sendComplete s = .next (settle { s with node := sendingComplete s.node }) :=
    congrArg Host.Outcome.next (onNode_onLine_station q site _)
  have collision : exec .sendCollision s = .next (settle { s with node := collide s.node }) :=
    congrArg Host.Outcome.next (onNode_onLine_station q site _)
  rw [complete, collision, collide_eq hl drain]
  refine ⟨fun h => ?_, fun h => ?_, fun h => ?_⟩
  · rw [sendingComplete_eq hl hq h, sentHead_eq hq drain]
  · rw [if_neg (Nat.not_le.mpr h)]
    rfl
  · rw [if_pos h, enterDuplicate_idle (n := { s.node with bus := s.node.bus.collided }) rfl drain]
    rfl

end Sys2Proof.Machine
end

section
/-! PROOFS. Offers to the transmit queues (section 1.2) and the requester table (section 1.4). -/

namespace Sys2Proof.Machine

/-! ## Offers (R3, R4) -/

/-- In RUN an offer files its packet and takes one free value (R3). -/
theorem offer_inRun (dst : Nat) (body : PacketBody) {n : Node} (run : n.inRun = true) :
    offer dst body n =
      { n with
        bus := n.bus.enqueue body.cls { dst := dst, body := body, restartOk := false, fresh := n.fresh },
        fresh := n.fresh + 1 } := by
  unfold offer offerPacket; rw [if_pos run]

/-- A class below its capacity takes the packet at its end (R4). -/
theorem enqueue_room {b : Bus} {c : Nat} (p : Packet) (hc : c ≤ 3)
    (h : (b.queue c).length < Config.queueCapacity c) : b.enqueue c p = b.setQueue c (b.queue c ++ [p]) := by
  match c, hc with
  | 0, _ => exact if_pos h
  | 1, _ => exact if_pos h
  | 2, _ => exact if_pos h
  | 3, _ => exact if_pos h

/-- At capacity the oldest ALERT that is not being sent gives way to a new one (R4). -/
theorem enqueue_full_alert {b : Bus} (p : Packet) (h : 4 ≤ b.q0.length) :
    b.enqueue 0 p =
      { b with
        q0 := b.evictAlert ++ [p],
        counters := { b.counters with class0Evictions := min (b.counters.class0Evictions + 1) 65535 } } :=
  if_neg (Nat.not_lt.mpr h)

/-- The head of the ALERT queue stays while it is being sent. -/
theorem evictAlert_sending {b : Bus} {h : Packet} {t : List Packet} {wire : List Byte} (hq : b.q0 = h :: t)
    (hl : b.line = .sending 0 wire) : b.evictAlert = h :: t.drop 1 := by
  simp only [Bus.evictAlert, hq, hl]

theorem evictAlert_waiting {b : Bus} {h : Packet} {t : List Packet} (hq : b.q0 = h :: t)
    (hl : ∀ wire, b.line ≠ .sending 0 wire) : b.evictAlert = t := by
  unfold Bus.evictAlert
  split
  next hs _ => exact absurd hs (hl _)
  next => rw [hq]; rfl

theorem enqueue_full_control {b : Bus} (p : Packet) (h : 8 ≤ b.q1.length) :
    b.enqueue 1 p =
      { b with counters := { b.counters with class1Drops := min (b.counters.class1Drops + 1) 65535 } } :=
  if_neg (Nat.not_lt.mpr h)

theorem enqueue_full_audio {b : Bus} (p : Packet) (h : 8 ≤ b.q2.length) :
    b.enqueue 2 p =
      { b with counters := { b.counters with class2Drops := min (b.counters.class2Drops + 1) 65535 } } :=
  if_neg (Nat.not_lt.mpr h)

theorem enqueue_full_rest {b : Bus} (p : Packet) (h : 4 ≤ b.q3.length) :
    b.enqueue 3 p =
      { b with counters := { b.counters with class3Drops := min (b.counters.class3Drops + 1) 65535 } } :=
  if_neg (Nat.not_lt.mpr h)

/-- Settles O8: each class below its capacity and at it. -/
theorem offersFiledByClass : Obligations.OffersFiledByClass := by
  intro n dst body b c p filed
  have room (cls : Nat) (run : n.inRun = true) (hc : body.cls = cls) (h3 : cls ≤ 3)
      (h : (b.queue cls).length < Config.queueCapacity cls) :
      offer dst body n = filed (b.setQueue cls (b.queue cls ++ [p])) := by
    rw [offer_inRun dst body run, hc, enqueue_room _ h3 h]
  refine ⟨offerPacket_outside dst body false, fun run hc h => room 0 run hc (by omega) h,
    fun run hc h => room 1 run hc (by omega) h, fun run hc h => room 2 run hc (by omega) h,
    fun run hc h => room 3 run hc (by omega) h, fun h t run hc full hq => ?_, fun run hc full => ?_,
    fun run hc full => ?_, fun run hc full => ?_⟩
  · rw [offer_inRun dst body run, hc, enqueue_full_alert _ full]
    split
    next sending => rw [evictAlert_sending hq sending]
    next waiting => rw [evictAlert_waiting hq waiting]
  · rw [offer_inRun dst body run, hc, enqueue_full_control _ full]
  · rw [offer_inRun dst body run, hc, enqueue_full_audio _ full]
  · rw [offer_inRun dst body run, hc, enqueue_full_rest _ full]

/-! ## The tag of a request (R12) -/

/-- The search for a tag passes over tags in use alone, and unless it gives up it ends at a free one. -/
theorem freeTag_spec (tags : List Byte) (fuel : Nat) (t : Byte) :
    ∃ k ≤ fuel, freeTag tags fuel t = t + BitVec.ofNat 8 k ∧ (∀ j < k, t + BitVec.ofNat 8 j ∈ tags) ∧
      (k < fuel → t + BitVec.ofNat 8 k ∉ tags) := by
  induction fuel generalizing t with
  | zero => exact ⟨0, Nat.le_refl _, by simp [freeTag], by simp, by simp⟩
  | succ fuel ih =>
    unfold freeTag
    have next (j : Nat) : t + 1 + BitVec.ofNat 8 j = t + BitVec.ofNat 8 (j + 1) := by
      rw [BitVec.add_assoc, BitVec.ofNat_add, BitVec.add_comm (1 : Byte)]; rfl
    split
    next used =>
      obtain ⟨k, hk, found, before, free⟩ := ih (t + 1)
      refine ⟨k + 1, by omega, by rw [found, next], fun j hj => ?_, fun h => ?_⟩
      · cases j with
        | zero => simpa using used
        | succ j => rw [← next]; exact before j (by omega)
      · rw [← next]; exact free (by omega)
    next unused =>
      exact ⟨0, Nat.zero_le _, by simp, by simp, fun _ => by simpa using unused⟩

/-- Four tags in a row are not all in a table of fewer than four. -/
theorem not_four_tags {tags : List Byte} (h : tags.length < 4) (t : Byte) :
    ¬ ∀ j < 4, t + BitVec.ofNat 8 j ∈ tags := by
  intro all
  have nodup : ((List.range 4).map (fun j => t + BitVec.ofNat 8 j)).Nodup := by
    refine List.pairwise_map.mpr (List.pairwise_lt_range.imp_of_mem fun {i j} hi hj lt same => ?_)
    have equal := congrArg BitVec.toNat ((BitVec.add_right_inj t).mp same)
    rw [List.mem_range] at hi hj
    rw [BitVec.toNat_ofNat, BitVec.toNat_ofNat] at equal
    omega
  have sub : (List.range 4).map (fun j => t + BitVec.ofNat 8 j) ⊆ tags := by
    intro x hx
    obtain ⟨j, hj, rfl⟩ := List.mem_map.mp hx
    exact all j (List.mem_range.mp hj)
  have fits := nodup.length_le_of_subset sub
  rw [List.length_map, List.length_range] at fits
  omega

/-- With a place in the table, the tag found is the first from the counter on that no entry bears. -/
theorem freeTag_first {tags : List Byte} (h : tags.length < 4) (t : Byte) :
    ∃ k < 4, freeTag tags 4 t = t + BitVec.ofNat 8 k ∧ t + BitVec.ofNat 8 k ∉ tags ∧
      ∀ j < k, t + BitVec.ofNat 8 j ∈ tags := by
  obtain ⟨k, hk, found, before, free⟩ := freeTag_spec tags 4 t
  have hk4 : k < 4 := by
    refine Nat.lt_of_le_of_ne hk fun h4 => ?_
    subst h4
    exact not_four_tags h t before
  exact ⟨k, hk4, found, free hk4, before⟩

/-! ## A request asked for (R12) -/

theorem sendRequest_outside {n : Node} (code target : Nat) (args : List Byte) (o : Originator)
    (h : n.inRun = false) : sendRequest code target args o n = (.notSent, n) := by
  unfold sendRequest; rw [h]; rfl

theorem sendRequest_full {n : Node} (code target : Nat) (args : List Byte) (o : Originator) (run : n.inRun = true)
    (full : 4 ≤ n.bus.requesters.length) :
    sendRequest code target args o n =
      (.dropped,
        { n with
          bus :=
            { n.bus with
              counters :=
                { n.bus.counters with
                  keyActionsDropped := min (n.bus.counters.keyActionsDropped + 1) 65535 } } }) := by
  unfold sendRequest; rw [if_pos run, if_neg (Nat.not_lt.mpr full)]; rfl

theorem sendRequest_sent {n : Node} (code target : Nat) (args : List Byte) (o : Originator) (run : n.inRun = true)
    (room : n.bus.requesters.length < 4) {tag : Byte}
    (ht : freeTag (n.bus.requesters.map Requester.tag) 4 n.bus.tagCounter = tag) :
    sendRequest code target args o n =
      (.sent tag,
        offer target (.request code tag args)
          { n with
            bus :=
              { n.bus with
                requesters :=
                  n.bus.requesters ++ [{ tag := tag, code := code, target := target, age := 0, origin := o }],
                tagCounter := tag + 1 } }) := by
  unfold sendRequest; rw [if_pos run, if_pos room, ht]

/-! ## Answers and timeouts (R13, R14) -/

/-- An ANSWER whose tag names no pending entry of its target and code counts as unmatched. -/
theorem answerPacket_unmatched {n : Node} {src : Nat} {p : List Byte}
    (h : ∀ e, n.bus.requesters.find? (fun e => decide (e.tag = p.getD 1 0)) = some e →
      e.target ≠ src ∨ e.code ≠ byteAt p 0) :
    answerPacket src p n = mapBusCounters (fun c => { c with unmatchedAnswers := satInc c.unmatchedAnswers }) n := by
  unfold answerPacket
  dsimp only
  split
  next e he => exact if_neg fun ⟨target, code⟩ => (h e he).elim (· target) (· code)
  next => rfl

/-- An ANSWER that agrees with the pending entry of its tag removes it and hands its outcome on. -/
theorem answerPacket_matched {n : Node} {src : Nat} {p : List Byte} {e : Requester}
    (he : n.bus.requesters.find? (fun e => decide (e.tag = p.getD 1 0)) = some e) (ht : e.target = src)
    (hc : e.code = byteAt p 0) :
    answerPacket src p n =
      handOutcome e (some (byteAt p 2, p.drop 3))
        { n with
          bus :=
            { n.bus with
              requesters := n.bus.requesters.filter (fun x => decide (x.tag ≠ p.getD 1 0)) } } := by
  unfold answerPacket
  simp only [he]
  exact if_pos ⟨ht, hc⟩

/-- An ANSWER that reaches the station goes to the requester table (R8, R13). -/
theorem exec_answer_reached {src dst : Nat} {p : List Byte} {s : State} (h : Reached src dst p.length s)
    (form : 3 ≤ p.length) :
    exec (.answer src dst p) s = .next (settle { s with node := answerPacket src p s.node.heard }) :=
  congrArg Host.Outcome.next (onPacket_reached h (by simpa [formGood] using form))

theorem requestDue_of {n : Node} (h : ∃ e ∈ n.bus.requesters, 100 ≤ e.age) : n.requestDue = true := by
  obtain ⟨e, he, hage⟩ := h
  exact List.any_eq_true.mpr ⟨e, he, decide_eq_true hage⟩

/-- Settles O11: the two outcomes of an ANSWER, the timeouts, and the three outcomes of asking for a request. -/
theorem requestsPairedOrTimedOut : Obligations.RequestsPairedOrTimedOut := by
  refine ⟨fun s => ⟨fun src dst p reached form => ?_, fun rest at_ due => ?_⟩, ?_⟩
  · rw [exec_answer_reached reached form]
    refine ⟨fun e he ht hc => ?_, fun h => ?_⟩
    · rw [answerPacket_matched he ht hc]
    · rw [answerPacket_unmatched h]; rfl
  · rw [exec_event (st := .requestTimeout) rfl, boundaryRow_atStage at_ (requestDue_of due)]
    rfl
  · intro n code target args origin b pending asks
    refine ⟨sendRequest_outside code target args origin, sendRequest_full code target args origin, fun run room => ?_⟩
    have room' : (b.requesters.map Requester.tag).length < 4 := by rw [List.length_map]; exact room
    obtain ⟨k, hk, found, free, before⟩ := freeTag_first room' b.tagCounter
    have mem (t : Byte) : t ∈ b.requesters.map Requester.tag ↔ pending t := List.mem_map
    exact ⟨k, hk, fun h => free ((mem _).mpr h), fun j hj => (mem _).mp (before j hj),
      sendRequest_sent code target args origin run room found⟩

end Sys2Proof.Machine
end

section
/-! PROOFS. The reception of packets (sections 1.3 to 1.5): the checks of R6 on the bytes, the presence table,
and the requests that the bus unit itself refuses. -/

namespace Sys2Proof.Machine

/-! ## The checks of R6 -/

/-- Check 1. -/
theorem crcGood_iff (bs : List Byte) :
    crcGood bs = true ↔ 9 ≤ bs.length ∧ crcBytes (bs.take (bs.length - 4)) = bs.drop (bs.length - 4) := by
  simp only [crcGood, Bool.and_eq_true, decide_eq_true_eq]

/-- The address part of check 2. -/
theorem addressGood_iff (src dst len : Nat) :
    addressGood src dst len = true ↔ 1 ≤ src ∧ src ≤ 30 ∧ 1 ≤ dst ∧ dst ≤ 31 ∧ len ≤ 1024 := by
  simp only [addressGood, Bool.and_eq_true, decide_eq_true_eq, and_assoc]

theorem payloadOf_length {bs : List Byte} (h : 9 ≤ bs.length) : (payloadOf bs).length = bs.length - 9 := by
  simp only [payloadOf, List.length_take, List.length_drop]; omega

/-- The header of a packet passes check 2. -/
def headerGood (bs : List Byte) : Bool :=
  decide (fieldAt bs 3 2 = bs.length - 9) && addressGood (byteAt bs 2) (byteAt bs 1) (fieldAt bs 3 2)

theorem headerGood_iff (bs : List Byte) :
    headerGood bs = true ↔
      fieldAt bs 3 2 = bs.length - 9 ∧ bs.length - 9 ≤ 1024 ∧ 1 ≤ byteAt bs 2 ∧ byteAt bs 2 ≤ 30 ∧
        1 ≤ byteAt bs 1 ∧ byteAt bs 1 ≤ 31 := by
  simp only [headerGood, Bool.and_eq_true, decide_eq_true_eq, addressGood_iff]
  omega

theorem receiveBytes_badCrc {bs : List Byte} {n : Node} (r : n.receives = true) (h1 : crcGood bs = false) :
    receiveBytes bs n =
      (mapBusCounters (fun c => { c with crcErrors := satInc c.crcErrors }) (packetEnd n), none) := by
  unfold receiveBytes; simp [r, h1]

theorem receiveBytes_badHeader {bs : List Byte} {n : Node} (r : n.receives = true) (h1 : crcGood bs = true)
    (h2 : headerGood bs = false) : receiveBytes bs n = (countFormat (packetEnd n), none) := by
  unfold headerGood at h2
  unfold receiveBytes headerOf
  simp only [r, h1, h2, Bool.not_true, Bool.not_false, Bool.false_eq_true, if_false, if_true]

theorem receiveBytes_unknownKind {bs : List Byte} {n : Node} (r : n.receives = true) (h1 : crcGood bs = true)
    (h2 : headerGood bs = true) (h3 : byteAt bs 0 = 0 ∨ 7 < byteAt bs 0) :
    receiveBytes bs n =
      (mapBusCounters (fun c => { c with unknownKinds := satInc c.unknownKinds }) (packetEnd n), none) := by
  unfold headerGood at h2
  unfold receiveBytes headerOf
  simp only [r, h1, h2, h3, Bool.not_true, Bool.false_eq_true, if_false, if_true]

/-- Bytes that pass checks 1 to 3 go to the checks of their kind and their addresses. -/
theorem receiveBytes_checked {bs : List Byte} {n : Node} (r : n.receives = true) (h1 : crcGood bs = true)
    (h2 : headerGood bs = true) (h3 : ¬ (byteAt bs 0 = 0 ∨ 7 < byteAt bs 0)) :
    receiveBytes bs n = checkPacket (byteAt bs 0) (byteAt bs 2) (byteAt bs 1) (payloadOf bs) (packetEnd n) := by
  unfold headerGood at h2
  unfold receiveBytes headerOf
  simp only [r, h1, h2, h3, Bool.not_true, Bool.false_eq_true, if_false]

section
variable {kind src dst : Nat} {p : List Byte} {n : Node}

theorem checkPacket_badForm (ha : addressGood src dst p.length = true) (hf : formGood kind src p = false) :
    checkPacket kind src dst p n = (countFormat n, none) := by
  unfold checkPacket
  rw [if_neg (by simp [ha]), if_pos (by simp [hf])]

/-- A packet of the right form leaves what follows to the station's state and number. -/
theorem checkPacket_formed (ha : addressGood src dst p.length = true) (hf : formGood kind src p = true) :
    checkPacket kind src dst p n =
      if n.station = .unconfigured then (n, none)
      else if src = n.cfg.number then (ownNumber kind n, none)
      else if dst ≠ n.cfg.number ∧ dst ≠ 31 then (n, none)
      else deliver kind src dst p (mapBusCounters (fun c => { c with accepted := satInc c.accepted }) n) := by
  unfold checkPacket
  rw [if_neg (by simp [ha]), if_neg (by simp [hf])]

theorem checkPacket_unconfigured (ha : addressGood src dst p.length = true) (hf : formGood kind src p = true)
    (hu : n.station = .unconfigured) : checkPacket kind src dst p n = (n, none) := by
  rw [checkPacket_formed ha hf, if_pos hu]

theorem checkPacket_own (ha : addressGood src dst p.length = true) (hf : formGood kind src p = true)
    (hu : n.station ≠ .unconfigured) (hs : src = n.cfg.number) :
    checkPacket kind src dst p n = (ownNumber kind n, none) := by
  rw [checkPacket_formed ha hf, if_neg hu, if_pos hs]

theorem checkPacket_elsewhere (ha : addressGood src dst p.length = true) (hf : formGood kind src p = true)
    (hu : n.station ≠ .unconfigured) (hs : src ≠ n.cfg.number) (hd : dst ≠ n.cfg.number) (h31 : dst ≠ 31) :
    checkPacket kind src dst p n = (n, none) := by
  rw [checkPacket_formed ha hf, if_neg hu, if_neg hs, if_pos ⟨hd, h31⟩]

end

theorem ownNumber_duplicate {n : Node} (h : n.station = .listen ∨ n.station = .run) :
    ownNumber 3 n = enterDuplicate n := if_pos ⟨rfl, h⟩

theorem ownNumber_counts {kind : Nat} {n : Node} (h : kind ≠ 3 ∨ (n.station ≠ .listen ∧ n.station ≠ .run)) :
    ownNumber kind n = mapBusCounters (fun c => { c with ownSource := satInc c.ownSource }) n :=
  if_neg fun ⟨h3, hst⟩ => h.elim (· h3) fun ⟨hl, hr⟩ => hst.elim hl hr

theorem packetEnd_station (n : Node) : (packetEnd n).station = n.station := by unfold packetEnd; split <;> rfl

theorem packetEnd_cfg (n : Node) : (packetEnd n).cfg = n.cfg := by unfold packetEnd; split <;> rfl

/-- Bytes that leave the sample memory alone, received between two boundaries. -/
theorem exec_packetDiscarded {s : State} {bytes : List Byte} {m : Node} (q : Quiet s)
    (h : receiveBytes bytes s.node = (m, none)) :
    exec (.packetDiscarded bytes) s = .next (settle { s with node := m }) := by
  refine congrArg Host.Outcome.next ((onPacket_quiet q _).trans ?_)
  rw [h]; rfl

/-- Settles O9: the checks one after another, each on bytes that passed those before it. -/
theorem packetChecks : Obligations.PacketChecks := by
  intro s bytes q r result n c counted len kind dst src pay check1 check2 check3 check4 format
  have good1 : crcGood bytes = true ↔ check1 := crcGood_iff bytes
  have good2 : headerGood bytes = true ↔ check2 := headerGood_iff bytes
  have good3 : ¬ (kind = 0 ∨ 7 < kind) ↔ check3 := by simp only [check3]; omega
  have number : n.cfg.number = s.node.cfg.number := by rw [packetEnd_cfg]
  have station : n.station = s.node.station := packetEnd_station s.node
  have checked (h1 : check1) (h2 : check2) (h3 : check3) :
      receiveBytes bytes s.node = checkPacket kind src dst pay n :=
    receiveBytes_checked r (good1.mpr h1) (good2.mpr h2) (good3.mpr h3)
  have address (h1 : check1) (h2 : check2) : addressGood src dst pay.length = true := by
    obtain ⟨_, hl, hs1, hs2, hd1, hd2⟩ := h2
    have hp : pay.length = len := payloadOf_length h1.1
    exact (addressGood_iff _ _ _).mpr ⟨hs1, hs2, hd1, hd2, hp ▸ hl⟩
  refine ⟨fun h1 => ?_, fun h1 h2 => ?_, fun h1 h2 h3 => ?_, fun h1 h2 h3 h4 => ?_, fun h1 h2 h3 h4 hu => ?_,
    fun h1 h2 h3 h4 hu hs => ⟨fun hk hst => ?_, fun hk => ?_⟩, fun h1 h2 h3 h4 hu hs hd h31 => ?_⟩
  · exact exec_packetDiscarded q (receiveBytes_badCrc r (Bool.eq_false_iff.mpr fun h => h1 (good1.mp h)))
  · exact exec_packetDiscarded q
      (receiveBytes_badHeader r (good1.mpr h1) (Bool.eq_false_iff.mpr fun h => h2 (good2.mp h)))
  · exact exec_packetDiscarded q
      (receiveBytes_unknownKind r (good1.mpr h1) (good2.mpr h2) (Decidable.not_not.mp fun h => h3 (good3.mp h)))
  · exact exec_packetDiscarded q
      ((checked h1 h2 h3).trans (checkPacket_badForm (address h1 h2) (Bool.eq_false_iff.mpr h4)))
  · exact exec_packetDiscarded q
      ((checked h1 h2 h3).trans (checkPacket_unconfigured (address h1 h2) h4 (station.trans hu)))
  · have own := checkPacket_own (n := n) (address h1 h2) h4 (station ▸ hu) (hs.trans number.symm)
    rw [hk, ownNumber_duplicate (station.symm ▸ hst)] at own
    exact exec_packetDiscarded q ((hk ▸ checked h1 h2 h3).trans own)
  · have own := checkPacket_own (n := n) (address h1 h2) h4 (station ▸ hu) (hs.trans number.symm)
    rw [ownNumber_counts (station.symm ▸ hk)] at own
    exact exec_packetDiscarded q ((checked h1 h2 h3).trans own)
  · exact exec_packetDiscarded q
      ((checked h1 h2 h3).trans
        (checkPacket_elsewhere (address h1 h2) h4 (station ▸ hu) (number ▸ hs) (number ▸ hd) h31))

/-! ## The presence table (R9, R16) -/

theorem heard_entry (n : Node) (k : Nat) : n.heard.bus.entry k = n.bus.entry k := by
  simp only [Bus.entry, heard_presence]

/-- The content of a ROLLCALL names its source (section 1.5). -/
theorem parseRollcall_station {src : Nat} {p : List Byte} {r : Rollcall} (h : parseRollcall src p = some r) :
    r.station = src := by
  unfold parseRollcall at h
  extract_lets roles nLink nPhone nStudio at h
  split at h
  next good =>
    obtain ⟨_, source, _⟩ := good
    split at h
    · cases h; exact source
    · cases h
  next => cases h

/-- The link station determined again where something calls for it, and whether it changed (R18). -/
theorem determineLink_if (again : Prop) [Decidable again] (m : Node) :
    (if again then determineLink m else (m, false)) =
      (let link := if again then m.bus.findLink else m.bus.linkStation
      ({ m with bus := { m.bus with linkStation := link } }, decide (link ≠ m.bus.linkStation))) := by
  by_cases h : again
  · simp only [if_pos h]; rfl
  · simp [if_neg h]

/-- A CLAIM that reaches the station is recorded and handed to the air unit (R9). -/
theorem exec_claim_reached {src dst : Nat} {p : List Byte} {s : State} (h : Reached src dst p.length s)
    (hl : p.length = 2) (h2 : byteAt p 0 ≤ 2) :
    exec (.claim src dst p) s = .next (settle { s with node := claimPacket src p s.node.heard }) :=
  congrArg Host.Outcome.next (onPacket_reached h (by simp [formGood, hl, h2]))

/-- A ROLLCALL of the right form that reaches the station (R16). -/
theorem exec_rollcall_reached {src dst : Nat} {p : List Byte} {s : State} {r : Rollcall}
    (h : Reached src dst p.length s) (hr : parseRollcall src p = some r) :
    exec (.rollcall src dst p) s = .next (settle { s with node := rollcallHeard r s.node.heard }) := by
  have hd : deliver 3 src dst p s.node.heard = (rollcallHeard r s.node.heard, none) := by
    simp only [deliver, hr]
  refine congrArg Host.Outcome.next ((onPacket_reached h (by simp [formGood, hr])).trans ?_)
  rw [hd]; rfl

/-- The link station after a ROLLCALL: determined again where the entry was absent or its roles changed (R16). -/
theorem rollcallHeard_eq (r : Rollcall) (n : Node) :
    rollcallHeard r n =
      (let m : Node := { n with bus := n.bus.setEntry r.station (presenceOf r) }
      let link :=
        if (n.bus.entry r.station).present = false ∨ (n.bus.entry r.station).roles ≠ r.roles then m.bus.findLink
        else m.bus.linkStation
      let d : Node := { m with bus := { m.bus with linkStation := link } }
      rollcallClaim r.station r.level r.serial
        (refreshStanding
          (if link ≠ n.bus.linkStation ∨ link = some r.station then judgeHoldFeed d else d))) := by
  have again : (!(n.bus.entry r.station).present || decide ((n.bus.entry r.station).roles ≠ r.roles)) = true ↔
      ((n.bus.entry r.station).present = false ∨ (n.bus.entry r.station).roles ≠ r.roles) := by
    simp only [Bool.or_eq_true, Bool.not_eq_true', decide_eq_true_eq]
  unfold rollcallHeard
  simp only [again, determineLink_if, Bool.or_eq_true, decide_eq_true_eq]
  rfl

/-- Settles O10: a CLAIM and a ROLLCALL that reach the station. -/
theorem presenceRecorded : Obligations.PresenceRecorded := by
  intro s src dst p reached n record
  refine ⟨fun hl h2 => ?_, fun r hr => ?_⟩
  · rw [exec_claim_reached reached hl h2, ← heard_entry]
    rfl
  · rw [exec_rollcall_reached reached hr, rollcallHeard_eq, parseRollcall_station hr, heard_entry, heard_linkStation]
    rfl

/-! ## Requests that the bus unit refuses (R8, R10) -/

/-- A REQUEST that reaches the station between two boundaries. -/
theorem onRequest_reached {src dst : Nat} {code tag : Byte} {a : List Byte} {s : State}
    (h : Reached src dst (2 + a.length) s) :
    onRequest src dst code tag a s =
      settle { s with node := requestPacket src dst (code :: tag :: a) s.node.heard } := by
  have hl : (code :: tag :: a).length = 2 + a.length := by simp; omega
  unfold onRequest
  rw [onPacket_reached (hl ▸ h) (by simp [formGood])]
  rfl

/-- Outside RUN, and to all stations, a REQUEST is ignored (R8). -/
theorem requestPacket_ignored {src dst : Nat} {p : List Byte} {n : Node} (h : n.inRun = false ∨ dst = 31) :
    requestPacket src dst p n = n := by
  unfold requestPacket
  rw [if_neg]
  rcases h with h | h <;> simp [h]

/-- A decision that is no OK brings no soft restart, and its answer is an answer like any other. -/
theorem onRequest_refused {src dst : Nat} {code tag : Byte} {a : List Byte} {s : State} {x : Result} {m : Node}
    (h : Asked src dst a.length s) (hx : x ≠ .ok)
    (hd : decideRequest code.toNat src tag a s.node.heard = .refuse x m) :
    onRequest src dst code tag a s = answered src code.toNat tag { result := x, data := .none, node := m } s := by
  have hb : bringsRestart code.toNat (.refuse x m) s.node.heard = false := by
    simp [bringsRestart, Reply.refuse, hx]
  rw [onRequest_asked h]
  simp only [hd, hb]
  rfl

section
variable {code src : Nat} {tag : Byte} {a : List Byte} {n : Node}

theorem decideRequest_unknown (h : code = 0 ∨ 19 < code) :
    decideRequest code src tag a n =
      .refuse .unknownKind (mapBusCounters (fun c => { c with unknownRequests := satInc c.unknownRequests }) n) :=
  if_pos h

theorem decideRequest_wrongRole (h1 : 1 ≤ code) (h19 : code ≤ 19) (role : roleServes n.cfg.roles code = false) :
    decideRequest code src tag a n = .refuse .wrongRole n := by
  unfold decideRequest; rw [if_neg (by omega), role]; rfl

theorem decideRequest_short (h1 : 1 ≤ code) (h19 : code ≤ 19) (role : roleServes n.cfg.roles code = true)
    (short : a.length < minArgs code) : decideRequest code src tag a n = .refuse .badField n := by
  unfold decideRequest; rw [if_neg (by omega), if_neg (by simp [role]), if_pos short]

end

/-- Settles O12: the REQUESTs that are ignored, and the three refusals in their order. -/
theorem requestsRefusedByTheBus : Obligations.RequestsRefusedByTheBus := by
  intro s c r hc reached n code refused
  rw [exec_request hc]
  refine ⟨fun h => ?_, fun run h31 => ?_⟩
  · rw [onRequest_reached reached, requestPacket_ignored ((heard_inRun s.node).symm ▸ h)]
  have asked : Asked r.src r.dst r.args.length s := ⟨reached, run, h31⟩
  have roles (k : Nat) (b : Bool) (h : roleServes s.node.cfg.roles k = b) : roleServes n.cfg.roles k = b := by
    rw [heard_cfg]; exact h
  refine ⟨fun h => ?_, fun h1 h19 role => ?_, fun h1 h19 role short => ?_⟩
  · rw [onRequest_refused asked (by decide) (decideRequest_unknown h)]; rfl
  · rw [onRequest_refused asked (by decide) (decideRequest_wrongRole h1 h19 (roles _ _ role))]
  · rw [onRequest_refused asked (by decide) (decideRequest_short h1 h19 (roles _ _ role) short)]

end Sys2Proof.Machine
end

section
/-! PROOFS. Roll call, presence and an absent studio (section 1.5, R124, R142). -/

namespace Sys2Proof.Machine

theorem rollDue_of {n : Node} (run : n.inRun = true) (h : n.bus.rollCountdown = some 0) : n.rollDue = true := by
  unfold Node.rollDue; rw [run, h]; rfl

/-- A presence entry expires at age 400 (R17). -/
theorem Presence.expired_iff (p : Presence) : p.expired = true ↔ p.present = true ∧ 400 ≤ p.age := by
  simp only [Presence.expired, Bool.and_eq_true, decide_eq_true_eq]

theorem presenceDue_of {n : Node} (h : ∃ p ∈ n.bus.presence, p.present = true ∧ 400 ≤ p.age) :
    n.presenceDue = true := by
  obtain ⟨p, hp, expired⟩ := h
  exact List.any_eq_true.mpr ⟨p, hp, p.expired_iff.mpr expired⟩

/-- The entries that expire at one boundary, by station number (log 24). -/
theorem presenceExpiry_eq (n : Node) :
    presenceExpiry n =
      ((List.range 30).map (· + 1)).foldl
        (fun m i => if (m.bus.entry i).present = true ∧ 400 ≤ (m.bus.entry i).age then stationGone i m else m) n := by
  unfold presenceExpiry
  simp only [Presence.expired_iff]

/-- The link station determined again changes nothing else (R18). -/
theorem determineLink_node (m : Node) :
    (determineLink m).1 = { m with bus := { m.bus with linkStation := m.bus.findLink } } := rfl

theorem determineLink_changed (m : Node) : (determineLink m).2 = true ↔ m.bus.findLink ≠ m.bus.linkStation :=
  decide_eq_true_iff

/-- A station absent: the entry, the two units told, the link station, the standing (R17, R18, R125). -/
theorem stationGone_eq (k : Nat) (n : Node) :
    stationGone k n =
      (let m : Node := { n with bus := { n.bus with presence := n.bus.presence.set (k - 1) .absent } }
      let told := studioAbsent k (stationAbsent k m)
      let d : Node := { told with bus := { told.bus with linkStation := told.bus.findLink } }
      refreshStanding (if told.bus.findLink ≠ told.bus.linkStation then judgeHoldFeed d else d)) := by
  unfold stationGone Bus.setEntry
  simp only [determineLink_node, determineLink_changed]

/-- The lines on the air for an absent studio, each in turn by number (R142, log 24). -/
theorem studioAbsent_eq (k : Nat) (n : Node) :
    studioAbsent k n =
      [1, 2, 3, 4].foldl
        (fun m i =>
          if (m.phone.line i).state = .onAir ∧ (m.phone.line i).studio = some (.station k) then
            mapPhoneCounters (fun c => { c with studioLosses := satInc c.studioLosses }) (returnHeld i m)
          else m)
        n := by
  unfold studioAbsent eachLine Node.lineRec lineNumbers
  simp only [Bool.and_eq_true, decide_eq_true_eq]

/-- Settles O13: the two rows at their place, the absence of a station and of a studio, and the fields of the
roll call. -/
theorem rollCallAndAbsence : Obligations.RollCallAndAbsence := by
  refine ⟨fun s rest => ⟨fun at_ run zero => ?_, fun at_ due => ?_⟩, fun k n => ⟨?_, ?_, ?_⟩⟩
  · rw [exec_event (st := .rollcallDue) rfl, boundaryRow_atStage at_ (rollDue_of run zero)]
    rfl
  · rw [exec_event (st := .presenceExpiry) rfl, boundaryRow_atStage at_ (presenceDue_of due), ← presenceExpiry_eq]
    rfl
  · exact stationGone_eq k n
  · exact studioAbsent_eq k n
  · rfl

end Sys2Proof.Machine
end

section
/-! PROOFS. The status records (R22, R40, R62, R80, R103, R104, R127, R148, R165, R180, R197). -/

namespace Sys2Proof.Machine

/-! ## The free extents (R80) -/

theorem freeTotal_eq_sum (l : List Extent) : freeTotal l = (l.map (fun e => e.count)).sum := by
  have from_ (a : Nat) : l.foldl (fun a e => a + e.count) a = a + (l.map (fun e => e.count)).sum := by
    induction l generalizing a with
    | nil => rfl
    | cons e l ih => simp only [List.foldl_cons, ih, List.map_cons, List.sum_cons, Nat.add_assoc]
  exact (from_ 0).trans (Nat.zero_add _)

theorem largestExtent_eq_none (l : List Extent) : largestExtent l = none ↔ l = [] := by
  cases l with
  | nil => simp [largestExtent]
  | cons x xs =>
    unfold largestExtent
    refine iff_of_false ?_ (List.cons_ne_nil _ _)
    split
    · split <;> exact Option.some_ne_none _
    · exact Option.some_ne_none _

/-- The largest extent is the first of the largest: every one before it is smaller, none after it is larger. -/
theorem largestExtent_first {l : List Extent} {e : Extent} (h : largestExtent l = some e) :
    ∃ before after,
      l = before ++ e :: after ∧ (∀ y ∈ before, y.count < e.count) ∧ ∀ y ∈ after, y.count ≤ e.count := by
  induction l generalizing e with
  | nil => cases h
  | cons x xs ih =>
    unfold largestExtent at h
    split at h
    next y hy =>
      obtain ⟨before, after, hxs, smaller, notLarger⟩ := ih hy
      split at h
      next lt =>
        cases h
        refine ⟨x :: before, after, by rw [hxs]; rfl, fun z hz => ?_, notLarger⟩
        rcases List.mem_cons.mp hz with rfl | hz
        · exact lt
        · exact smaller z hz
      next ge =>
        cases h
        refine ⟨[], xs, rfl, by simp, fun z hz => ?_⟩
        have bound : z.count ≤ y.count := by
          rw [hxs] at hz
          rcases List.mem_append.mp hz with hz | hz
          · exact Nat.le_of_lt (smaller z hz)
          · rcases List.mem_cons.mp hz with rfl | hz
            · exact Nat.le_refl _
            · exact notLarger z hz
        omega
    next none_ =>
      cases h
      exact ⟨[], xs, rfl, by simp, by simp [(largestExtent_eq_none xs).mp none_]⟩

/-! ## The player that arming would take (R89, R104) -/

theorem armTarget_eq_some (c : Cue) (b : Bool) :
    c.armTarget = some b ↔
      c.a.state ≠ .armed ∧ c.b.state ≠ .armed ∧ (c.player b).state = .idle ∧
        (c.a.state = .idle → c.b.state = .idle → c.preferB = b) := by
  unfold Cue.armTarget Cue.player
  split
  next armed =>
    refine iff_of_false (by simp) fun ⟨ha, hb, _⟩ => armed.elim ha hb
  next notArmed =>
    obtain ⟨ha, hb⟩ := not_or.mp notArmed
    split
    next both => cases b <;> simp [both]
    next notBoth =>
      split
      next onlyA =>
        have notB : c.b.state ≠ .idle := fun h => notBoth ⟨onlyA, h⟩
        cases b <;> simp [hb, onlyA, notB]
      next notA =>
        split
        next onlyB => cases b <;> simp [ha, onlyB, notA]
        next notB => cases b <;> simp [notA, notB]

/-- Whether a player is shown with a start pending: its own, or the one that PLAY left for the player that arming
would take (R104, log 17). -/
def Cue.startShown (c : Cue) (b : Bool) : Bool :=
  (c.player b).pending || (c.armStart && decide (c.armTarget = some b))

theorem startShown_iff (c : Cue) (b : Bool) :
    c.startShown b = true ↔ (c.player b).pending = true ∨ (c.armStart = true ∧ c.armTarget = some b) := by
  simp only [Cue.startShown, Bool.or_eq_true, Bool.and_eq_true, decide_eq_true_eq]

/-- An index names player B where it is 1, and player A elsewhere. -/
theorem player_index (c : Cue) (i : Nat) : c.player (decide (i = 1)) = if i = 1 then c.b else c.a := by
  by_cases h : i = 1 <;> simp [Cue.player, h]

/-! ## The rows of the claims table that AIRVIEW lists (R127) -/

theorem mem_claimRows (n : Node) (r : ClaimRow) :
    r ∈ n.claimRows ↔
      r.station ≤ 30 ∧ r.entry = n.air.entry r.station ∧ (r.entry.claim ≠ none ∨ r.entry.lastSerial ≠ none) ∧
        r.kind = if r.station = 0 then .alert else if r.station = n.cfg.number then .own else .peer := by
  simp only [Node.claimRows, List.mem_filter, List.mem_map, List.mem_range, Bool.or_eq_true,
    Option.isSome_iff_ne_none]
  constructor
  · rintro ⟨⟨k, hk, rfl⟩, held⟩
    exact ⟨Nat.le_of_lt_succ hk, rfl, held, rfl⟩
  · rintro ⟨hk, entry, held, kind⟩
    have kind' : n.entryKind r.station = r.kind := kind.symm
    exact ⟨⟨r.station, by omega, by rw [kind', ← entry]⟩, held⟩

theorem claimRows_rising (n : Node) : (n.claimRows.map (fun r => r.station)).Pairwise (· < ·) := by
  unfold Node.claimRows
  rw [List.pairwise_map]
  refine List.Pairwise.filter _ ?_
  rw [List.pairwise_map]
  exact List.pairwise_lt_range

/-! ## The answer to a STATUS_QUERY (R197) -/

/-- The bytes of a record begin with its kind and the index. -/
theorem recordBytes_take (fresh : Nat) (kind index : Byte) :
    (recordBytes fresh kind.toNat index.toNat).take 2 = [kind, index] := by
  simp [recordBytes]

/-- A STATUS_QUERY that reaches its owner is answered with the owner's reply (R10, R197). -/
theorem exec_statusQuery {c : Instr} {src dst : Nat} {tag kind index : Byte} {s : State}
    (hc : requestParts c = some ⟨src, dst, 18, tag, [kind, index]⟩) (asked : Asked src dst 2 s) :
    exec c s = .next (answered src 18 tag (statusReply kind.toNat index.toNat s.node.heard) s) := by
  rw [exec_request hc]
  exact congrArg Host.Outcome.next
    (onRequest_owner (code := 18) asked (by decide) (by decide) (by decide) rfl (Nat.le_refl 2))

/-- The three parts of what is said of a row of STATUS_QUERY: the first bytes, the record, and the refusal. -/
theorem statusQuery_gives {c : Instr} {src dst : Nat} {tag kind index : Byte} {s : State} {ok : Prop} {d : ResultData}
    (hc : requestParts c = some ⟨src, dst, 18, tag, [kind, index]⟩) (asked : Asked src dst 2 s)
    (bytes : ∀ fresh, resultBytes fresh d = recordBytes fresh kind.toNat index.toNat)
    (shown : ok → statusReply kind.toNat index.toNat s.node.heard = .ok d s.node.heard)
    (refused : ¬ ok → statusReply kind.toNat index.toNat s.node.heard = .refuse .badField s.node.heard) :
    (∀ fresh, (resultBytes fresh d).take 2 = [kind, index]) ∧
      (ok → exec c s = .next (answered src 18 tag { result := .ok, data := d, node := s.node.heard } s)) ∧
      (¬ ok →
        exec c s = .next (answered src 18 tag { result := .badField, data := .none, node := s.node.heard } s)) := by
  refine ⟨fun fresh => ?_, fun h => ?_, fun h => ?_⟩
  · rw [bytes, recordBytes_take]
  · rw [exec_statusQuery hc asked, shown h]; rfl
  · rw [exec_statusQuery hc asked, refused h]; rfl

theorem recordIf_shown {p : Bool} {ok : Prop} {d d' : ResultData} {n : Node} (hp : ok → p = true) (hd : d = d')
    (h : ok) : recordIf p d n = .ok d' n := by
  unfold recordIf; rw [if_pos (hp h), hd]

theorem recordIf_refused {p : Bool} {d : ResultData} {n : Node} (hp : p = false) :
    recordIf p d n = .refuse .badField n := by
  unfold recordIf; rw [hp]; rfl

theorem not_isEmpty_eq (l : List Byte) : (!l.isEmpty) = decide (l ≠ []) := by cases l <;> rfl

/-- Settles O14: the nine rows, each with its record field by field. -/
theorem statusRecordsAnswered : Obligations.StatusRecordsAnswered := by
  intro s src dst tag index asked n i gives b q x a l ramp meter slot extents player armsNext contacts leg
  have hplayer : q.player (decide (i = 1)) = player := player_index q i
  refine ⟨?_, ?_, ⟨largestExtent extents, largestExtent_eq_none _, fun e => largestExtent_first, ?_⟩, ?_,
    ⟨q.startShown (decide (i = 1)), ?_, ?_⟩, ?_, mem_claimRows n, claimRows_rising n, ?_, ?_, ?_⟩
  · exact statusQuery_gives (kind := 1) rfl asked (fun _ => rfl) (fun _ => rfl) (fun h => absurd trivial h)
  · exact statusQuery_gives (kind := 2) rfl asked (fun _ => rfl) (recordIf_shown decide_eq_true rfl)
      (fun h => recordIf_refused (decide_eq_false h))
  · have inRange : decide (i ≤ 255) = true := decide_eq_true (Nat.le_of_lt_succ index.isLt)
    rw [← freeTotal_eq_sum]
    exact statusQuery_gives (kind := 3) rfl asked (fun _ => rfl) (recordIf_shown (fun _ => inRange) rfl)
      (fun h => absurd trivial h)
  · exact statusQuery_gives (kind := 4) rfl asked (fun _ => rfl) (recordIf_shown decide_eq_true rfl)
      (fun h => recordIf_refused (decide_eq_false h))
  · rw [startShown_iff, armTarget_eq_some, hplayer]
  · rw [← hplayer]
    exact statusQuery_gives (kind := 5) rfl asked (fun _ => rfl) (recordIf_shown decide_eq_true rfl)
      (fun h => recordIf_refused (decide_eq_false h))
  · exact statusQuery_gives (kind := 6) rfl asked (fun _ => rfl) (fun _ => rfl) (fun h => absurd trivial h)
  · refine statusQuery_gives (kind := 7) rfl asked (fun _ => rfl) (fun _ => ?_) (fun h => absurd trivial h)
    show Reply.ok (.airView i n.airView) n = _
    unfold Node.airView Bus.linkEntry
    cases b.linkStation <;> rfl
  · rw [← not_isEmpty_eq]
    exact statusQuery_gives (kind := 8) rfl asked (fun _ => rfl) (fun _ => rfl) (fun h => absurd trivial h)
  · have role : n.cfg.roles.link = s.node.cfg.roles.link := by rw [heard_cfg]
    exact statusQuery_gives (kind := 9) rfl asked (fun _ => rfl) (recordIf_shown (fun h => role.trans h) rfl)
      (fun h => recordIf_refused (role.trans (Bool.eq_false_iff.mpr h)))

end Sys2Proof.Machine
end

section
/-! PROOFS. The placing of arrivals (section 2.3, R31 to R33). -/

namespace Sys2Proof.Machine

/-! ## An arrival at a slot, by its distance from the last sequence (R32) -/

section
variable {s : Slot} {b : HeldBlock} {last : Seq16}

/-- With no last sequence an arrival is the origin; an ENDED slot fills again. -/
theorem Slot.arrive_origin (h : s.lastSeq = none) :
    s.arrive b =
      { s with
        noArrival := 0, lastSeq := some b.seq,
        state := if s.state = SlotState.ended then .filling else s.state }.append b := by
  unfold Slot.arrive; simp only [h]

theorem Slot.arrive_next (h : s.lastSeq = some last) (hd : seqDistance b.seq last = 1) :
    s.arrive b = { s with noArrival := 0, lastSeq := some b.seq }.append b := by
  unfold Slot.arrive; simp only [h]; rw [if_pos hd]

theorem Slot.arrive_lost (h : s.lastSeq = some last) (h2 : 2 ≤ seqDistance b.seq last)
    (h8 : seqDistance b.seq last ≤ 8) :
    s.arrive b =
      { s with
        noArrival := 0, lastSeq := some b.seq,
        totals := s.totals.addLost (seqDistance b.seq last - 1) }.append b := by
  unfold Slot.arrive; simp only [h]; rw [if_neg (by omega), if_pos ⟨h2, h8⟩]

theorem Slot.arrive_resync (h : s.lastSeq = some last) (h9 : 9 ≤ seqDistance b.seq last)
    (hd : seqDistance b.seq last ≤ 32768) :
    s.arrive b =
      ({ s.emptied with
          noArrival := 0, blocks := [b], state := .filling, lastSeq := some b.seq,
          totals := { s.totals with resyncs := satInc s.totals.resyncs } },
        false) := by
  unfold Slot.arrive; simp only [h]; rw [if_neg (by omega), if_neg (by omega), if_pos ⟨h9, hd⟩]; rfl

theorem Slot.arrive_stale (h : s.lastSeq = some last)
    (hd : seqDistance b.seq last = 0 ∨ 32769 ≤ seqDistance b.seq last) :
    s.arrive b =
      ({ s with noArrival := 0, totals := { s.totals with stale := satInc s.totals.stale } }, false) := by
  unfold Slot.arrive; simp only [h]; rw [if_neg (by omega), if_neg (by omega), if_neg (by omega)]

end

/-! ## A BLOCK that reaches the station (R31) -/

@[simp] theorem heard_runawaySeen (n : Node) : n.heard.bus.runawaySeen = n.bus.runawaySeen := by
  simp only [Node.heard, packetEnd]; split <;> rfl

theorem blockArrives_unnamed {src : Nat} {f : BlockFields} {n : Node} (h : n.streams.find src f.index = none) :
    blockArrives src f n = n := by
  unfold blockArrives; rw [h]

/-- The block that a BLOCK brings to its slot. -/
def BlockFields.held (f : BlockFields) : HeldBlock :=
  { seq := f.seq, channels := f.channels, endFlag := f.endFlag, audio := f.audio }

theorem blockArrives_named {src : Nat} {f : BlockFields} {n : Node} {i : Nat} {r : Slot × Bool}
    (h : n.streams.find src f.index = some i) (hr : (n.streams.slot i).arrive f.held = r) :
    blockArrives src f n =
      { n with
        streams := { n.streams with slots := n.streams.slots.set i r.1 },
        bus := { n.bus with runawaySeen := n.bus.runawaySeen || r.2 } } := by
  unfold blockArrives; rw [h]; subst hr; rfl

/-- A BLOCK of the right form that reaches the station goes to the stream unit. -/
theorem exec_block_reached {src dst : Nat} {p : List Byte} {s : State} {f : BlockFields}
    (h : Reached src dst p.length s) (hf : parseBlock p = some f) :
    exec (.block src dst p) s = .next (settle { s with node := blockArrives src f s.node.heard }) := by
  have hd : deliver 1 src dst p s.node.heard = (blockArrives src f s.node.heard, none) := by
    simp only [deliver, hf]
  refine congrArg Host.Outcome.next ((onPacket_reached h (by simp [formGood, hf])).trans ?_)
  rw [hd]; rfl

/-- A BLOCK of a stream that an entry names: the entry's slot after the arrival, and the runaway-seen flag. -/
theorem exec_block_named {src dst : Nat} {p : List Byte} {s : State} {f : BlockFields} {i : Nat} {r : Slot × Bool}
    (h : Reached src dst p.length s) (hf : parseBlock p = some f) (hi : s.node.streams.find src f.index = some i)
    (hr : (s.node.streams.slot i).arrive f.held = r) :
    exec (.block src dst p) s =
      .next (settle
        { s with
          node :=
            { s.node.heard with
              streams := { s.node.streams with slots := s.node.streams.slots.set i r.1 },
              bus := { s.node.heard.bus with runawaySeen := s.node.bus.runawaySeen || r.2 } } }) := by
  rw [← heard_streams] at hi hr
  rw [exec_block_reached h hf, blockArrives_named hi hr, heard_streams, heard_runawaySeen]

/-- Settles O15: the stream that no entry names, and the five places of an arrival. -/
theorem blockPlacedBySequence : Obligations.BlockPlacedBySequence := by
  intro s src dst payload f reached hf
  refine ⟨fun h => ?_, fun i hi => ?_⟩
  · rw [exec_block_reached reached hf, blockArrives_unnamed (by rw [heard_streams]; exact h)]
  intro old b behind base appended put result
  have placed {r : Slot × Bool} (hr : old.arrive b = r) : result = put r := exec_block_named reached hf hi hr
  refine ⟨fun origin => placed (Slot.arrive_origin origin), fun last hlast => ⟨fun h1 => ?_, fun h2 h8 => ?_,
    fun h9 h => ?_, fun h => ?_⟩⟩
  · exact placed (Slot.arrive_next hlast h1)
  · exact placed (Slot.arrive_lost hlast h2 h8)
  · exact placed (Slot.arrive_resync hlast h9 h)
  · exact placed (Slot.arrive_stale hlast h)

end Sys2Proof.Machine
end

section
/-! PROOFS. The receive slots at a block boundary (section 2.4, R34 to R37). -/

namespace Sys2Proof.Machine

/-! ## What a slot gives out (R34 to R36) -/

/-- A slot gives out the block `b`, with `rest` behind it, and ends after a block with END (R35, R37). -/
def Slot.supply (s : Slot) (b : HeldBlock) (rest : List HeldBlock) : Slot × Bool :=
  let given : Slot :=
    { s with
      state := .running, blocks := rest, readPos := (s.readPos + 1) % 16, lastSupplied := some b,
      overflowRun := 0, out := b.given }
  if b.endFlag then (given.endWith b.given, true) else (given, false)

section
variable {s : Slot} {a b : HeldBlock} {rest tail : List HeldBlock} {startDepth highMark : Nat}

theorem Slot.slips_iff (h : s.blocks = a :: rest) :
    s.slips highMark = true ↔ highMark ≤ s.blocks.length ∧ a.endFlag = false := by
  simp only [Slot.slips, h, Bool.and_eq_true, decide_eq_true_eq, Bool.not_eq_true']

/-- Below the high mark, and before a block with END, a read-out takes the oldest block. -/
theorem Slot.read_oldest (h : s.blocks = a :: rest) (hs : s.blocks.length < highMark ∨ a.endFlag = true) :
    s.read highMark = s.supply a rest := by
  have stays : ¬ s.slips highMark = true := by
    rw [Slot.slips_iff h]
    rintro ⟨high, noEnd⟩
    rcases hs with low | atEnd
    · omega
    · exact absurd (noEnd.symm.trans atEnd) (by decide)
  unfold Slot.read
  simp only [if_neg stays, h]
  rfl

/-- At or above the high mark the oldest block is discarded and the next one given out. -/
theorem Slot.read_slip (h : s.blocks = a :: b :: tail) (high : highMark ≤ s.blocks.length)
    (noEnd : a.endFlag = false) : s.read highMark = s.slip.supply b tail := by
  have slipped : s.slip.blocks = b :: tail := by simp only [Slot.slip, h, List.drop_one, List.tail_cons]
  unfold Slot.read
  simp only [if_pos ((Slot.slips_iff h).mpr ⟨high, noEnd⟩), slipped]
  rfl

/-- A slot run empty gives out the last supplied block again (R36). -/
theorem Slot.read_empty (h : s.blocks = []) :
    s.read highMark =
      ({ s with
          state := .refilling,
          out := s.lastSupplied.elim .silence HeldBlock.given,
          totals := { s.totals with underruns := satInc s.totals.underruns } },
        false) := by
  have stays : ¬ s.slips highMark = true := by simp [Slot.slips, h]
  unfold Slot.read
  simp only [if_neg stays, h]
  cases s.lastSupplied <;> rfl

/-- A slot is released by its depth or by a block with END (R34). -/
theorem Slot.released_iff :
    s.released startDepth = true ↔ startDepth ≤ s.blocks.length ∨ ∃ c ∈ s.blocks, c.endFlag = true := by
  simp only [Slot.released, Bool.or_eq_true, decide_eq_true_eq, List.any_eq_true]

theorem Slot.boundary_free (h : s.state = .free) : s.boundary startDepth highMark = (s, false) := by
  unfold Slot.boundary; simp only [h]

theorem Slot.boundary_ended (h : s.state = .ended) :
    s.boundary startDepth highMark = ({ s with out := .silence }, false) := by
  unfold Slot.boundary; simp only [h]

theorem Slot.boundary_running (h : s.state = .running) : s.boundary startDepth highMark = s.read highMark := by
  unfold Slot.boundary; simp only [h]

theorem Slot.boundary_filling (h : s.state = .filling ∨ s.state = .refilling) :
    s.boundary startDepth highMark =
      if s.released startDepth then s.read highMark else ({ s with out := .silence }, false) := by
  unfold Slot.boundary
  rcases h with h | h <;> simp only [h]

/-- A slot that is RUNNING, or released at this boundary, is read out. -/
theorem Slot.boundary_reads
    (h : s.state = .running ∨ ((s.state = .filling ∨ s.state = .refilling) ∧
      (startDepth ≤ s.blocks.length ∨ ∃ c ∈ s.blocks, c.endFlag = true))) :
    s.boundary startDepth highMark = s.read highMark := by
  rcases h with running | ⟨filling, released⟩
  · exact Slot.boundary_running running
  · rw [Slot.boundary_filling filling, if_pos (Slot.released_iff.mpr released)]

/-- A slot that fills and is not released gives out silence. -/
theorem Slot.boundary_waits (h : s.state = .filling ∨ s.state = .refilling)
    (hn : ¬ (startDepth ≤ s.blocks.length ∨ ∃ c ∈ s.blocks, c.endFlag = true)) :
    s.boundary startDepth highMark = ({ s with out := .silence }, false) := by
  rw [Slot.boundary_filling h, if_neg fun r => hn (Slot.released_iff.mp r)]

end

/-! ## The no-arrival count and its end (R34, R37) -/

theorem SlotState.timed_iff (t : SlotState) : t.timed = true ↔ t = .running ∨ t = .refilling := by
  cases t <;> simp [SlotState.timed]

theorem Slot.age_eq (s : Slot) :
    s.age =
      if s.state = .running ∨ s.state = .refilling then { s with noArrival := min (s.noArrival + 1) 50 } else s := by
  simp only [Slot.age, SlotState.timed_iff]

theorem Slot.timedOut_iff (s : Slot) :
    s.timedOut = true ↔ (s.state = .running ∨ s.state = .refilling) ∧ 50 ≤ s.noArrival := by
  simp only [Slot.timedOut, Bool.and_eq_true, SlotState.timed_iff, decide_eq_true_eq]

/-- A slot after SLOT_TIMEOUT. -/
def Slot.afterTimeout (s : Slot) : Slot := if s.timedOut then s.endWith .silence else s

theorem slotTimeoutDue_of {n : Node}
    (h : ∃ x ∈ n.streams.slots, (x.state = .running ∨ x.state = .refilling) ∧ 50 ≤ x.noArrival) :
    n.slotTimeoutDue = true := by
  obtain ⟨x, hx, due⟩ := h
  exact List.any_eq_true.mpr ⟨x, hx, x.timedOut_iff.mpr due⟩

/-- SLOT_TIMEOUT: the slots that have run out of time end, and then each is reported. -/
theorem slotTimeouts_eq (n : Node) :
    slotTimeouts n =
      (slotReports (fun i => (n.streams.slot i).timedOut) .timeout).foldl (fun x r => reportSlotEnd r x)
        { n with streams := { n.streams with slots := n.streams.slots.map Slot.afterTimeout } } := rfl

theorem mem_slotReports (ended : Nat → Bool) (why : EndReason) (r : SlotReport) :
    r ∈ slotReports ended why ↔ r.entry < 8 ∧ ended r.entry = true ∧ r.reason = why := by
  simp only [slotReports, List.mem_map, List.mem_filter, List.mem_range]
  constructor
  · rintro ⟨i, ⟨lt, hi⟩, rfl⟩
    exact ⟨lt, hi, rfl⟩
  · rintro ⟨lt, hi, rfl⟩
    exact ⟨r.entry, ⟨lt, hi⟩, rfl⟩

/-- The reports of one reason stand in slot order (log 24). -/
theorem slotReports_rising (ended : Nat → Bool) (why : EndReason) :
    (slotReports ended why).Pairwise (fun a b => a.entry < b.entry) :=
  List.pairwise_map.mpr (List.pairwise_lt_range.filter _)

/-- Settles O16: a slot in each of its states, the three stages, and who is told of an ending. -/
theorem slotsAtABoundary : Obligations.SlotsAtABoundary := by
  refine ⟨fun x startDepth highMark => ?_, fun m n => ⟨?_, rfl⟩, fun s rest at_ => ?_, fun r n => rfl⟩
  · intro released reads
    refine ⟨Slot.boundary_free, Slot.boundary_ended, fun fills waits => ?_, fun runs empty => ?_,
      fun a rest held out => ⟨fun noSlip => ?_, fun b tail hrest high noEnd => ?_⟩⟩
    · exact Slot.boundary_waits fills fun r => waits (.inr ⟨fills, r⟩)
    · rw [Slot.boundary_running runs, Slot.read_empty empty]
      cases x.lastSupplied <;> rfl
    · rw [Slot.boundary_reads out, Slot.read_oldest held noSlip]
      rfl
    · rw [Slot.boundary_reads out, Slot.read_slip (hrest ▸ held) high noEnd]
      simp only [Slot.slip, held, hrest]
      rfl
  · simp only [← Slot.age_eq]
    rfl
  · intro due h
    refine ⟨Slot.afterTimeout, slotReports (fun i => (s.node.streams.slot i).timedOut) .timeout,
      fun x hx => if_pos (x.timedOut_iff.mpr hx), fun x hx => if_neg fun t => hx (x.timedOut_iff.mp t),
      fun r => ?_, slotReports_rising _ _, ?_⟩
    · rw [mem_slotReports, Slot.timedOut_iff]
    · rw [exec_event (st := .slotTimeout) rfl, boundaryRow_atStage at_ (slotTimeoutDue_of h), ← slotTimeouts_eq]
      rfl

end Sys2Proof.Machine
end

section
/-! PROOFS. The outgoing stream set (section 2.1, R24 to R26). -/

namespace Sys2Proof.Machine

/-! ## One index of the set replaced -/

theorem modifyAt_eq_set {α : Type} {l : List α} {i : Nat} {a : α} (h : l[i]? = some a) (f : α → α) :
    modifyAt l i f = l.set i (f a) := by
  induction l generalizing i with
  | nil => cases h
  | cons x xs ih =>
    cases i with
    | zero => cases h; rfl
    | succ i => exact congrArg (x :: ·) (ih h)

/-- The part with one outgoing index replaced. -/
def setOut (i : Nat) (x : OutIndex) (n : Node) : Node :=
  { n with streams := { n.streams with outgoing := n.streams.outgoing.set i x } }

section
variable {i : Nat} {o x : OutIndex} {n : Node}

theorem setOut_self (ho : n.streams.outgoing[i]? = some o) : setOut i o n = n := by
  obtain ⟨hi, rfl⟩ := List.getElem?_eq_some_iff.mp ho
  unfold setOut; rw [List.set_getElem_self]

theorem out_eq (ho : n.streams.outgoing[i]? = some o) : n.streams.out i = o := by
  unfold Streams.out; rw [List.getD_eq_getElem?_getD, ho]; rfl

/-! ## Requests to start and to stop (R24, R26) -/

theorem requestOut_sends (sends : sendsIndex n.cfg.roles i = true) (ho : n.streams.outgoing[i]? = some o)
    (f : OutIndex → OutIndex) : requestOut i f n = setOut i (f o) n := by
  unfold requestOut; rw [if_pos sends, modifyAt_eq_set ho]; rfl

theorem OutIndex.askStart_active (h : o.state = .active) (line : Nat) :
    o.askStart line = { o with next := some line } := by
  unfold OutIndex.askStart; rw [h]

theorem OutIndex.askStart_waits (h : o.state ≠ .active) (line : Nat) :
    o.askStart line = { o with start := some line } := by
  unfold OutIndex.askStart; split
  · contradiction
  · rfl

theorem OutIndex.askStop_active (h : o.state = .active) : o.askStop = { o with state := .ending } := by
  unfold OutIndex.askStop; rw [h]

theorem OutIndex.askStop_other (h : o.state ≠ .active) : o.askStop = o := by
  unfold OutIndex.askStop; split
  · contradiction
  · rfl

/-! ## An index at a block boundary (R24, R25) -/

theorem OutIndex.startTaken_inactive {l : Nat} (h : o.state = .inactive) (hs : o.start = some l) :
    o.startTaken = o.started l := by
  unfold OutIndex.startTaken; rw [h, hs]

theorem OutIndex.startTaken_again {l : Nat} (h : o.state = .ending) (again : o.again = true) (hs : o.start = some l) :
    o.startTaken = o.started l := by
  unfold OutIndex.startTaken; rw [h, hs]; exact if_pos again

/-- No start is taken where none waits, by an ACTIVE index, and by an ENDING one before its END block. -/
theorem OutIndex.startTaken_keeps (h : o.start = none ∨ o.state = .active ∨ (o.state = .ending ∧ o.again = false)) :
    o.startTaken = o := by
  unfold OutIndex.startTaken
  rcases h with hs | ha | ⟨he, again⟩
  · rw [hs]; cases o.state <;> rfl
  · rw [ha]
  · rw [he]
    cases o.start with
    | none => rfl
    | some l => exact if_neg (Bool.eq_false_iff.mp again)

/-- Outside RUN a start takes effect and no BLOCK is made. -/
theorem makeBlock_outside (run : n.inRun = false) (ho : n.streams.outgoing[i]? = some o) :
    makeBlock i n = setOut i o.startTaken n := by
  unfold makeBlock; simp only [run, Bool.false_and, Bool.false_eq_true, if_false, modifyAt_eq_set ho]; rfl

/-- An INACTIVE index with no start that waits makes no BLOCK. -/
theorem makeBlock_idle (ho : n.streams.outgoing[i]? = some o) (h : o.state = .inactive) (hs : o.start = none) :
    makeBlock i n = n := by
  have keeps : o.startTaken = o := OutIndex.startTaken_keeps (.inl hs)
  have opened : o.opened.state = .inactive := by unfold OutIndex.opened; simp only [keeps, h, if_true]
  unfold makeBlock
  simp only [out_eq ho, opened, ne_eq, not_true_eq_false, decide_false, Bool.and_false, Bool.false_eq_true, if_false,
    modifyAt_eq_set ho, keeps]
  exact setOut_self ho

/-- An index that sends in RUN, after the start that it takes: its new line number, its BLOCK, and the index after
it. -/
theorem makeBlock_sends (run : n.inRun = true) (ho : n.streams.outgoing[i]? = some o) (hx : o.startTaken = x)
    (sends : x.state ≠ .inactive) :
    makeBlock i n =
      let opened : OutIndex := { x with line := x.next.getD x.line, next := none }
      offer 31 (opened.block i (n.audio.forIndex i)) (setOut i opened.sent n) := by
  have opened : o.opened = { x with line := x.next.getD x.line, next := none } := by
    unfold OutIndex.opened; simp only [hx, sends, if_false]
  unfold makeBlock
  simp only [out_eq ho, run, opened, ne_eq, sends, not_false_eq_true, decide_true, Bool.and_self, if_true,
    modifyAt_eq_set ho]
  rfl

/-- The BLOCK of an ACTIVE index, or of one that a start has just made ACTIVE. -/
theorem makeBlock_active (run : n.inRun = true) (ho : n.streams.outgoing[i]? = some o) (hx : o.startTaken = x)
    (h : x.state = .active) :
    makeBlock i n =
      offer 31
        (.block i (outChannels i) x.seq false (if 6 ≤ i then x.next.getD x.line else 0) (n.audio.forIndex i))
        (setOut i { x with line := x.next.getD x.line, next := none, seq := x.seq + 1 } n) := by
  rw [makeBlock_sends run ho hx (by rw [h]; decide)]
  simp only [OutIndex.block, OutIndex.sent, h]
  rfl

/-- An ENDING index with no start kept makes its END block and is INACTIVE after it (R26). -/
theorem makeBlock_ending (run : n.inRun = true) (ho : n.streams.outgoing[i]? = some o) (h : o.state = .ending)
    (hs : o.start = none) :
    makeBlock i n =
      offer 31
        (.block i (outChannels i) o.seq true (if 6 ≤ i then o.next.getD o.line else 0) (n.audio.forIndex i))
        (setOut i
          { o with state := .inactive, line := o.next.getD o.line, next := none, seq := o.seq + 1 } n) := by
  rw [makeBlock_sends run ho (OutIndex.startTaken_keeps (.inl hs)) (by rw [h]; decide)]
  simp only [OutIndex.block, OutIndex.sent, h, hs]
  rfl

/-- An ENDING index that keeps a start stays ENDING after its END block, to start again (R24). -/
theorem makeBlock_ending_kept {l : Nat} (run : n.inRun = true) (ho : n.streams.outgoing[i]? = some o)
    (h : o.state = .ending) (hs : o.start = some l) (first : o.again = false) :
    makeBlock i n =
      offer 31
        (.block i (outChannels i) o.seq true (if 6 ≤ i then o.next.getD o.line else 0) (n.audio.forIndex i))
        (setOut i { o with line := o.next.getD o.line, next := none, seq := o.seq + 1, again := true } n) := by
  rw [makeBlock_sends run ho (OutIndex.startTaken_keeps (.inr (.inr ⟨h, first⟩))) (by rw [h]; decide)]
  simp only [OutIndex.block, OutIndex.sent, h, hs]
  rfl

end

/-! ## The audio of a BLOCK (section 2.1) -/

theorem block48_of_length {α : Type} {xs : List α} (z : α) (h : xs.length = 48) : block48 z xs = xs := by
  have unpadded : block48 z xs = (xs ++ []).take 48 := by unfold block48; rw [h]; rfl
  rw [unpadded, List.append_nil, List.take_of_length_le (Nat.le_of_eq h)]

theorem forIndex_mono {a : BlockAudio} {i : Nat} {xs : List Sample}
    (hi : a.forIndex i = block48 (0, 0) (xs.map (fun x => (x, x)))) (h : xs.length = 48) :
    a.forIndex i = xs.map (fun x => (x, x)) :=
  hi.trans (block48_of_length _ (by rw [List.length_map, h]))

/-- The indices 1 to 4 carry the four lines. -/
theorem forIndex_line {a : BlockAudio} {i : Nat} {xs : List Sample} (h1 : 1 ≤ i) (h4 : i ≤ 4)
    (h : a.lines[i - 1]? = some xs) : a.forIndex i = block48 (0, 0) (xs.map (fun x => (x, x))) := by
  have line : a.lines.getD (i - 1) [] = xs := by rw [List.getD_eq_getElem?_getD, h]; rfl
  rw [← line]
  have four : i = 1 ∨ i = 2 ∨ i = 3 ∨ i = 4 := by omega
  rcases four with rfl | rfl | rfl | rfl <;> rfl

/-- Settles O17: the requests, the boundary outside RUN and in RUN in each state of the index, and the audio. -/
theorem blocksMade : Obligations.BlocksMade := by
  intro m n i
  refine ⟨fun line none_ => ⟨requestOut_refused _ none_, requestOut_refused _ none_⟩, rfl, fun o ho => ?_⟩
  intro put
  refine ⟨fun sends => ⟨fun line => ⟨fun h => ?_, fun h => ?_⟩, fun h => ?_, fun h => ?_⟩,
    fun outside => ⟨fun l hs h => ?_, fun h => ?_⟩, fun run => ?_, block48_of_length _, block48_of_length _,
    forIndex_mono rfl, forIndex_mono rfl, fun xs h1 h4 hl => forIndex_mono (forIndex_line h1 h4 hl)⟩
  · exact (requestOut_sends sends ho _).trans (congrArg put (OutIndex.askStart_active h line))
  · exact (requestOut_sends sends ho _).trans (congrArg put (OutIndex.askStart_waits h line))
  · exact (requestOut_sends sends ho _).trans (congrArg put (OutIndex.askStop_active h))
  · rw [stopOut, requestOut_sends sends ho, OutIndex.askStop_other h, setOut_self ho]
  · have taken : o.startTaken = o.started l :=
      h.elim (OutIndex.startTaken_inactive · hs) fun ⟨he, again⟩ => OutIndex.startTaken_again he again hs
    exact (makeBlock_outside outside ho).trans (congrArg put taken)
  · rw [makeBlock_outside outside ho, OutIndex.startTaken_keeps h, setOut_self ho]
  · intro sends line
    refine ⟨makeBlock_idle ho, fun l h hs => ?_, fun h => ?_, makeBlock_ending run ho,
      fun l h hs => ⟨fun first => ?_, fun again => ?_⟩⟩
    · exact makeBlock_active run ho (OutIndex.startTaken_inactive h hs) rfl
    · exact makeBlock_active run ho (OutIndex.startTaken_keeps (.inr (.inl h))) h
    · exact makeBlock_ending_kept run ho h hs first
    · exact makeBlock_active run ho (OutIndex.startTaken_again h again hs) rfl

end Sys2Proof.Machine
end

section
/-! PROOFS. The listen table (section 2.2, R28 to R30). -/

namespace Sys2Proof.Machine

/-! ## An entry looked for -/

/-- An entry that names a stream makes the search for that stream succeed. -/
theorem Streams.find_isSome_iff (t : Streams) (station index : Nat) :
    (t.find station index).isSome = true ↔
      ∃ e ∈ t.listen, e.valid = true ∧ e.station = station ∧ e.index = index := by
  simp only [Streams.find, List.findIdx?_isSome, List.any_eq_true, Bool.and_eq_true, decide_eq_true_eq, and_assoc]

theorem Streams.find_eq_none_iff (t : Streams) (station index : Nat) :
    t.find station index = none ↔
      ∀ e ∈ t.listen, ¬ (e.valid = true ∧ e.station = station ∧ e.index = index) := by
  rw [← Option.not_isSome_iff_eq_none, t.find_isSome_iff]
  simp only [not_exists, not_and]

/-! ## The outcome of adding an entry (R28) -/

theorem Streams.addOutcome_named {t : Streams} {station index : Nat}
    (h : ∃ e ∈ t.listen, e.valid = true ∧ e.station = station ∧ e.index = index) :
    t.addOutcome station index = .refused .inUse := by
  obtain ⟨i, hi⟩ := Option.isSome_iff_exists.mp ((t.find_isSome_iff station index).mpr h)
  unfold Streams.addOutcome; rw [hi]

/-- A stream that no entry names is for the lowest-numbered entry that is not valid to decide. -/
theorem Streams.addOutcome_unnamed {t : Streams} {station index : Nat} {place : Option Nat}
    (h : ∀ e ∈ t.listen, ¬ (e.valid = true ∧ e.station = station ∧ e.index = index))
    (hp : t.listen.findIdx? (fun e => !e.valid) = place) :
    t.addOutcome station index = place.elim (.refused .full) .added := by
  unfold Streams.addOutcome
  rw [(t.find_eq_none_iff station index).mpr h, hp]
  cases place <;> rfl

theorem findIdx?_invalid_full {l : List ListenEntry} (h : ∀ e ∈ l, e.valid = true) :
    l.findIdx? (fun e => !e.valid) = none :=
  List.findIdx?_eq_none_iff.mpr fun e he => by rw [h e he]; rfl

/-- The lowest-numbered entry that is not valid. -/
theorem findIdx?_invalid_first {before after : List ListenEntry} {e : ListenEntry}
    (hb : ∀ x ∈ before, x.valid = true) (he : e.valid = false) :
    (before ++ e :: after).findIdx? (fun e => !e.valid) = some before.length := by
  rw [List.findIdx?_append, findIdx?_invalid_full hb, List.findIdx?_cons, he]
  simp

/-! ## The table changed -/

theorem addListen_refused {station index : Nat} {p : Purpose} {n : Node} {why : AddFailure}
    (h : n.streams.addOutcome station index = .refused why) : addListen station index p n = (.refused why, n) := by
  unfold addListen; rw [h]

theorem addListen_added {station index : Nat} {p : Purpose} {n : Node} {i : Nat}
    (h : n.streams.addOutcome station index = .added i) :
    addListen station index p n =
      (.added i,
        { n with
          streams :=
            { n.streams with
              listen :=
                n.streams.listen.set i
                  { valid := true, station := station, index := index, purpose := p, requester := p.owner },
              slots := modifyAt n.streams.slots i Slot.ready },
          meters := { n.meters with slots := modifyAt n.meters.slots i MeterPoint.begin } }) := by
  unfold addListen; rw [h]

theorem changePurpose_own {i : Nat} {p : Purpose} {n : Node} (hv : (n.streams.entry i).valid = true)
    (hr : (n.streams.entry i).requester = p.owner) :
    changePurpose i p n =
      { n with
        streams :=
          { n.streams with
            listen := n.streams.listen.set i { n.streams.entry i with purpose := p } } } := by
  unfold changePurpose; simp only [hv, hr, decide_true, Bool.and_self, if_true]

theorem changePurpose_refused {i : Nat} {p : Purpose} {n : Node}
    (h : (n.streams.entry i).valid = false ∨ (n.streams.entry i).requester ≠ p.owner) :
    changePurpose i p n = n := by
  unfold changePurpose
  refine if_neg ?_
  rcases h with h | h <;> simp [h]

theorem removeListen_valid {i : Nat} {n : Node} (h : (n.streams.entry i).valid = true) :
    removeListen i n =
      { n with
        streams :=
          { n.streams with
            listen := n.streams.listen.set i { n.streams.entry i with valid := false },
            slots := modifyAt n.streams.slots i Slot.flush },
        meters := { n.meters with slots := modifyAt n.meters.slots i MeterPoint.stop } } := by
  unfold removeListen; rw [if_pos h]

theorem removeListen_invalid {i : Nat} {n : Node} (h : (n.streams.entry i).valid = false) : removeListen i n = n := by
  unfold removeListen; rw [h]; rfl

/-- Settles O18: the three outcomes of an addition, the two of a change of purpose, and the two of a removal. -/
theorem listenTableChanges : Obligations.ListenTableChanges := by
  unfold Obligations.ListenTableChanges
  intro owner
  have howner (p : Purpose) : owner p = p.owner := by cases p <;> rfl
  constructor
  · intro station index p n named
    refine ⟨fun h => ?_, fun h full => ?_, fun before e after hl hb he h => ?_⟩
    · exact addListen_refused (Streams.addOutcome_named h)
    · exact addListen_refused (Streams.addOutcome_unnamed h (findIdx?_invalid_full full))
    · have first : n.streams.listen.findIdx? (fun e => !e.valid) = some before.length := by
        rw [hl, findIdx?_invalid_first hb he]
      rw [addListen_added (Streams.addOutcome_unnamed h first), hl, List.set_append_right _ _ (Nat.le_refl _),
        Nat.sub_self, howner]
      rfl
  · intro i p n e
    refine ⟨fun hv hr => ?_, fun h => ?_, removeListen_valid, removeListen_invalid, rfl, rfl⟩
    · exact changePurpose_own hv (hr.trans (howner p))
    · exact changePurpose_refused (howner p ▸ h)

end Sys2Proof.Machine
end

section
/-! PROOFS. Ramps (section 3.3, R45, R46). -/

namespace Sys2Proof.Machine

/-! ## The way of a ramp (R45) -/

/-- The truncated share of a way, up to its whole length, stays between no way and the whole way. -/
theorem share_between (d : Int) {j len : Nat} (h : j < len) :
    min 0 d ≤ (d * j).tdiv len ∧ (d * j).tdiv len ≤ max 0 d := by
  have upward (e : Int) (he : 0 ≤ e) : 0 ≤ (e * j).tdiv len ∧ (e * j).tdiv len ≤ e := by
    refine ⟨Int.tdiv_nonneg (Int.mul_nonneg he (Int.natCast_nonneg j)) (Int.natCast_nonneg len), ?_⟩
    have whole : e * j ≤ e * len := Int.mul_le_mul_of_nonneg_left (by omega) he
    rw [Int.tdiv_eq_ediv_of_nonneg (Int.mul_nonneg he (Int.natCast_nonneg j))]
    exact Int.ediv_le_of_le_mul (by omega) whole
  rcases Int.le_total 0 d with up | down
  · obtain ⟨low, high⟩ := upward d up
    omega
  · obtain ⟨low, high⟩ := upward (-d) (by omega)
    rw [Int.neg_mul, Int.neg_tdiv] at low high
    omega

section
variable {r : Ramp}

/-- The value on the way: the start and the truncated share of the way. -/
theorem Ramp.value_on_way (h : r.pos < r.len) :
    (r.value : Int) = r.start + (((r.target : Int) - r.start) * r.pos).tdiv r.len := by
  obtain ⟨low, _⟩ := share_between ((r.target : Int) - r.start) h
  unfold Ramp.value
  rw [if_pos h, Int.toNat_of_nonneg (by omega)]

theorem Ramp.value_at_end (h : r.len ≤ r.pos) : r.value = r.target := if_neg (Nat.not_lt.mpr h)

theorem Ramp.value_between (r : Ramp) : min r.start r.target ≤ r.value ∧ r.value ≤ max r.start r.target := by
  rcases Nat.lt_or_ge r.pos r.len with way | ended
  · have value := Ramp.value_on_way way
    obtain ⟨low, high⟩ := share_between ((r.target : Int) - r.start) way
    omega
  · rw [Ramp.value_at_end ended]
    omega

theorem Ramp.advance_on_way (h : r.pos < r.len) : r.advance = { r with pos := r.pos + 1 } := if_pos h

theorem Ramp.advance_at_end (h : r.len ≤ r.pos) : r.advance = r := if_neg (Nat.not_lt.mpr h)

/-- The instants of a ramp up to its length. -/
theorem Ramp.advance_repeat {k : Nat} (h : r.pos + k ≤ r.len) :
    Nat.repeat Ramp.advance k r = { r with pos := r.pos + k } := by
  induction k with
  | zero => rfl
  | succ k ih =>
    have before : Nat.repeat Ramp.advance k r = { r with pos := r.pos + k } := ih (by omega)
    show (Nat.repeat Ramp.advance k r).advance = _
    rw [before]
    exact Ramp.advance_on_way (r := { r with pos := r.pos + k }) h

theorem Ramp.repeat_reaches_target (r : Ramp) : (Nat.repeat Ramp.advance (r.len - r.pos) r).value = r.target := by
  rcases Nat.le_total r.pos r.len with way | ended
  · rw [Ramp.advance_repeat (by omega)]
    exact Ramp.value_at_end (r := { r with pos := r.pos + (r.len - r.pos) }) (by dsimp only; omega)
  · rw [Nat.sub_eq_zero_of_le ended]
    exact Ramp.value_at_end ended

/-! ## A new target (R46) -/

theorem Ramp.retarget_turn (r : Ramp) (t : Nat) {n : Nat} (h : 0 < n) :
    r.retarget t n =
      { start := r.value, target := t, len := 48 * n, pos := 0, running := true, pending := none } :=
  if_neg (by omega)

/-- A target just given has not moved the ramp yet. -/
theorem Ramp.retarget_value (r : Ramp) (t : Nat) {n : Nat} (h : 0 < n) : (r.retarget t n).value = r.value := by
  have noShare : (((t : Int) - r.value) * (0 : Nat)).tdiv (48 * n : Nat) = 0 := by
    rw [Int.natCast_zero, Int.mul_zero, Int.zero_tdiv]
  have way : (r.retarget t n).pos < (r.retarget t n).len := by rw [Ramp.retarget_turn r t h]; dsimp only; omega
  have value := Ramp.value_on_way way
  rw [Ramp.retarget_turn r t h] at value ⊢
  dsimp only at value
  rw [noShare, Int.add_zero] at value
  exact Int.ofNat.inj value

end

/-- Settles O19: the ramp on its way, at its end, turned, and given two targets. -/
theorem rampsTurnAndRun : Obligations.RampsTurnAndRun := by
  intro r
  refine ⟨fun way => ⟨Ramp.advance_on_way way, ?_, ?_⟩, fun ended => ?_, Ramp.repeat_reaches_target r,
    fun t => ⟨rfl, rfl⟩, fun t n pos => ⟨Ramp.retarget_turn r t pos, Ramp.retarget_value r t pos⟩,
    fun t n t' n' => ⟨rfl, rfl⟩⟩
  · rw [Ramp.advance_on_way way]
    split
    next on => exact Ramp.value_on_way (r := { r with pos := r.pos + 1 }) on
    next reached =>
      exact congrArg Int.ofNat (Ramp.value_at_end (r := { r with pos := r.pos + 1 }) (Nat.le_of_not_lt reached))
  · have between := Ramp.value_between r.advance
    rw [Ramp.advance_on_way way] at between ⊢
    exact between
  · exact ⟨Ramp.advance_at_end ended, Ramp.value_at_end ended⟩

end Sys2Proof.Machine
end

section
/-! PROOFS. Scenes (section 3.4, R48, R49). -/

namespace Sys2Proof.Machine

/-! ## The two requests at a STUDIO station -/

theorem exec_sceneWrite_asked {src dst : Nat} {tag : Byte} {a : List Byte} {s : State}
    (asked : Asked src dst a.length s) (studio : s.node.cfg.roles.studio = true) (args : 4 ≤ a.length) :
    exec (.sceneWrite src dst tag a) s = .next (answered src 6 tag (ownSceneWrite a s.node.heard) s) :=
  congrArg Host.Outcome.next
    (onRequest_owner (code := 6) asked (by decide) (by decide) (by decide) studio args)

theorem exec_sceneSwap_asked {src dst : Nat} {tag : Byte} {a : List Byte} {s : State}
    (asked : Asked src dst a.length s) (studio : s.node.cfg.roles.studio = true) (args : 2 ≤ a.length) :
    exec (.sceneSwap src dst tag a) s = .next (answered src 7 tag (ownSceneSwap a s.node.heard) s) :=
  congrArg Host.Outcome.next
    (onRequest_owner (code := 7) asked (by decide) (by decide) (by decide) studio args)

/-! ## A value written into a bank (R48) -/

/-- The mixer with a value stored in one of its banks. -/
def Mixer.stored (m : Mixer) (bank item v : Nat) : Mixer := m.setBank bank ((m.bank bank).store item v)

theorem Mixer.stored_eq (m : Mixer) (bank item v : Nat) :
    m.stored bank item v =
      if bank = 0 then { m with bank0 := m.bank0.store item v } else { m with bank1 := m.bank1.store item v } := by
  unfold Mixer.stored Mixer.setBank Mixer.bank
  split <;> rfl

/-- The mixer after an accepted SCENE_WRITE: the value stored, and in the live bank its target given. -/
def Mixer.written (m : Mixer) (bank item v : Nat) : Mixer :=
  if bank = m.live then (m.stored bank item v).writeLive item v else m.stored bank item v

section
variable {m : Mixer} {bank item : Nat}

theorem Mixer.written_elsewhere (h : bank ≠ m.live) (v : Nat) : m.written bank item v = m.stored bank item v :=
  if_neg h

/-- A channel gain written to the live bank waits at the item's ramp. -/
theorem Mixer.written_gain (h : bank = m.live) (hi : item ≤ 7) (v : Nat) :
    m.written bank item v =
      { m.stored bank item v with gains := m.gains.modify item (fun r => { r with pending := some (v, 2) }) } := by
  unfold Mixer.written Mixer.writeLive
  rw [if_pos h, if_neg (by omega), Mixer.stored_eq]
  split <;> rfl

/-- A duck depth written to the live bank waits at the duck factor where the duck is ON. -/
theorem Mixer.written_duckDepth (h : bank = m.live) (hi : item = 8) (v : Nat) :
    m.written bank item v =
      if m.duckOn then { m.stored bank item v with duck := { m.duck with pending := some (v, 2) } }
      else m.stored bank item v := by
  unfold Mixer.written Mixer.writeLive
  rw [if_pos h, if_pos hi, Mixer.stored_eq]
  split <;> rfl

end

section
variable {a : List Byte} {n : Node}

theorem ownSceneWrite_busy (h : n.mixer.swap ≠ none) : ownSceneWrite a n = .refuse .busy n :=
  if_pos (Option.isSome_iff_ne_none.mpr h)

theorem ownSceneWrite_badField (h : n.mixer.swap = none) (bad : 1 < byteAt a 0 ∨ 8 < byteAt a 1) :
    ownSceneWrite a n = .refuse .badField n := by
  unfold ownSceneWrite
  simp only [h, Option.isSome_none, Bool.false_eq_true, if_false]
  exact if_pos bad

theorem ownSceneWrite_stores (h : n.mixer.swap = none) (bank : byteAt a 0 ≤ 1) (item : byteAt a 1 ≤ 8) :
    ownSceneWrite a n =
      .ok .none { n with mixer := n.mixer.written (byteAt a 0) (byteAt a 1) (fieldAt a 2 2) } := by
  unfold ownSceneWrite
  simp only [h, Option.isSome_none, Bool.false_eq_true, if_false]
  exact if_neg (by omega)

end

/-- Settles O22: the two refusals, the write beside the live bank, and the two kinds of item of the live one. -/
theorem sceneWriteDecided : Obligations.SceneWriteDecided := by
  intro s src dst tag a asked studio args n x bank item v gives stored
  have mixer : n.mixer = x := heard_mixer s.node
  have isStored : x.stored bank item v = stored := Mixer.stored_eq x bank item v
  have given {r : Result} {m : Node} (h : ownSceneWrite a n = { result := r, data := .none, node := m }) : gives r m :=
    (exec_sceneWrite_asked asked studio args).trans (by rw [h])
  have writes {m : Mixer} (free : x.swap = none) (hb : bank ≤ 1) (hi : item ≤ 8) (h : x.written bank item v = m) :
      gives .ok { n with mixer := m } := by
    refine given ((ownSceneWrite_stores (mixer ▸ free) hb hi).trans ?_)
    rw [← h, mixer]
    rfl
  refine ⟨fun swap => ?_, fun free bad => ?_, fun free hb hi other => ?_, fun free hb hi live => ?_,
    fun free hb hi live => ⟨fun on => ?_, fun off => ?_⟩⟩
  · exact given (ownSceneWrite_busy (mixer ▸ swap))
  · exact given (ownSceneWrite_badField (mixer ▸ free) bad)
  · exact writes free hb hi ((Mixer.written_elsewhere other v).trans isStored)
  · refine writes free hb (Nat.le_succ_of_le hi) ?_
    rw [Mixer.written_gain live hi v, isStored]
  · refine writes free hb (Nat.le_of_eq hi) ?_
    rw [Mixer.written_duckDepth live hi v, if_pos on, isStored]
  · refine writes free hb (Nat.le_of_eq hi) ?_
    rw [Mixer.written_duckDepth live hi v, if_neg (Bool.eq_false_iff.mp off), isStored]

end Sys2Proof.Machine
end

section
/-! PROOFS. The mix of an instant (section 3.8, R54 to R56). -/

namespace Sys2Proof.Machine

/-- The duck lowers the gain of a local input unless its voice flag is set (R54). -/
theorem Mixer.effectiveGain_local (m : Mixer) (flags : List Bool) {i : Nat} (h : i < 4) :
    m.effectiveGain flags i = if flags.getD i false then m.gain i else scaleGain (m.gain i) m.duck.value := by
  match i, h with
  | 0, _ | 1, _ | 2, _ | 3, _ => rfl

theorem Mixer.effectiveGain_playerA (m : Mixer) (flags : List Bool) :
    m.effectiveGain flags 4 = scaleGain (scaleGain (m.gain 4) m.faderA.value) m.duck.value := by
  simp only [Mixer.effectiveGain]

theorem Mixer.effectiveGain_playerB (m : Mixer) (flags : List Bool) :
    m.effectiveGain flags 5 = scaleGain (scaleGain (m.gain 5) m.faderB.value) m.duck.value := by
  simp only [Mixer.effectiveGain]

theorem Mixer.effectiveGain_caller1 (m : Mixer) (flags : List Bool) :
    m.effectiveGain flags 6 = scaleGain (m.gain 6) m.caller1.fader.value := by
  simp only [Mixer.effectiveGain]

theorem Mixer.effectiveGain_caller2 (m : Mixer) (flags : List Bool) :
    m.effectiveGain flags 7 = scaleGain (m.gain 7) m.caller2.fader.value := by
  simp only [Mixer.effectiveGain]

/-- The two exact sums of R55, over the eight inputs. -/
theorem mixSums_mixTerms (mem : Memory) (n : Node) (inp : Inputs) :
    let g := n.mixer.effectiveGain n.cfg.voiceFlags
    let a := playerGives mem n n.cue.a
    let b := playerGives mem n n.cue.b
    let mono : Int :=
      (inp.locals.getD 0 0).toInt * g 0 + (inp.locals.getD 1 0).toInt * g 1 + (inp.locals.getD 2 0).toInt * g 2 +
        (inp.locals.getD 3 0).toInt * g 3
    let t1 : Int := (callerGives n inp n.mixer.caller1).toInt * g 6
    let t2 : Int := (callerGives n inp n.mixer.caller2).toInt * g 7
    mixSums (mixTerms mem n inp) =
      (mono + a.1.toInt * g 4 + b.1.toInt * g 5 + t1 + t2, mono + a.2.toInt * g 4 + b.2.toInt * g 5 + t1 + t2) := by
  intro g a b mono t1 t2
  show (0 + _ + _ + _ + _ + _ + _ + _ + _, 0 + _ + _ + _ + _ + _ + _ + _ + _) = _
  rw [Int.zero_add, Int.zero_add]
  rfl

/-- What the mixer makes of its exact sums and of the callers' terms in them: the programme (R55), the two mix-minus
samples and their clip totals (R56), the players' positions and the studio programme point. -/
theorem mixInstant_of_sums {mem : Memory} {inp : Inputs} {n : Node} {accL accR t1 t2 : Int}
    (sums : mixSums (mixTerms mem n inp) = (accL, accR))
    (term1 : (callerGives n inp n.mixer.caller1).toInt * n.mixer.effectiveGain n.cfg.voiceFlags 6 = t1)
    (term2 : (callerGives n inp n.mixer.caller2).toInt * n.mixer.effectiveGain n.cfg.voiceFlags 7 = t2) :
    let left := roundMix accL
    let right := roundMix accR
    let minus1 := roundMinus (accL - t1 + (accR - t1))
    let minus2 := roundMinus (accL - t2 + (accR - t2))
    mixInstant mem inp n =
      { n with
        mixer :=
          { n.mixer with
            programme := (saturate left, saturate right), mixMinus1 := saturate minus1, mixMinus2 := saturate minus2,
            mmClips1 := if clamps minus1 then satInc n.mixer.mmClips1 else n.mixer.mmClips1,
            mmClips2 := if clamps minus2 then satInc n.mixer.mmClips2 else n.mixer.mmClips2 },
        cue := { n.cue with a := n.cue.a.readOn, b := n.cue.b.readOn },
        meters :=
          { n.meters with
            studio :=
              n.meters.studio.take [saturate left, saturate right]
                ((if clamps left then 1 else 0) + (if clamps right then 1 else 0)) } } := by
  subst term1 term2
  unfold mixInstant
  simp only [sums]
  rfl

/-! ## The instant of a STUDIO station (R42) -/

theorem stationInstant_studio {mem : Memory} {inp : Inputs} {n x : Node} (studio : n.cfg.roles.studio = true)
    (hx : mixInstant mem inp { n with mixer := n.mixer.advance } = x) :
    stationInstant mem inp n =
      gatherAudio inp
        (slotMeters (linesInstant (if n.cfg.roles.link then selectorInstant mem (advanceLink x) else x))) := by
  subst hx
  unfold stationInstant
  rw [if_pos studio]

theorem exec_sampleSetInstant_onBus {s : State} (inp : Inputs) (q : Quiet s) (bus : s.node.onBus = true) :
    exec (.sampleSetInstant inp) s =
      .next (settle { s with node := stationInstant s.mem inp (takeInputs inp s.node) }) := by
  have onInstant : instant s.mem inp s.node = stationInstant s.mem inp (takeInputs inp s.node) := if_pos bus
  rw [← onInstant]
  exact congrArg Host.Outcome.next (onNode_quiet q _)

/-- Settles O20: the effective gains and the sums as they are written out, and the instant around the mix. -/
theorem instantMixesTheProgramme : Obligations.InstantMixesTheProgramme := by
  intro s inp q bus studio m0 m n duck voice locals a b c1 c2 gA gB mono t1 t2 accL accR left right minus1 minus2
    clamped mixed x
  have gain (i : Nat) (h : i < 4) : n.mixer.effectiveGain n.cfg.voiceFlags i = locals i :=
    m.effectiveGain_local s.node.cfg.voiceFlags h
  have sums : mixSums (mixTerms s.mem n inp) = (accL, accR) := by
    refine (mixSums_mixTerms s.mem n inp).trans ?_
    rw [gain 0 (by decide), gain 1 (by decide), gain 2 (by decide), gain 3 (by decide), Mixer.effectiveGain_playerA,
      Mixer.effectiveGain_playerB, Mixer.effectiveGain_caller1, Mixer.effectiveGain_caller2]
    rfl
  have mix : mixInstant s.mem inp n = x :=
    mixInstant_of_sums sums (by rw [Mixer.effectiveGain_caller1]) (by rw [Mixer.effectiveGain_caller2])
  rw [exec_sampleSetInstant_onBus inp q bus, stationInstant_studio (n := takeInputs inp s.node) studio mix]
  rfl

end Sys2Proof.Machine
end

section
/-! PROOFS. The mixer at a block boundary and its rows (sections 3.4 to 3.6, R46, R49, R51 to R53). -/

namespace Sys2Proof.Machine

/-! ## The mixer's part of a boundary -/

/-- A target that has just been given leaves none waiting. -/
theorem Ramp.retarget_applyPending (r : Ramp) (t n : Nat) : (r.retarget t n).applyPending = r.retarget t n := by
  unfold Ramp.retarget
  split <;> rfl

theorem Mixer.startSwap_none {m : Mixer} (h : ∀ w, m.swap = some w → w.started = true) : m.startSwap = m := by
  unfold Mixer.startSwap
  cases hs : m.swap with
  | none => rfl
  | some w => exact if_pos (h w hs)

theorem Mixer.startSwap_waiting {m : Mixer} {w : Swap} (h : m.swap = some w) (waits : w.started = false) :
    m.startSwap =
      { m with
        swap := some { w with started := true },
        gains := List.zipWith (fun (r : Ramp) g => r.retarget g w.len) m.gains m.liveBank.gains,
        duck := if m.duckOn then m.duck.retarget m.liveBank.duckDepth w.len else m.duck } := by
  unfold Mixer.startSwap
  rw [h]
  exact if_neg (Bool.eq_false_iff.mp waits)

/-- The mixer at a boundary before the duck is decided, with the channel gain ramps, the duck factor and the swap that
the boundary leaves it (R53). -/
def Mixer.beforeDuck (m : Mixer) (gains : List Ramp) (duck : Ramp) (swap : Option Swap) : Mixer :=
  { m with
    caller1 := m.caller1.applyPending, caller2 := m.caller2.applyPending, gains := gains,
    faderA := m.faderA.applyPending, faderB := m.faderB.applyPending, swap := swap, duck := duck }

/-- With no swap to start, the ramps take the targets given before (R46). -/
theorem Mixer.boundary_noStart {m : Mixer} (h : ∀ w, m.swap = some w → w.started = true) (voice : Bool) :
    m.boundary voice =
      (m.beforeDuck (m.gains.map Ramp.applyPending) m.duck.applyPending m.swap).decideDuck voice :=
  congrArg (fun x : Mixer => x.applyTargets.decideDuck voice)
    (Mixer.startSwap_none (m := { m with caller1 := m.caller1.applyPending, caller2 := m.caller2.applyPending }) h)

/-- A swap that starts gives the ramps its own targets, in place of those given before (R46, R49). -/
theorem Mixer.boundary_start {m : Mixer} {w : Swap} (h : m.swap = some w) (waits : w.started = false) (voice : Bool) :
    m.boundary voice =
      (m.beforeDuck (List.zipWith (fun r g => r.retarget g w.len) m.gains m.liveBank.gains)
        (if m.duckOn then m.duck.retarget m.liveBank.duckDepth w.len else m.duck.applyPending)
        (some { w with started := true })).decideDuck voice := by
  have gains : (List.zipWith (fun (r : Ramp) g => r.retarget g w.len) m.gains m.liveBank.gains).map Ramp.applyPending =
      List.zipWith (fun r g => r.retarget g w.len) m.gains m.liveBank.gains := by
    simp only [List.map_zipWith, Ramp.retarget_applyPending]
  have duck : (if m.duckOn then m.duck.retarget m.liveBank.duckDepth w.len else m.duck).applyPending =
      if m.duckOn then m.duck.retarget m.liveBank.duckDepth w.len else m.duck.applyPending := by
    split
    · exact Ramp.retarget_applyPending _ _ _
    · rfl
  rw [← gains, ← duck]
  exact congrArg (fun x : Mixer => x.applyTargets.decideDuck voice)
    (Mixer.startSwap_waiting (m := { m with caller1 := m.caller1.applyPending, caller2 := m.caller2.applyPending })
      h waits)

theorem Mixer.duckCondition_iff (m : Mixer) (voice : Bool) :
    m.duckCondition voice = true ↔
      voice = true ∨ (m.caller1.state = .active ∧ 0 < m.gain 6) ∨ (m.caller2.state = .active ∧ 0 < m.gain 7) := by
  simp only [Mixer.duckCondition, Bool.or_eq_true, Bool.and_eq_true, decide_eq_true_eq, or_assoc]

/-- The duck follows its condition, and a change of it gives the duck factor its target (R53). -/
theorem Mixer.decideDuck_eq {m : Mixer} {voice : Bool} {holds : Prop} [Decidable holds]
    (h : m.duckCondition voice = true ↔ holds) :
    m.decideDuck voice =
      { m with
        duckOn := decide holds,
        duck :=
          if holds ∧ m.duckOn = false then m.duck.retarget m.liveBank.duckDepth 5
          else if ¬ holds ∧ m.duckOn = true then m.duck.retarget 16384 5
          else m.duck } := by
  have cond : m.duckCondition voice = decide holds := Bool.eq_iff_iff.mpr (h.trans decide_eq_true_iff.symm)
  have kept {b : Bool} (was : m.duckOn = b) : m = { m with duckOn := b } := by rw [← was]
  unfold Mixer.decideDuck
  dsimp only
  rw [cond]
  by_cases on : holds
  · rw [decide_eq_true on]
    cases was : m.duckOn with
    | false => rw [if_neg Bool.false_ne_true.symm, if_pos rfl, if_pos ⟨on, rfl⟩]
    | true => rw [if_pos rfl, if_neg (fun h => Bool.noConfusion h.2), if_neg (fun h => h.1 on)]; exact kept was
  · rw [decide_eq_false on]
    cases was : m.duckOn with
    | false => rw [if_pos rfl, if_neg (fun h => on h.1), if_neg (fun h => Bool.noConfusion h.2)]; exact kept was
    | true => rw [if_neg Bool.false_ne_true, if_neg Bool.false_ne_true, if_neg (fun h => on h.1), if_pos ⟨on, rfl⟩]

theorem Mixer.swapOver_of {m : Mixer} {w : Swap} (h : m.swap = some w) (started : w.started = true)
    (zero : w.remaining = 0) : m.swapOver = true := by
  unfold Mixer.swapOver
  rw [h]
  exact Bool.and_eq_true_iff.mpr ⟨started, decide_eq_true zero⟩

/-! ## The end of a caller release (R52, R147) -/

theorem Caller.releaseOver_iff (c : Caller) :
    c.releaseOver = true ↔ c.state = .releasing ∧ c.fader.running = true ∧ c.fader.len ≤ c.fader.pos := by
  simp only [Caller.releaseOver, Ramp.ended, Bool.and_eq_true, decide_eq_true_eq]

theorem removeListen_setMixer (i : Nat) (x : Mixer) (n : Node) :
    removeListen i { n with mixer := x } = { removeListen i n with mixer := x } := by
  cases hv : (n.streams.entry i).valid with
  | true => rw [removeListen_valid hv, removeListen_valid (n := { n with mixer := x }) hv]
  | false => rw [removeListen_invalid hv, removeListen_invalid (n := { n with mixer := x }) hv]

/-- The report of a release to the take path neither reads nor changes the mixer. -/
theorem releaseComplete_setMixer (ch : Nat) (x : Mixer) (n : Node) :
    releaseComplete ch { n with mixer := x } = { releaseComplete ch n with mixer := x } := by
  have listen (e : Option Nat) : removeListen? e { n with mixer := x } = { removeListen? e n with mixer := x } := by
    cases e with
    | none => rfl
    | some i => exact removeListen_setMixer i x n
  by_cases h : (n.takeRec ch).state = .releasing
  · have h' : (Node.takeRec { n with mixer := x } ch).state = .releasing := h
    unfold releaseComplete
    rw [if_pos h, if_pos h', listen]
    rfl
  · exact (if_neg h).trans (congrArg (fun y : Node => { y with mixer := x }) (if_neg h).symm)

theorem releaseComplete_mixer (ch : Nat) (n : Node) : (releaseComplete ch n).mixer = n.mixer := by
  have same : releaseComplete ch n = { releaseComplete ch n with mixer := n.mixer } :=
    releaseComplete_setMixer ch n.mixer n
  rw [same]

/-- CALLER_RELEASE_DONE at one channel. -/
def releaseEnds (ch : Nat) (n : Node) : Node :=
  if (n.mixer.caller ch).releaseOver then
    releaseComplete ch { n with mixer := n.mixer.setCaller ch (n.mixer.caller ch).released }
  else n

theorem callerReleases_eq (n : Node) : callerReleases n = releaseEnds 2 (releaseEnds 1 n) := rfl

theorem releaseEnds_over {ch : Nat} {n : Node} (h : (n.mixer.caller ch).releaseOver = true) :
    releaseEnds ch n = releaseComplete ch { n with mixer := n.mixer.setCaller ch (n.mixer.caller ch).released } :=
  if_pos h

theorem releaseEnds_running {ch : Nat} {n : Node} (h : ¬ (n.mixer.caller ch).releaseOver = true) :
    releaseEnds ch n = n :=
  if_neg h

/-- Channel 1 alone has run out. -/
theorem callerReleases_first {n : Node} (h1 : n.mixer.caller1.releaseOver = true)
    (h2 : ¬ n.mixer.caller2.releaseOver = true) :
    callerReleases n =
      releaseComplete 1 { n with mixer := { n.mixer with caller1 := n.mixer.caller1.released } } := by
  rw [callerReleases_eq, releaseEnds_over (ch := 1) h1]
  refine releaseEnds_running ?_
  rw [releaseComplete_mixer]
  exact h2

/-- Channel 2 alone has run out. -/
theorem callerReleases_second {n : Node} (h1 : ¬ n.mixer.caller1.releaseOver = true)
    (h2 : n.mixer.caller2.releaseOver = true) :
    callerReleases n =
      releaseComplete 2 { n with mixer := { n.mixer with caller2 := n.mixer.caller2.released } } := by
  rw [callerReleases_eq, releaseEnds_running (ch := 1) h1]
  exact releaseEnds_over (ch := 2) h2

/-- Both channels have run out: both are INACTIVE when the first is reported. -/
theorem callerReleases_both {n : Node} (h1 : n.mixer.caller1.releaseOver = true)
    (h2 : n.mixer.caller2.releaseOver = true) :
    callerReleases n =
      releaseComplete 2
        (releaseComplete 1
          { n with
            mixer := { n.mixer with caller1 := n.mixer.caller1.released, caller2 := n.mixer.caller2.released } }) := by
  rw [callerReleases_eq, releaseEnds_over (ch := 1) h1, releaseEnds_over, ← releaseComplete_setMixer,
    releaseComplete_mixer]
  · rfl
  · rw [releaseComplete_mixer]
    exact h2

theorem releaseDue_of {n : Node} (h : n.mixer.caller1.releaseOver = true ∨ n.mixer.caller2.releaseOver = true) :
    n.releaseDue = true :=
  (Bool.or_eq_true _ _).mpr h

/-! ## The VOICE_OPEN keys (R53, R193, R194) -/

theorem keyDue_of {n : Node} {p : KeyFn → Bool} (h : n.pressedWith p ≠ []) : n.keyDue p = true := by
  unfold Node.keyDue
  rw [Bool.not_eq_true', Bool.eq_false_iff]
  exact fun empty => h (List.isEmpty_iff.mp empty)

theorem voiceReleaseDue_of {n : Node}
    (h : ∃ i < 8, n.lines.voiceHeld.getD i false = true ∧ n.voiceAccepted i = false) : n.voiceReleaseDue = true := by
  obtain ⟨i, lt, held, released⟩ := h
  refine List.any_eq_true.mpr ⟨i, List.mem_range.mpr lt, ?_⟩
  rw [held, released]
  rfl

/-! ## SCENE_SWAP (R49) -/

theorem swapLength_eq (raw : Nat) : swapLength raw = if raw = 0 then 1 else if 1000 < raw then 1000 else raw := by
  unfold swapLength
  split
  · rfl
  · split <;> omega

theorem ownSceneSwap_busy {a : List Byte} {n : Node} (h : n.mixer.swap ≠ none) : ownSceneSwap a n = .refuse .busy n :=
  if_pos (Option.isSome_iff_ne_none.mpr h)

theorem ownSceneSwap_accepted {a : List Byte} {n : Node} (h : n.mixer.swap = none) :
    ownSceneSwap a n =
      let len := swapLength (fieldAt a 0 2)
      let live := if n.mixer.live = 0 then 1 else 0
      .ok (.swapped live len)
        { n with
          mixer := { n.mixer with live := live, swap := some { len := len, remaining := len, started := false } } } := by
  unfold ownSceneSwap sceneSwapFor
  simp only [h, Option.isSome_none, Bool.false_eq_true, if_false]

/-- The mixer's part of a boundary at a STUDIO station (R46, R49, R51 to R53). -/
theorem stageRun_mixerTargets (mem : Memory) {n : Node} (studio : n.cfg.roles.studio = true) :
    stageRun .mixerTargets mem n = { n with mixer := n.mixer.boundary (n.lines.voiceHeld.any id) } :=
  if_pos studio

/-- Settles O24: the boundary with and without the start of a swap, the four rows where they are due, and
SCENE_SWAP. -/
theorem mixerBoundaryAndSceneSwap : Obligations.MixerBoundaryAndSceneSwap := by
  refine ⟨⟨?_, ?_⟩, ?_⟩
  · intro mem n studio x caller live given after
    have carried (c : Caller) : c.applyPending = caller c := by
      cases hp : c.pending with
      | none => simp only [Caller.applyPending, caller, hp]
      | some request =>
        cases request with
        | activate src => cases hs : c.state <;> simp only [Caller.applyPending, caller, hp, hs]
        | release => cases hs : c.state <;> simp only [Caller.applyPending, caller, hp, hs]
    have targets : Ramp.applyPending = given := rfl
    have decided (gains : List Ramp) (duck : Ramp) (swap : Option Swap) :
        (x.beforeDuck gains duck swap).decideDuck (n.lines.voiceHeld.any id) = after gains duck swap := by
      rw [Mixer.decideDuck_eq (Mixer.duckCondition_iff _ _)]
      unfold Mixer.beforeDuck
      simp only [carried, targets]
      rfl
    refine ⟨fun started => ?_, fun w swap waits _ => ?_⟩
    · rw [stageRun_mixerTargets mem studio, Mixer.boundary_noStart started, decided, targets]
    · rw [stageRun_mixerTargets mem studio, Mixer.boundary_start swap waits, decided, targets]
      rfl
  · intro s rest x done ended inactive told accepted
    have row {c : Instr} {st : Stage} (hc : eventStage c = some st) (at_ : AtStage st rest s)
        (due : stageDue st s.node = true) : exec c s = done (stageRun st s.mem s.node) := by
      rw [exec_event hc, boundaryRow_atStage at_ due]
    have releaseOver (c : Caller) : c.releaseOver = true ↔ ended c := c.releaseOver_iff
    refine ⟨fun w at_ swap started zero => ?_, fun at_ h1 h2 => ?_, fun at_ h1 h2 => ?_, fun at_ h1 h2 => ?_,
      fun at_ pressed => ?_, fun at_ released => ?_⟩
    · exact row rfl at_ (Mixer.swapOver_of swap started zero)
    · rw [← releaseOver] at h1 h2
      refine (row rfl at_ (releaseDue_of (.inl h1))).trans (congrArg done ?_)
      exact callerReleases_first h1 h2
    · rw [← releaseOver] at h1 h2
      refine (row rfl at_ (releaseDue_of (.inr h2))).trans (congrArg done ?_)
      exact callerReleases_second h1 h2
    · rw [← releaseOver] at h1 h2
      refine (row rfl at_ (releaseDue_of (.inl h1))).trans (congrArg done ?_)
      exact callerReleases_both h1 h2
    · exact row rfl at_ (keyDue_of pressed)
    · exact row rfl at_ (voiceReleaseDue_of released)
  · intro s src dst tag a asked studio args n x raw len live
    have mixer : n.mixer = x := heard_mixer s.node
    rw [exec_sceneSwap_asked asked studio args]
    refine ⟨fun swap => ?_, fun free => ?_⟩
    · rw [ownSceneSwap_busy (heard_mixer s.node ▸ swap)]
      rfl
    · rw [ownSceneSwap_accepted (heard_mixer s.node ▸ free), heard_mixer, swapLength_eq]
      rfl

end Sys2Proof.Machine
end

section
/-! PROOFS. Meter windows (section 3.9, R58 to R61, R172). -/

namespace Sys2Proof.Machine

/-! ## A point whose window has run its ten blocks (R58, R59, R61) -/

section
variable {p : MeterPoint} {cfg : Settings}

theorem MeterPoint.windowDone_iff :
    p.windowDone = true ↔ p.running = true ∧ p.waiting = false ∧ 10 ≤ p.pos := by
  simp only [MeterPoint.windowDone, Bool.and_eq_true, Bool.not_eq_true', decide_eq_true_eq, and_assoc]

theorem MeterPoint.windowSilent_iff : p.windowSilent cfg = true ↔ p.peak < cfg.silenceThreshold :=
  decide_eq_true_iff

theorem MeterPoint.windowOver_iff :
    p.windowOver cfg = true ↔
      cfg.overloadThreshold < 8388608 ∧ 0 < p.clips ∧ cfg.overloadThreshold ≤ p.peak := by
  simp only [MeterPoint.windowOver, Bool.and_eq_true, decide_eq_true_eq, and_assoc]

/-- The state and the runs after a window, by the point's state and then the window's (R59). -/
theorem MeterPoint.judge_eq :
    p.judge cfg =
      if p.silent then
        if p.peak < cfg.silenceThreshold then { p with soundRun := 0 }
        else if 200 ≤ p.soundRun + 1 then { p with soundRun := p.soundRun + 1, silent := false, silentRun := 0 }
        else { p with soundRun := p.soundRun + 1 }
      else if p.peak < cfg.silenceThreshold then
        if cfg.silenceTime ≤ p.silentRun + 1 then
          { p with silentRun := p.silentRun + 1, silent := true, soundRun := 0 }
        else { p with silentRun := p.silentRun + 1 }
      else { p with silentRun := 0 } := by
  unfold MeterPoint.judge MeterPoint.windowSilent
  by_cases quiet : p.peak < cfg.silenceThreshold
  · rw [decide_eq_true quiet, if_pos quiet, if_pos quiet]
    cases p.silent <;> rfl
  · rw [decide_eq_false quiet, if_neg quiet, if_neg quiet]
    cases p.silent <;> rfl

/-- A window that ends closes; a point whose window has not ended is left as it is. -/
theorem MeterPoint.finish_done (h : p.windowDone = true) :
    p.finish cfg =
      { point := p.close cfg, closed := true, sounding := !(p.close cfg).silent && !p.windowSilent cfg,
        report := if (p.close cfg).silent = p.silent then none else some (p.close cfg).silent } :=
  if_pos h

theorem MeterPoint.finish_notDone (h : ¬ p.windowDone = true) :
    p.finish cfg = { point := p, closed := false, sounding := false, report := none } :=
  if_neg h

/-- The point after METER_WINDOW_CLOSE (R58, R59, R61). -/
theorem MeterPoint.finish_point (p : MeterPoint) (cfg : Settings) {ended loud : Prop} [Decidable ended] [Decidable loud]
    (he : p.windowDone = true ↔ ended) (hl : p.windowOver cfg = true ↔ loud) :
    (p.finish cfg).point =
      if ended then
        { p.judge cfg with
          lastPeak := p.peak, lastClips := p.clips, clipTotal := min (p.clipTotal + p.clips) 65535,
          overload := decide loud, overTotal := if loud then min (p.overTotal + 1) 65535 else p.overTotal,
          pos := 0, peak := 0, clips := 0 }
      else p := by
  by_cases h : ended
  · have isLoud : p.windowOver cfg = decide loud := Bool.eq_iff_iff.mpr (hl.trans decide_eq_true_iff.symm)
    rw [if_pos h, MeterPoint.finish_done (he.mpr h), MeterPoint.close, isLoud]
    simp only [decide_eq_true_eq]
    rfl
  · rw [if_neg h, MeterPoint.finish_notDone (mt he.mp h)]

/-- A report is the point's new state, and is made where the state changes (R59). -/
theorem MeterPoint.finish_report (p : MeterPoint) (cfg : Settings) :
    (p.finish cfg).report =
      if (p.finish cfg).point.silent = p.silent then none else some (p.finish cfg).point.silent := by
  by_cases h : p.windowDone = true
  · rw [MeterPoint.finish_done h]
  · rw [MeterPoint.finish_notDone h]; exact (if_pos rfl).symm

theorem MeterPoint.finish_sounding :
    (p.finish cfg).sounding = true ↔
      p.windowDone = true ∧ ¬ p.peak < cfg.silenceThreshold ∧ (p.finish cfg).point.silent = false := by
  by_cases h : p.windowDone = true
  · rw [MeterPoint.finish_done h, ← MeterPoint.windowSilent_iff]
    simp only [Bool.and_eq_true, Bool.not_eq_true', h, true_and, Bool.not_eq_true]
    exact And.comm
  · rw [MeterPoint.finish_notDone h]
    exact ⟨fun sounding => Bool.noConfusion sounding, fun over_ => absurd over_.1 h⟩

end

/-- Some point's window is over. -/
theorem Meters.anyDone_iff (t : Meters) :
    t.anyDone = true ↔
      t.studio.windowDone = true ∨ (∃ p ∈ t.slots, p.windowDone = true) ∨ t.holderInput.windowDone = true ∨
        t.linkOutput.windowDone = true ∨ t.siteOutput.windowDone = true ∨ t.incoming.windowDone = true := by
  simp only [Meters.anyDone, Bool.or_eq_true, List.any_eq_true, or_assoc]

/-! ## The points in their order (log 16) -/

/-- The link unit after a report of the link output point: dead air set and counted, or cleared (R172). -/
def Link.deadAirReport (l : Link) (report : Option Bool) : Link :=
  if report = some true then
    { l with
      deadAir := true, counters := { l.counters with deadAirOnsets := min (l.counters.deadAirOnsets + 1) 65535 } }
  else if report = some false then { l with deadAir := false }
  else l

/-- The same by the point's state before and after its window. -/
theorem Link.deadAirReport_change (l : Link) (before after : Bool) :
    l.deadAirReport (if after = before then none else some after) =
      if before = after then l
      else if after then
        { l with
          deadAir := true, counters := { l.counters with deadAirOnsets := min (l.counters.deadAirOnsets + 1) 65535 } }
      else { l with deadAir := false } := by
  cases before <;> cases after <;> rfl

theorem closeLinkOutput_eq (n : Node) :
    closeLinkOutput n =
      { n with
        meters := { n.meters with linkOutput := (n.meters.linkOutput.finish n.cfg).point },
        link := n.link.deadAirReport (n.meters.linkOutput.finish n.cfg).report } := by
  unfold closeLinkOutput
  rcases hr : (n.meters.linkOutput.finish n.cfg).report with _ | (_ | _) <;> simp only [hr] <;> rfl

theorem closeSiteOutput_notDone {n : Node} (h : ¬ n.meters.siteOutput.windowDone = true) : closeSiteOutput n = n := by
  unfold closeSiteOutput
  rw [MeterPoint.finish_notDone h]
  rfl

theorem closeIncoming_notDone {n : Node} (h : ¬ n.meters.incoming.windowDone = true) : closeIncoming n = n := by
  unfold closeIncoming
  rw [MeterPoint.finish_notDone h]
  rfl

/-! ## Where no report of a closing point reaches the air unit (R60) -/

/-- No claim of the claims table is SILENT, and neither a peer's nor the station's own claim holds the air. -/
structure Node.ReportsToNobody (n : Node) : Prop where
  noneSilent : ∀ k, n.claimIn k .silent = none
  notPeer : n.air.holder.kind ≠ .peer
  notOwn : n.air.holder.kind ≠ .own

theorem Node.ReportsToNobody.withMeters {n : Node} (h : n.ReportsToNobody) (t : Meters) :
    Node.ReportsToNobody { n with meters := t } :=
  ⟨h.noneSilent, h.notPeer, h.notOwn⟩

theorem recover_noneSilent {k : Nat} {n : Node} (h : n.claimIn k .silent = none) : recover k n = n := by
  unfold recover; rw [h]

theorem markHolderSilent_noHolder {n : Node} (hp : n.air.holder.kind ≠ .peer) (ho : n.air.holder.kind ≠ .own) :
    markHolderSilent n = n :=
  if_neg (not_or.mpr ⟨hp, ho⟩)

theorem closeStudio_alone {n : Node} (h : n.ReportsToNobody) :
    closeStudio n = { n with meters := { n.meters with studio := (n.meters.studio.finish n.cfg).point } } := by
  unfold closeStudio
  dsimp only
  split
  · exact recover_noneSilent (h.noneSilent _)
  · rfl

theorem closeSlot_alone {n : Node} (h : n.ReportsToNobody) (i : Nat) :
    closeSlot i n =
      { n with
        meters :=
          { n.meters with
            slots := n.meters.slots.set i ((n.meters.slots.getD i .reset).finish n.cfg).point } } := by
  unfold closeSlot
  dsimp only
  split
  · exact recover_noneSilent (h.noneSilent _)
  · rfl

/-- The points of a list after its first k have been closed in their order. -/
def closeFirst (cfg : Settings) (k : Nat) (l : List MeterPoint) : List MeterPoint :=
  (List.range k).foldl (fun l i => l.set i ((l.getD i .reset).finish cfg).point) l

/-- A point read after one is set by a rule that leaves a reset point as it is. -/
theorem getD_set_of_reset {f : MeterPoint → MeterPoint} (hf : f .reset = .reset) (l : List MeterPoint) (k i : Nat) :
    (l.set k (f (l.getD k .reset))).getD i .reset = if i = k then f (l.getD i .reset) else l.getD i .reset := by
  simp only [List.getD_eq_getElem?_getD, List.getElem?_set]
  by_cases h : k = i
  · subst h
    rw [if_pos rfl, if_pos rfl]
    split
    · rfl
    next out => rw [List.getElem?_eq_none (Nat.le_of_not_lt out)]; exact hf.symm
  · rw [if_neg h, if_neg (Ne.symm h)]

theorem closeFirst_succ (cfg : Settings) (k : Nat) (l : List MeterPoint) :
    closeFirst cfg (k + 1) l =
      (closeFirst cfg k l).set k (((closeFirst cfg k l).getD k .reset).finish cfg).point := by
  unfold closeFirst
  rw [List.range_succ, List.foldl_append]
  rfl

theorem closeFirst_length (cfg : Settings) (k : Nat) (l : List MeterPoint) :
    (closeFirst cfg k l).length = l.length := by
  induction k with
  | zero => rfl
  | succ k ih => rw [closeFirst_succ, List.length_set, ih]

/-- A point of the list is closed once, when its turn comes. -/
theorem closeFirst_getD (cfg : Settings) (k : Nat) (l : List MeterPoint) (i : Nat) :
    (closeFirst cfg k l).getD i .reset =
      if i < k then ((l.getD i .reset).finish cfg).point else l.getD i .reset := by
  induction k with
  | zero => rfl
  | succ k ih =>
    have reset : (MeterPoint.reset.finish cfg).point = .reset := rfl
    rw [closeFirst_succ, getD_set_of_reset (f := fun p => (p.finish cfg).point) reset, ih]
    by_cases here : i = k
    · subst here
      rw [if_pos rfl, if_neg (Nat.lt_irrefl i), if_pos (Nat.lt_succ_self i)]
    · rw [if_neg here]
      by_cases before : i < k
      · rw [if_pos before, if_pos (Nat.lt_succ_of_lt before)]
      · rw [if_neg before, if_neg (by omega)]

theorem closeSlots_alone {n : Node} (h : n.ReportsToNobody) (k : Nat) :
    (List.range k).foldl (fun m i => closeSlot i m) n =
      { n with meters := { n.meters with slots := closeFirst n.cfg k n.meters.slots } } := by
  induction k with
  | zero => rfl
  | succ k ih =>
    rw [List.range_succ, List.foldl_append, ih, closeFirst_succ]
    exact closeSlot_alone (h.withMeters _) k

/-- A hand-over that waits is taken, and then the holder input point closes. -/
theorem closeHolder_alone {n : Node} (h : n.ReportsToNobody) :
    closeHolder n =
      { n with
        link := (sourceChange n).link,
        meters :=
          { n.meters with holderInput := ((sourceChange n).meters.holderInput.finish n.cfg).point } } := by
  have tells (m : Node) (hm : m.air = n.air) (r : Option Bool) :
      (if r = some true then markHolderSilent m else m) = m := by
    split
    · exact markHolderSilent_noHolder (hm ▸ h.notPeer) (hm ▸ h.notOwn)
    · rfl
  unfold closeHolder
  dsimp only
  rw [tells _ (by rw [sourceChange_frame]), sourceChange_frame]

/-- The closing of the studio point and of the slots' points. -/
theorem closeStudioAndSlots_alone {n : Node} (h : n.ReportsToNobody) :
    (List.range 8).foldl (fun m i => closeSlot i m) (closeStudio n) =
      { n with
        meters :=
          { n.meters with
            studio := (n.meters.studio.finish n.cfg).point, slots := closeFirst n.cfg 8 n.meters.slots } } := by
  rw [closeStudio_alone h]
  exact closeSlots_alone (h.withMeters _) 8

/-- The closing of the two points of the link selector, the points before them having closed. -/
theorem closeHolderAndOutput_alone {n : Node} (h : n.ReportsToNobody) {t : Meters}
    (ht : t.holderInput = n.meters.holderInput) :
    closeLinkOutput (closeHolder { n with meters := t }) =
      { n with
        meters :=
          { t with
            holderInput := ((sourceChange n).meters.holderInput.finish n.cfg).point,
            linkOutput := (t.linkOutput.finish n.cfg).point },
        link := (sourceChange n).link.deadAirReport (t.linkOutput.finish n.cfg).report } := by
  rw [closeHolder_alone (h.withMeters t), sourceChange_meters n t ht, closeLinkOutput_eq]

/-- METER_WINDOW_CLOSE at a station whose points report to nobody: every point closed, in its order. -/
theorem meterWindows_alone {n : Node} (h : n.ReportsToNobody) (site : ¬ n.meters.siteOutput.windowDone = true)
    (incoming : ¬ n.meters.incoming.windowDone = true) :
    meterWindows n =
      { n with
        meters :=
          { n.meters with
            studio := (n.meters.studio.finish n.cfg).point, slots := closeFirst n.cfg 8 n.meters.slots,
            holderInput := ((sourceChange n).meters.holderInput.finish n.cfg).point,
            linkOutput := (n.meters.linkOutput.finish n.cfg).point },
        link := (sourceChange n).link.deadAirReport (n.meters.linkOutput.finish n.cfg).report } := by
  have order : meterWindows n =
      closeIncoming (closeSiteOutput (closeLinkOutput (closeHolder
        ((List.range 8).foldl (fun m i => closeSlot i m) (closeStudio n))))) := rfl
  rw [order, closeStudioAndSlots_alone h, closeHolderAndOutput_alone h, closeSiteOutput_notDone,
    closeIncoming_notDone]
  · exact incoming
  · exact site
  · rfl

/-- Settles O25: every point in its order, the closing of one point, the report of the link output point, and the whole
of the next state where no report reaches the air unit. -/
theorem meterWindowsClose : Obligations.MeterWindowsClose := by
  unfold Obligations.MeterWindowsClose
  intro ended closed
  have done (p : MeterPoint) : p.windowDone = true ↔ ended p := p.windowDone_iff
  have finished (cfg : Settings) (p : MeterPoint) : (p.finish cfg).point = closed cfg p := by
    rw [p.finish_point cfg (done p) MeterPoint.windowOver_iff, MeterPoint.judge_eq]
  have row (s : State) (rest : List Stage) (at_ : AtStage .meterWindowClose rest s)
      (due : s.node.meters.anyDone = true) :
      exec .meterWindowClose s = .next (settle { s with agenda := rest, node := meterWindows s.node }) := by
    rw [exec_event (st := .meterWindowClose) rfl, boundaryRow_atStage at_ due]
    rfl
  refine ⟨?_, ?_, ?_, ?_⟩
  · intro s rest at_ t due
    simp only [← done] at due
    exact row s rest at_ (t.anyDone_iff.mpr due)
  · intro cfg p f
    refine ⟨finished cfg p, fun he was now => ?_, fun he was now => ?_, fun same => ?_, ?_⟩
    · rw [p.finish_report cfg, now, was]
      rfl
    · rw [p.finish_report cfg, now, was]
      rfl
    · rw [p.finish_report cfg]
      refine if_pos ?_
      rcases same with he | same
      · rw [MeterPoint.finish_notDone (mt (done p).mp he)]
      · exact same
    · rw [MeterPoint.finish_sounding, done]
  · intro n f m
    rw [closeLinkOutput_eq]
    unfold Link.deadAirReport
    split
    · rfl
    · split <;> rfl
  · intro s rest at_ close t o x due site incoming noneSilent notPeer notOwn
    simp only [← done] at due site incoming
    refine ⟨closeFirst s.node.cfg 8 t.slots, fun i lt => ?_, closeFirst_length _ _ _, ?_⟩
    · rw [closeFirst_getD, if_pos lt, finished]
    · have any : t.anyDone = true :=
        t.anyDone_iff.mpr (by rcases due with h | h | h | h <;> simp only [h, true_or, or_true])
      rw [row s rest at_ any, meterWindows_alone ⟨noneSilent, notPeer, notOwn⟩ site incoming,
        MeterPoint.finish_report, Link.deadAirReport_change]
      simp only [finished]
      rfl

end Sys2Proof.Machine
end

section
/-! PROOFS. What the requests and the boundary of the cue engine share (chapter 5): a request at its owner, a player's
item and what is due of it, and the ARMED player that a segue starts. -/

namespace Sys2Proof.Machine

/-! ## Requests at their owner -/

/-- A request other than RESTART that passes R10 is answered with its owner's reply (R11). -/
theorem exec_owner {c : Instr} {src dst : Nat} {code tag : Byte} {a : List Byte} {s : State} {r : Reply}
    (hc : requestParts c = some ⟨src, dst, code, tag, a⟩) (known : 1 ≤ code.toNat ∧ code.toNat < 19)
    (asked : Asked src dst a.length s) (role : roleServes s.node.cfg.roles code.toNat = true)
    (args : minArgs code.toNat ≤ a.length) (reply : ownerReply code.toNat src tag a s.node.heard = r) :
    exec c s = .next (answered src code.toNat tag r s) := by
  obtain ⟨first, last⟩ := known
  rw [exec_request hc, onRequest_owner asked (Nat.ne_of_lt last) first (Nat.le_of_lt last) role args, reply]

/-! ## A player replaced -/

@[simp] theorem Cue.setPlayer_counters (c : Cue) (b : Bool) (p : Player) :
    (c.setPlayer b p).counters = c.counters := by
  cases b <;> rfl

/-! ## No player to arm (R89) -/

theorem armTarget_none {c : Cue}
    (h : (c.a.state = .armed ∨ c.b.state = .armed) ∨ (c.a.state ≠ .idle ∧ c.b.state ≠ .idle)) :
    c.armTarget = none := by
  unfold Cue.armTarget
  rcases h with armed | ⟨notA, notB⟩
  · exact if_pos armed
  · simp only [notA, notB, false_and, if_false, ite_self]

/-! ## A player's item (sections 5.1 and 5.2) -/

theorem CueEntry.isClip_iff (e : CueEntry) : e.isClip = true ↔ ∃ c, e.source = .clip c := by
  unfold CueEntry.isClip
  cases e.source with
  | clip c => exact iff_of_true rfl ⟨c, rfl⟩
  | stream k i => exact iff_of_false Bool.false_ne_true (fun ⟨_, h⟩ => CueSource.noConfusion h)

theorem Player.playsClip_iff (p : Player) :
    p.playsClip = true ↔ ∃ e c, p.item = some e ∧ e.source = .clip c := by
  unfold Player.playsClip
  cases p.item with
  | none => simp
  | some e => simp [CueEntry.isClip_iff]

theorem Player.auto_iff (p : Player) : p.auto = true ↔ ∃ e, p.item = some e ∧ e.auto = true := by
  unfold Player.auto
  cases p.item <;> simp

theorem Player.sounding_iff (p : Player) :
    p.sounding = true ↔ p.state = .playing ∨ p.state = .stopping ∨ (p.state = .paused ∧ p.held = false) := by
  unfold Player.sounding
  cases p.state <;> simp

/-! ## What is due of a clip item (R93, R94, R96) -/

theorem Player.naturalEnd_iff (p : Player) :
    p.naturalEnd = true ↔ p.playsClip = true ∧ p.sounding = true ∧ p.blocks ≤ p.count := by
  simp only [Player.naturalEnd, Bool.and_eq_true, decide_eq_true_eq, and_assoc]

theorem Player.segueDue_iff (p : Player) :
    p.segueDue = true ↔
      p.state = .playing ∧ p.playsClip = true ∧ p.auto = true ∧ p.segueTaken = false ∧ p.segueBlock ≤ p.count := by
  simp only [Player.segueDue, Bool.and_eq_true, Bool.not_eq_true', decide_eq_true_eq, and_assoc]

theorem Player.fadeOut_within_iff (p : Player) (k : Nat) :
    (0 < p.fadeOut ∧ k ≤ p.fadeOut) ↔ ∃ e, p.item = some e ∧ 0 < e.fadeOut ∧ k ≤ e.fadeOut := by
  unfold Player.fadeOut
  cases p.item <;> simp

theorem Player.fadeOutDue_iff (p : Player) :
    p.fadeOutDue = true ↔
      p.state = .playing ∧ p.playsClip = true ∧
        (∃ e, p.item = some e ∧ 0 < e.fadeOut ∧ p.blocks - p.count ≤ e.fadeOut) ∧
        p.fadeOutBegun = false ∧ p.resumeRamp = false := by
  rw [← Player.fadeOut_within_iff]
  simp only [Player.fadeOutDue, Bool.and_eq_true, Bool.not_eq_true', decide_eq_true_eq]
  constructor
  · rintro ⟨⟨⟨⟨⟨playing, clip⟩, long⟩, notBegun⟩, noRamp⟩, near⟩
    exact ⟨playing, clip, ⟨long, near⟩, notBegun, noRamp⟩
  · rintro ⟨playing, clip, ⟨long, near⟩, notBegun, noRamp⟩
    exact ⟨⟨⟨⟨⟨playing, clip⟩, long⟩, notBegun⟩, noRamp⟩, near⟩

/-! ## Segues (R94, R95, R97) -/

/-- The ARMED player starts, player A where both are, and a segue is taken; with none ARMED one is missed. -/
theorem takeSegue_eq (n : Node) :
    takeSegue n =
      if n.cue.a.state = .armed then
        mapCueCounters (fun c => { c with seguesTaken := satInc c.seguesTaken }) (startPlayer false false n)
      else if n.cue.b.state = .armed then
        mapCueCounters (fun c => { c with seguesTaken := satInc c.seguesTaken }) (startPlayer true false n)
      else mapCueCounters (fun c => { c with seguesMissed := satInc c.seguesMissed }) n := by
  unfold takeSegue Cue.armedPlayer
  split
  next b armed =>
    split at armed
    next a => rw [if_pos a, ← Option.some.inj armed]
    next notA =>
      split at armed
      next isB => rw [if_neg notA, if_pos isB, ← Option.some.inj armed]
      next => cases armed
  next none_ =>
    split at none_
    next => cases none_
    next notA =>
      split at none_
      next => cases none_
      next notB => rw [if_neg notA, if_neg notB]

end Sys2Proof.Machine
end

section
/-! PROOFS. CUE_ADD, CUE_REMOVE and CUE_CLEAR (section 5.1, R83 to R86). -/

namespace Sys2Proof.Machine

/-! ## The checks of CUE_ADD (R84) -/

theorem not_cueFieldsGood_iff (own : Nat) (a : List Byte) :
    ¬ cueFieldsGood own a = true ↔
      byteAt a 0 = 0 ∨ 1 < byteAt a 1 ∨ 1 < byteAt a 14 ∨ 2 ≤ byteAt a 15 ∨ 16 < byteAt a 16 ∨
        a.length ≠ 17 + byteAt a 16 ∨
        (byteAt a 1 = 1 ∧
          (byteAt a 2 = 0 ∨ 30 < byteAt a 2 ∨ byteAt a 2 = own ∨ 7 < byteAt a 3 ∨ fieldAt a 4 3 ≠ 0)) := by
  simp only [cueFieldsGood, Bool.and_eq_true, Bool.or_eq_true, decide_eq_true_eq]
  omega

theorem playerHolds_iff (n : Node) (id : Nat) :
    n.playerHolds id = true ↔
      (n.cue.a.state ≠ .idle ∧ n.cue.a.cueId = id) ∨ (n.cue.b.state ≠ .idle ∧ n.cue.b.cueId = id) := by
  simp only [Node.playerHolds, Bool.or_eq_true, Bool.and_eq_true, decide_eq_true_eq]

/-- The cue id is in the list or with a player (R83). -/
def Node.cueTaken (n : Node) (id : Nat) : Bool := n.cue.list.any (fun x => decide (x.id = id)) || n.playerHolds id

theorem cueTaken_iff (n : Node) (id : Nat) :
    n.cueTaken id = true ↔ (∃ x ∈ n.cue.list, x.id = id) ∨ n.playerHolds id = true := by
  simp only [Node.cueTaken, Bool.or_eq_true, List.any_eq_true, decide_eq_true_eq]

/-- The part with an entry appended to its cue list. -/
def Node.cueAppended (n : Node) (e : CueEntry) : Node := { n with cue := { n.cue with list := n.cue.list ++ [e] } }

theorem Store.acquire_ready {d : Store} {c : Nat} (h : (d.clip c).state = .ready) :
    d.acquire c = some (d.setClip c { d.clip c with useCount := (d.clip c).useCount + 1 }) := if_pos h

theorem Store.acquire_notReady {d : Store} {c : Nat} (h : (d.clip c).state ≠ .ready) : d.acquire c = none := if_neg h

section
variable {a : List Byte} {n : Node}

theorem ownCueAdd_badFields (bad : ¬ cueFieldsGood n.cfg.number a = true) :
    ownCueAdd a n = .refuse .badField n := by
  rw [Bool.not_eq_true] at bad
  simp only [ownCueAdd, bad, Bool.not_false, if_true]

theorem ownCueAdd_full (good : cueFieldsGood n.cfg.number a = true) (full : 32 ≤ n.cue.list.length) :
    ownCueAdd a n = .refuse .full n := by
  simp only [ownCueAdd, good, full, Bool.not_true, Bool.false_eq_true, if_false, if_true]

section
variable (good : cueFieldsGood n.cfg.number a = true) (room : n.cue.list.length < 32)
include good room

theorem ownCueAdd_taken (taken : n.cueTaken (cueOfArgs a).id = true) : ownCueAdd a n = .refuse .badField n := by
  rw [Node.cueTaken] at taken
  simp only [ownCueAdd, good, Nat.not_le.mpr room, taken, Bool.not_true, Bool.false_eq_true, if_false, if_true]

variable (free : ¬ n.cueTaken (cueOfArgs a).id = true)
include free

theorem ownCueAdd_stream {k i : Nat} (source : (cueOfArgs a).source = .stream k i) :
    ownCueAdd a n =
      .ok (.cueAdded (cueOfArgs a).id (n.cue.list ++ [cueOfArgs a]).length) (n.cueAppended (cueOfArgs a)) := by
  rw [Node.cueTaken] at free
  simp only [ownCueAdd, good, Nat.not_le.mpr room, free, source, Bool.not_true, Bool.false_eq_true, if_false,
    Node.cueAppended]

theorem ownCueAdd_notReady {c : Nat} (source : (cueOfArgs a).source = .clip c)
    (notReady : (n.store.clip c).state ≠ .ready) : ownCueAdd a n = .refuse .notReady n := by
  rw [Node.cueTaken] at free
  simp only [ownCueAdd, good, Nat.not_le.mpr room, free, source, Store.acquire_notReady notReady, Bool.not_true,
    Bool.false_eq_true, if_false]

theorem ownCueAdd_beyondEnd {c : Nat} (source : (cueOfArgs a).source = .clip c)
    (ready : (n.store.clip c).state = .ready) (beyond : (n.store.clip c).length ≤ (cueOfArgs a).startOffset) :
    ownCueAdd a n = .refuse .badField n := by
  rw [Node.cueTaken] at free
  simp only [ownCueAdd, good, Nat.not_le.mpr room, free, source, Store.acquire_ready ready, beyond, Bool.not_true,
    Bool.false_eq_true, if_false, if_true]

/-- A clip item appended holds a reference of its clip. -/
theorem ownCueAdd_clip {c : Nat} (source : (cueOfArgs a).source = .clip c)
    (ready : (n.store.clip c).state = .ready) (within : (cueOfArgs a).startOffset < (n.store.clip c).length) :
    ownCueAdd a n =
      .ok (.cueAdded (cueOfArgs a).id (n.cue.list ++ [cueOfArgs a]).length)
        { n.cueAppended (cueOfArgs a) with
          store := n.store.setClip c { n.store.clip c with useCount := (n.store.clip c).useCount + 1 } } := by
  rw [Node.cueTaken] at free
  simp only [ownCueAdd, good, Nat.not_le.mpr room, free, source, Store.acquire_ready ready, Nat.not_le.mpr within,
    Bool.not_true, Bool.false_eq_true, if_false, Node.cueAppended]

end

/-! ## The references of entries that leave the list (R85, R86) -/

/-- A clip store after an entry's reference is released. -/
def CueEntry.freedIn (e : CueEntry) (d : Store) : Store :=
  match e.source with
  | .clip c => d.release c
  | .stream .. => d

theorem releaseEntry_eq (e : CueEntry) (n : Node) : releaseEntry e n = { n with store := e.freedIn n.store } := by
  unfold releaseEntry CueEntry.freedIn
  cases e.source <;> rfl

theorem releaseEntries_eq (l : List CueEntry) (n : Node) :
    l.foldl (fun x e => releaseEntry e x) n = { n with store := l.foldl (fun d e => e.freedIn d) n.store } := by
  induction l generalizing n with
  | nil => rfl
  | cons e l ih => rw [List.foldl_cons, ih, releaseEntry_eq]; rfl

theorem ownCueRemove_found {e : CueEntry} (found : n.cue.list.find? (fun x => decide (x.id = byteAt a 0)) = some e) :
    ownCueRemove a n =
      .ok .none
        { n with
          cue := { n.cue with list := n.cue.list.filter (fun x => decide (x.id ≠ byteAt a 0)) },
          store := e.freedIn n.store } := by
  simp only [ownCueRemove, found, releaseEntry_eq]

theorem ownCueRemove_absent (absent : ∀ x ∈ n.cue.list, x.id ≠ byteAt a 0) :
    ownCueRemove a n = if n.playerHolds (byteAt a 0) then .refuse .inUse n else .refuse .notFound n := by
  have none_ : n.cue.list.find? (fun x => decide (x.id = byteAt a 0)) = none := by
    simpa only [List.find?_eq_none, decide_eq_true_eq] using absent
  simp only [ownCueRemove, none_]

theorem ownCueClear_eq :
    ownCueClear n =
      .ok (.cueCleared n.cue.list.length)
        { n with
          cue := { n.cue with list := [] }, store := n.cue.list.foldl (fun d e => e.freedIn d) n.store } := by
  simp only [ownCueClear, releaseEntries_eq]

end

/-- Settles O30: the six checks of CUE_ADD and its two kinds of entry, the three outcomes of CUE_REMOVE, and
CUE_CLEAR. -/
theorem cueListRequestsDecided : Obligations.CueListRequestsDecided := by
  intro s src dst tag a asked studio
  rw [← heard_cue s.node, ← heard_store s.node, ← heard_cfg s.node]
  intro n q held freed gives
  have isFreed : freed = CueEntry.freedIn := by
    funext e d
    unfold freed CueEntry.freedIn
    cases e.source <;> rfl
  have holds (id : Nat) : n.playerHolds id = true ↔ held id := playerHolds_iff n id
  refine ⟨fun args => ?_, fun args => ?_, ?_⟩
  · intro add e bad taken clip list
    have given {r : Result} {d : ResultData} {m : Node}
        (h : ownCueAdd a n = { result := r, data := d, node := m }) : add r d m :=
      exec_owner (c := .cueAdd src dst tag a) rfl (by decide) asked studio args h
    have isBad : ¬ cueFieldsGood n.cfg.number a = true ↔ bad := not_cueFieldsGood_iff n.cfg.number a
    have good (h : ¬ bad) : cueFieldsGood n.cfg.number a = true := Decidable.not_not.mp (mt isBad.mp h)
    have isTaken : n.cueTaken e.id = true ↔ taken := (cueTaken_iff n e.id).trans (or_congr_right (holds e.id))
    have free (h : ¬ taken) : ¬ n.cueTaken e.id = true := mt isTaken.mp h
    refine ⟨fun h => ?_, fun h full => ?_, fun h room t => ?_, fun h room f isStream => ?_,
      fun h room f isClip => ⟨fun notReady => ?_, fun ready beyond => ?_, fun ready within => ?_⟩⟩
    · exact given (ownCueAdd_badFields (isBad.mpr h))
    · exact given (ownCueAdd_full (good h) full)
    · exact given (ownCueAdd_taken (good h) room (isTaken.mpr t))
    · have source : e.source = .stream (byteAt a 2) (byteAt a 3) := if_neg (by omega)
      exact given (ownCueAdd_stream (good h) room (free f) source)
    · exact given (ownCueAdd_notReady (good h) room (free f) (if_pos isClip) notReady)
    · exact given (ownCueAdd_beyondEnd (good h) room (free f) (if_pos isClip) ready beyond)
    · exact given (ownCueAdd_clip (good h) room (free f) (if_pos isClip) ready within)
  · intro remove id
    have given {r : Result} {m : Node} (h : ownCueRemove a n = { result := r, data := .none, node := m }) :
        remove r m :=
      exec_owner (c := .cueRemove src dst tag a) rfl (by decide) asked studio args h
    refine ⟨fun e found => ?_, fun absent inUse => ?_, fun absent notHeld => ?_⟩
    · rw [isFreed]
      exact given (ownCueRemove_found found)
    · exact given ((ownCueRemove_absent absent).trans (if_pos ((holds id).mpr inUse)))
    · exact given ((ownCueRemove_absent absent).trans (if_neg (mt (holds id).mp notHeld)))
  · rw [isFreed]
    exact exec_owner (c := .cueClear src dst tag a) rfl (by decide) asked studio (Nat.zero_le _) ownCueClear_eq

end Sys2Proof.Machine
end

section
/-! PROOFS. PLAY and STOP (sections 5.3 and 5.5, R90, R98). -/

namespace Sys2Proof.Machine

/-! ## PLAY (R90) -/

/-- The players in a state, A before B, with their cue ids. -/
def Cue.namedIn (c : Cue) (st : PlayerState) : List (Bool × Nat) :=
  (if c.a.state = st then [(false, c.a.cueId)] else []) ++ (if c.b.state = st then [(true, c.b.cueId)] else [])

/-- A player in a state waits for the next boundary. -/
def Player.waitsIn (p : Player) (st : PlayerState) : Player := if p.state = st then p.mark else p

/-- The part whose players in a state wait for the next boundary. -/
def Node.waitsIn (n : Node) (st : PlayerState) : Node :=
  { n with cue := { n.cue with a := n.cue.a.waitsIn st, b := n.cue.b.waitsIn st } }

/-- One of the players is in a state. -/
def Cue.someIn (c : Cue) (st : PlayerState) : Prop := c.a.state = st ∨ c.b.state = st

theorem Player.busy_iff (p : Player) : p.busy = true ↔ p.state = .playing ∨ p.state = .stopping := by
  simp only [Player.busy, Bool.or_eq_true, decide_eq_true_eq]

/-- A busy player is in no other state. -/
theorem Player.busy_state {p : Player} {st : PlayerState} (busy : p.busy = true) (h1 : st ≠ .playing)
    (h2 : st ≠ .stopping) : p.state ≠ st := by
  rintro rfl
  exact (p.busy_iff.mp busy).elim h1 h2

theorem Cue.not_someIn_of_busy {c : Cue} {st : PlayerState} (busyA : c.a.busy = true) (busyB : c.b.busy = true)
    (h1 : st ≠ .playing) (h2 : st ≠ .stopping) : ¬ c.someIn st :=
  not_or.mpr ⟨Player.busy_state busyA h1 h2, Player.busy_state busyB h1 h2⟩

theorem armTarget_of_someIdle {c : Cue} (notArmed : ¬ c.someIn .armed) (idle : c.someIn .idle) :
    c.armTarget =
      some (if c.a.state = .idle ∧ c.b.state = .idle then c.preferB else decide (c.b.state = .idle)) := by
  obtain ⟨notA, notB⟩ := not_or.mp notArmed
  rw [armTarget_eq_some]
  refine ⟨notA, notB, ?_⟩
  by_cases ha : c.a.state = .idle
  · by_cases hb : c.b.state = .idle
    · rw [if_pos ⟨ha, hb⟩]
      refine ⟨?_, fun _ _ => rfl⟩
      cases c.preferB
      · exact ha
      · exact hb
    · rw [if_neg (fun h => hb h.2), decide_eq_false hb]
      exact ⟨ha, fun _ h => absurd h hb⟩
  · have hb : c.b.state = .idle := idle.resolve_left ha
    rw [if_neg (fun h => ha h.1), decide_eq_true hb]
    exact ⟨hb, fun h _ => absurd h ha⟩

section
variable {n : Node}

theorem decidePlay_paused (paused : n.cue.someIn .paused) :
    decidePlay n = .ok (.players (n.cue.namedIn .paused)) (n.waitsIn .paused) := if_pos paused

theorem decidePlay_armed (notPaused : ¬ n.cue.someIn .paused) (armed : n.cue.someIn .armed) :
    decidePlay n = .ok (.players (n.cue.namedIn .armed)) (n.waitsIn .armed) :=
  (if_neg notPaused).trans (if_pos armed)

section
variable (notPaused : ¬ n.cue.someIn .paused) (notArmed : ¬ n.cue.someIn .armed)
include notPaused notArmed

/-- The start waits for the player that the next boundary arms (R90, order 3). -/
theorem decidePlay_list {b : Bool} {e : CueEntry} {rest : List CueEntry} (target : n.cue.armTarget = some b)
    (list : n.cue.list = e :: rest) :
    decidePlay n = .ok (.players [(b, e.id)]) { n with cue := { n.cue with armStart := true } } := by
  rw [Cue.someIn] at notPaused notArmed
  simp only [decidePlay, notPaused, notArmed, if_false, target, list]

theorem decidePlay_nothing (nothing : n.cue.armTarget = none ∨ n.cue.list = []) :
    decidePlay n = if n.cue.a.busy && n.cue.b.busy then .refuse .busy n else .refuse .notFound n := by
  refine (if_neg notPaused).trans ((if_neg notArmed).trans ?_)
  rcases nothing with none_ | empty
  · rw [none_]
  · rw [empty]
    cases n.cue.armTarget <;> rfl

end

end

/-! ## STOP at one player (R98) -/

/-- The player's item ends at once. -/
def Player.stopEnds (p : Player) : Prop := p.state = .armed ∨ (p.state = .paused ∧ p.held = true)

/-- The player's fader is brought to 0 first. -/
def Player.stopFades (p : Player) : Prop := p.state = .playing ∨ (p.state = .paused ∧ p.held = false)

/-- The blocks of a stop's ramp: the fade-out length, at least 1. -/
def Player.stopBlocks (p : Player) : Nat :=
  match p.item with
  | some e => max 1 e.fadeOut
  | none => 1

section
variable {b : Bool} {n : Node}

theorem stopPlayer_ends (h : (n.player b).stopEnds) :
    stopPlayer b n = (countStopped (endItem b .stopped n), true) := by
  unfold stopPlayer
  rcases h with armed | ⟨paused, held⟩
  · simp only [armed]
  · simp only [paused, held, if_true]

theorem stopPlayer_fades (h : (n.player b).stopFades) :
    stopPlayer b n =
      (setFader b ((n.fader b).give 0 (n.player b).stopBlocks)
        (setPlayer b { n.player b with state := .stopping, pending := false, wake := false, resumeRamp := false } n),
        true) := by
  unfold stopPlayer
  rcases h with playing | ⟨paused, notHeld⟩
  · simp only [playing]
    rfl
  · simp only [paused, notHeld, Bool.false_eq_true, if_false]
    rfl

theorem stopPlayer_nothing (notEnds : ¬ (n.player b).stopEnds) (notFades : ¬ (n.player b).stopFades) :
    stopPlayer b n = (n, false) := by
  cases state : (n.player b).state with
  | idle | stopping => simp only [stopPlayer, state]
  | armed => exact absurd (.inl state) notEnds
  | playing => exact absurd (.inl state) notFades
  | paused =>
    cases held : (n.player b).held with
    | true => exact absurd (.inr ⟨state, held⟩) notEnds
    | false => exact absurd (.inr ⟨state, held⟩) notFades

end

theorem removeListen?_cue (i : Option Nat) (n : Node) : (removeListen? i n).cue = n.cue := by
  cases i with
  | none => rfl
  | some j =>
    show (removeListen j n).cue = n.cue
    rw [removeListen_frame]

/-- The end of an item's reference or listen entry leaves the cue engine as it is. -/
theorem releaseItem_cue (p : Player) (n : Node) : (releaseItem p n).cue = n.cue := by
  unfold releaseItem
  split
  · split
    · rfl
    · exact removeListen?_cue p.entry n
  · rfl

/-! ## STOP at both players, and its answer (R98) -/

/-- A STOP changes the player's state. -/
def Player.stopActs (p : Player) : Prop := p.stopEnds ∨ p.stopFades

theorem stopPlayer_idle {b : Bool} {n : Node} (h : ¬ (n.player b).stopActs) : stopPlayer b n = (n, false) :=
  stopPlayer_nothing (fun ends => h (.inl ends)) (fun fades => h (.inr fades))

theorem stopPlayer_changes (b : Bool) (n : Node) : (stopPlayer b n).2 = true ↔ (n.player b).stopActs := by
  by_cases ends : (n.player b).stopEnds
  · rw [stopPlayer_ends ends]
    exact iff_of_true rfl (.inl ends)
  · by_cases fades : (n.player b).stopFades
    · rw [stopPlayer_fades fades]
      exact iff_of_true rfl (.inr fades)
    · rw [stopPlayer_nothing ends fades]
      exact iff_of_false Bool.false_ne_true (not_or.mpr ⟨ends, fades⟩)

/-- A STOP of player A leaves player B as it is. -/
theorem stopPlayer_first (n : Node) : (stopPlayer false n).1.player true = n.player true := by
  by_cases ends : (n.player false).stopEnds
  · rw [stopPlayer_ends ends]
    show (releaseItem (n.player false) n).cue.b = n.cue.b
    rw [releaseItem_cue]
  · by_cases fades : (n.player false).stopFades
    · rw [stopPlayer_fades fades]
      rfl
    · rw [stopPlayer_nothing ends fades]

theorem stopBoth_changes (n : Node) :
    (stopBoth n).2 = true ↔ n.cue.a.stopActs ∨ n.cue.b.stopActs ∨ n.cue.countdown ≠ none := by
  unfold stopBoth
  simp only [Bool.or_eq_true, stopPlayer_changes, stopPlayer_first, Option.isSome_iff_ne_none, or_assoc]
  rfl

theorem stopBoth_nothing {n : Node} (idleA : ¬ n.cue.a.stopActs) (idleB : ¬ n.cue.b.stopActs)
    (stands : n.cue.countdown = none) : (stopBoth n).1 = n := by
  have same : { n.cue with countdown := none } = n.cue := by rw [← stands]
  unfold stopBoth
  simp only [stopPlayer_idle (b := false) idleA, stopPlayer_idle (b := true) idleB, same]

section
variable {a : List Byte} {n : Node}

theorem ownStop_player (b : Bool) (h : byteAt a 0 = if b then 1 else 0) :
    ownStop a n = stopReply (stopPlayer b n) := by
  cases b <;> simp only [ownStop, h, Bool.false_eq_true, if_false, if_true]

theorem ownStop_both (h : byteAt a 0 = 2) : ownStop a n = stopReply (stopBoth n) := by
  simp only [ownStop, h]

theorem ownStop_badField (h : 2 < byteAt a 0) : ownStop a n = .refuse .badField n := by
  unfold ownStop
  split
  next zero => omega
  next one => omega
  next two => omega
  next => rfl

end

theorem stopReply_ok {r : Node × Bool} (h : r.2 = true) : stopReply r = .ok .none r.1 := if_pos h

theorem stopReply_notFound {r : Node × Bool} (h : ¬ r.2 = true) : stopReply r = .refuse .notFound r.1 := if_neg h

/-- Settles O31: the five orders of PLAY, and STOP at one player and at both. -/
theorem playAndStopDecided : Obligations.PlayAndStopDecided := by
  intro s src dst tag a asked studio
  rw [← heard_cue s.node]
  intro n q play inState waits some_ busy stop idleAfter releases fades fadeLen counted one acts
  have played {r : Result} {d : ResultData} {m : Node} (h : decidePlay n = { result := r, data := d, node := m }) :
      play r d m :=
    exec_owner (c := .play src dst tag a) rfl (by decide) asked studio (Nat.zero_le _) h
  have isFadeLen (p : Player) : p.stopBlocks = fadeLen p := by
    unfold Player.stopBlocks fadeLen
    cases p.item with
    | none => rfl
    | some e => dsimp only; split <;> omega
  have stops (b : Bool) (m : Node) : (stopPlayer b m).1 = one b m := by
    by_cases ends : (m.player b).stopEnds
    · rw [stopPlayer_ends ends]
      exact (if_pos ends).symm
    · by_cases fade : (m.player b).stopFades
      · rw [stopPlayer_fades fade, isFadeLen]
        exact ((if_neg ends).trans (if_pos fade)).symm
      · rw [stopPlayer_nothing ends fade]
        exact ((if_neg ends).trans (if_neg fade)).symm
  have stopsBoth : (stopBoth n).1 =
      { one true (one false n) with cue := { (one true (one false n)).cue with countdown := none } } := by
    rw [← stops false, ← stops true]
    rfl
  refine ⟨fun paused => ?_, fun notPaused armed => ?_, fun notPaused notArmed idle e rest list => ?_,
    fun notPaused notArmed idle empty => ?_, fun busyA busyB => ?_, fun args => ?_⟩
  · exact played (decidePlay_paused paused)
  · exact played (decidePlay_armed notPaused armed)
  · exact played (decidePlay_list notPaused notArmed (armTarget_of_someIdle notArmed idle) list)
  · refine played ((decidePlay_nothing notPaused notArmed (.inr empty)).trans (if_neg fun busy => ?_))
    obtain ⟨busyA, busyB⟩ := (Bool.and_eq_true _ _).mp busy
    exact Cue.not_someIn_of_busy busyA busyB (by decide) (by decide) idle
  · replace busyA := q.a.busy_iff.mpr busyA
    replace busyB := q.b.busy_iff.mpr busyB
    have none_ : q.armTarget = none :=
      armTarget_none (.inr ⟨Player.busy_state busyA (by decide) (by decide),
        Player.busy_state busyB (by decide) (by decide)⟩)
    refine played ((decidePlay_nothing (Cue.not_someIn_of_busy busyA busyB (by decide) (by decide))
      (Cue.not_someIn_of_busy busyA busyB (by decide) (by decide)) (.inl none_)).trans (if_pos ?_))
    rw [busyA, busyB]
    rfl
  · have given {r : Result} {m : Node} (h : ownStop a n = { result := r, data := .none, node := m }) :
        exec (.stop src dst tag a) s = .next (answered src 5 tag { result := r, data := .none, node := m } s) :=
      exec_owner (c := .stop src dst tag a) rfl (by decide) asked studio args h
    have changes (b : Bool) (named : byteAt a 0 = if b then 1 else 0) (h : acts (n.player b)) :
        ownStop a n = .ok .none (one b n) := by
      rw [ownStop_player b named, stopReply_ok ((stopPlayer_changes b n).mpr h), stops]
    have unchanged (b : Bool) (named : byteAt a 0 = if b then 1 else 0) (h : ¬ acts (n.player b)) :
        ownStop a n = .refuse .notFound n := by
      rw [ownStop_player b named, stopReply_notFound (mt (stopPlayer_changes b n).mp h), stopPlayer_idle h]
    refine ⟨fun h => given (ownStop_badField h), fun h named => given (changes false named h),
      fun h named => given (unchanged false named h), fun h named => given (changes true named h),
      fun h named => given (unchanged true named h), fun h named => ?_, fun idleA idleB stands named => ?_⟩
    · refine given ?_
      rw [ownStop_both named, stopReply_ok ((stopBoth_changes n).mpr h), stopsBoth]
      rfl
    · refine given ?_
      have nothing : ¬ (stopBoth n).2 = true := by
        rw [stopBoth_changes]
        exact not_or.mpr ⟨idleA, not_or.mpr ⟨idleB, fun runs => runs stands⟩⟩
      rw [ownStop_both named, stopReply_notFound nothing, stopBoth_nothing idleA idleB stands]
      rfl

end Sys2Proof.Machine
end

section
/-! PROOFS. The arming of a boundary and the start of a player (sections 5.2 and 5.3, R89, R91, R92, R94). -/

namespace Sys2Proof.Machine

/-! ## The player that arming takes (R89) -/

/-- The player that a boundary arms depends neither on the list nor on the start that PLAY left pending. -/
theorem armTarget_setList (c : Cue) (l : List CueEntry) (x : Bool) :
    { c with list := l, armStart := x }.armTarget = c.armTarget := rfl

theorem armTarget_of_idle {n : Node} {b : Bool} (idle : (n.player b).state = .idle)
    (other : (n.player !b).state ≠ .armed) (prefers : (n.player !b).state = .idle → b = n.cue.preferB) :
    n.cue.armTarget = some b := by
  have own : (n.player b).state ≠ .armed := idle ▸ PlayerState.noConfusion
  rw [armTarget_eq_some]
  cases b with
  | false => exact ⟨own, other, idle, fun _ both => (prefers both).symm⟩
  | true => exact ⟨other, own, idle, fun both _ => (prefers both).symm⟩

/-! ## Arming (R89) -/

/-- The part after the pending start has passed on and the list's head has left it. -/
def Node.headTaken (n : Node) (rest : List CueEntry) : Node :=
  { n with cue := { n.cue with armStart := false, list := rest } }

section
variable {n : Node} {b : Bool} {e : CueEntry} {rest : List CueEntry}

theorem cueArm_clip {c : Nat} (target : n.cue.armTarget = some b) (list : n.cue.list = e :: rest)
    (source : e.source = .clip c) :
    cueArm n = setPlayer b ((n.player b).armWith e none n.cue.armStart) (n.headTaken rest) := by
  unfold cueArm
  simp only [armTarget_setList, target, list, source]
  rfl

/-- A stream item armed keeps the number of its listen entry. -/
theorem cueArm_stream {k i j : Nat} (target : n.cue.armTarget = some b) (list : n.cue.list = e :: rest)
    (source : e.source = .stream k i) (added : n.streams.addOutcome k i = .added j) :
    cueArm n =
      setPlayer b ((n.player b).armWith e (some j) n.cue.armStart) (addListen k i .item (n.headTaken rest)).2 := by
  have added' : (n.headTaken rest).streams.addOutcome k i = .added j := added
  have listens := addListen_added (p := .item) added'
  unfold Node.headTaken at listens ⊢
  unfold cueArm
  simp only [armTarget_setList, target, list, source, listens]
  rfl

/-- A stream item with no listen entry ends NO_SLOT. -/
theorem cueArm_noSlot {k i : Nat} {why : AddFailure} (target : n.cue.armTarget = some b)
    (list : n.cue.list = e :: rest) (source : e.source = .stream k i)
    (refused : n.streams.addOutcome k i = .refused why) :
    cueArm n =
      let y := setPlayer b { n.player b with lastEnd := some (.noSlot, e.id) } (n.headTaken rest)
      { y with
        cue := { y.cue with counters := { n.cue.counters with noSlot := satInc n.cue.counters.noSlot } } } := by
  have refused' : (n.headTaken rest).streams.addOutcome k i = .refused why := refused
  have listens := addListen_refused (p := .item) refused'
  unfold Node.headTaken at listens ⊢
  unfold cueArm
  simp only [armTarget_setList, target, list, source, listens, mapCueCounters, setPlayer_cue, Cue.setPlayer_counters]
  rfl

end

/-- With no player to arm, or nothing to arm it with, the pending start of PLAY is gone. -/
theorem cueArm_nothing {n : Node} (h : n.cue.armTarget = none ∨ n.cue.list = []) :
    cueArm n = { n with cue := { n.cue with armStart := false } } := by
  unfold cueArm
  simp only [armTarget_setList]
  rcases h with none_ | empty
  · rw [none_]
  · rw [empty]
    cases n.cue.armTarget <;> rfl

/-! ## The start of a player (R91, R92, R94) -/

/-- The blocks of an item: those of a clip from its start offset on, none of a stream. -/
def CueEntry.blocksIn (e : CueEntry) (d : Store) : Nat :=
  match e.source with
  | .clip c => itemBlocks (d.clip c).length e.startOffset
  | .stream .. => 0

/-- The segue block of an item. -/
def CueEntry.segueIn (e : CueEntry) (d : Store) : Nat :=
  if e.isClip then segueBlockOf (e.blocksIn d) e.segue else 0

/-- The start of a player that holds an item: the player as it starts, the preference turned, the start counted. -/
theorem startPlayer_item {n : Node} {b byPlay : Bool} {e : CueEntry} {p : Player} (item : (n.player b).item = some e)
    (starts :
      (n.player b).started (e.blocksIn n.store) (e.segueIn n.store)
        (!byPlay && !(n.player b).pending && n.cue.heldFlag && e.pausable) = p) :
    startPlayer b byPlay n =
      let y := setPlayer b p n
      { y with
        cue :=
          { y.cue with
            preferB := !b, counters := { n.cue.counters with started := satInc n.cue.counters.started } } } := by
  have pausable : (n.player b).pausable = e.pausable := by rw [Player.pausable, item]
  rw [← starts]
  unfold startPlayer CueEntry.segueIn CueEntry.blocksIn
  dsimp only
  rw [pausable, item]
  simp only [mapCueCounters, setPlayer_cue, Cue.setPlayer_counters]
  obtain ⟨id, source, startOffset, segue, fadeIn, fadeOut, level, auto, pausable, label⟩ := e
  cases source <;> rfl

/-- Settles O32: the three outcomes of an arming, the boundary that arms no player, and the start of a player. -/
theorem armingAndStart : Obligations.ArmingAndStart := by
  refine ⟨?_, ?_, ?_⟩
  · intro m n b e rest q other idle notArmed prefers list x armed
    have target : n.cue.armTarget = some b := armTarget_of_idle idle notArmed prefers
    exact ⟨fun c source => cueArm_clip target list source,
      fun k i source =>
        ⟨fun j added => cueArm_stream target list source added,
          fun why refused => cueArm_noSlot target list source refused⟩⟩
  · intro m n h
    refine cueArm_nothing ?_
    rcases h with armed | busy | empty
    · exact .inl (armTarget_none (.inl armed))
    · exact .inl (armTarget_none (.inr busy))
    · exact .inr empty
  · intro n b byPlay e item p clipLength blocks segue paused started y
    have offset : (n.player b).startOffset = e.startOffset := by rw [Player.startOffset, item]
    have isBlocks : e.blocksIn n.store = blocks := by
      unfold blocks clipLength CueEntry.isClip CueEntry.blocksIn
      cases e.source <;> rfl
    have isSegue : e.segueIn n.store = segue := by
      rw [CueEntry.segueIn, isBlocks]
      rfl
    have isPaused : (!byPlay && !p.pending && n.cue.heldFlag && e.pausable) = decide paused := by
      simp only [paused, Bool.decide_and, Bool.decide_eq_false, Bool.decide_eq_true, Bool.and_assoc]
    refine startPlayer_item item ?_
    rw [isBlocks, isSegue, isPaused]
    simp only [Player.started, offset, decide_eq_true_eq]
    rfl

end Sys2Proof.Machine
end

section
/-! PROOFS. The five rows of the cue engine at a block boundary (sections 5.3 and 5.4, R93 to R96, R99, R101). -/

namespace Sys2Proof.Machine

/-! ## The natural end of one player's item (R96) -/

section
variable {b : Bool} {n : Node}

theorem naturalEnd_notDue (h : ¬ (n.player b).naturalEnd = true) : naturalEnd b n = n := if_neg h

theorem naturalEnd_stopping (due : (n.player b).naturalEnd = true) (h : (n.player b).state = .stopping) :
    naturalEnd b n = countStopped (setFader b (.settled 0) (endItem b .stopped n)) := by
  unfold naturalEnd
  simp only [due, h, decide_true, Bool.not_true, Bool.false_and, if_true, Bool.false_eq_true, if_false]

/-- The item has come to its end: where it has AUTO and its segue is not taken, the countdown starts (R95). -/
theorem naturalEnd_complete (due : (n.player b).naturalEnd = true) (h : (n.player b).state ≠ .stopping) :
    naturalEnd b n =
      let p := n.player b
      let y :=
        mapCueCounters (fun c => { c with completed := satInc c.completed })
          (setFader b (.settled 0) (endItem b .complete n))
      if p.auto = true ∧ p.segueTaken = false then
        { y with cue := { y.cue with countdown := some (p.segueBlock - p.blocks) } }
      else y := by
  unfold naturalEnd
  simp only [due, h, decide_false, Bool.not_false, Bool.true_and, if_true, Bool.false_eq_true, if_false,
    Bool.and_eq_true, Bool.not_eq_true']

/-! ## The mixer's report of a fader at its target (R50, R99, R101) -/

theorem Ramp.ended_iff (r : Ramp) : r.ended = true ↔ r.running = true ∧ r.len ≤ r.pos := by
  simp only [Ramp.ended, Bool.and_eq_true, decide_eq_true_eq]

theorem faderReport_notDue (h : ¬ (n.fader b).ended = true) : faderReport b n = n := if_neg h

/-- A STOPPING player whose fader has come to 0 ends. -/
theorem faderReport_stopping (due : (n.fader b).ended = true) (h : (n.player b).state = .stopping) :
    faderReport b n =
      let m := setFader b (n.fader b).reported n
      if (n.fader b).target = 0 then countStopped (endItem b .stopped m) else m := by
  unfold faderReport
  simp only [due, h, if_true]

/-- A PAUSED player whose fader has come to 0 has its position saved, where it was pausing. -/
theorem faderReport_paused (due : (n.fader b).ended = true) (h : (n.player b).state = .paused) :
    faderReport b n =
      let p := n.player b
      let m := setFader b (n.fader b).reported n
      if (n.fader b).target = 0 ∧ p.held = false ∧ p.order = none then
        setPlayer b { p with held := true, saved := if p.playsClip then some p.readPos else none } m
      else m := by
  unfold faderReport
  simp only [due, h, if_true]

theorem faderReport_other (due : (n.fader b).ended = true) (h1 : (n.player b).state ≠ .stopping)
    (h2 : (n.player b).state ≠ .paused) :
    faderReport b n =
      setPlayer b { n.player b with resumeRamp := false } (setFader b (n.fader b).reported n) := by
  cases state : (n.player b).state with
  | stopping => exact absurd state h1
  | paused => exact absurd state h2
  | idle | armed | playing => simp only [faderReport, due, state, if_true]

end

/-! ## What makes each row due -/

theorem naturalEndDue_of {n : Node} (h : n.cue.a.naturalEnd = true ∨ n.cue.b.naturalEnd = true) :
    n.naturalEndDue = true :=
  (Bool.or_eq_true _ _).mpr h

theorem faderDue_of {n : Node} (h : n.mixer.faderA.ended = true ∨ n.mixer.faderB.ended = true) :
    n.faderDue = true :=
  (Bool.or_eq_true _ _).mpr h

theorem segueDue_of {n : Node} (h : n.cue.a.segueDue = true ∨ n.cue.b.segueDue = true) : n.segueDue = true :=
  (Bool.or_eq_true _ _).mpr h

theorem fadeOutDue_of {n : Node} (h : n.cue.a.fadeOutDue = true ∨ n.cue.b.fadeOutDue = true) :
    n.fadeOutDue = true :=
  (Bool.or_eq_true _ _).mpr h

theorem countdownDue_of {n : Node} (h : n.cue.countdown = some 0) (runs : n.cue.heldFlag = false) :
    n.countdownDue = true := by
  unfold Node.countdownDue
  rw [h, runs]
  rfl

/-- Settles O33: what makes a player's part of a row due, and each row as its rule for player A and then for B. -/
theorem cueRowsAtABoundary : Obligations.CueRowsAtABoundary := by
  unfold Obligations.CueRowsAtABoundary
  intro s rest q done both clip auto sounds count inc idleAfter ends naturally reported taken falls segues fades
    fadesOut
  have ends_iff (p : Player) : p.naturalEnd = true ↔ ends p := by
    rw [p.naturalEnd_iff, p.playsClip_iff, p.sounding_iff]
  have falls_iff (p : Player) : p.segueDue = true ↔ falls p := by
    rw [p.segueDue_iff, p.playsClip_iff, p.auto_iff]
  have fades_iff (p : Player) : p.fadeOutDue = true ↔ fades p := by
    rw [p.fadeOutDue_iff, p.playsClip_iff]
  have takes : takeSegue = taken := funext takeSegue_eq
  have ends_naturally (b : Bool) (n : Node) : naturalEnd b n = naturally b n := by
    by_cases due : (n.player b).naturalEnd = true
    · by_cases h : (n.player b).state = .stopping
      · rw [naturalEnd_stopping due h]
        simp only [naturally, due, h, if_true, not_true_eq_false, false_and, if_false]
        rfl
      · rw [naturalEnd_complete due h]
        simp only [naturally, due, h, if_true, not_false_eq_true, true_and, if_false]
        rfl
    · exact (naturalEnd_notDue due).trans (if_neg due).symm
  have reports (b : Bool) (n : Node) : faderReport b n = reported b n := by
    by_cases due : (n.fader b).ended = true
    · have due' := (Ramp.ended_iff _).mp due
      by_cases h1 : (n.player b).state = .stopping
      · rw [faderReport_stopping due h1]
        simp only [reported, due', h1, and_self, if_true]
        rfl
      · by_cases h2 : (n.player b).state = .paused
        · rw [faderReport_paused due h2]
          simp only [reported, due', h2, and_self, if_true, reduceCtorEq, if_false]
          rfl
        · rw [faderReport_other due h1 h2]
          simp only [reported, due', h1, h2, and_self, if_true, if_false]
          rfl
    · rw [faderReport_notDue due]
      exact (if_neg (mt (Ramp.ended_iff _).mpr due)).symm
  have takes_segues (b : Bool) (n : Node) : segueTake b n = segues b n := by
    unfold segueTake
    rw [takes]
  have row {c : Instr} {st : Stage} {m : Node} (hc : eventStage c = some st) (at_ : AtStage st rest s)
      (due : stageDue st s.node = true) (runs : stageRun st s.mem s.node = m) : exec c s = done m := by
    rw [exec_event hc, boundaryRow_atStage at_ due, runs]
  have each {f g : Bool → Node → Node} (h : ∀ b n, f b n = g b n) : eachPlayer f s.node = both g := by
    rw [funext fun b => funext (h b)]
    rfl
  refine ⟨fun p => ⟨ends_iff p, falls_iff p, fades_iff p⟩, fun at_ due => ?_, fun at_ due => ?_, fun at_ due => ?_,
    fun at_ zero runs => ?_, fun at_ due => ?_⟩
  · rw [← ends_iff, ← ends_iff] at due
    exact row rfl at_ (naturalEndDue_of due) (each ends_naturally)
  · rw [← Ramp.ended_iff, ← Ramp.ended_iff] at due
    exact row rfl at_ (faderDue_of due) (each reports)
  · rw [← falls_iff, ← falls_iff] at due
    exact row rfl at_ (segueDue_of due) (each takes_segues)
  · refine row rfl at_ (countdownDue_of zero runs) ?_
    rw [← takes]
    rfl
  · rw [← fades_iff, ← fades_iff] at due
    exact row rfl at_ (fadeOutDue_of due) rfl

end Sys2Proof.Machine
end

section
/-! PROOFS. Ends of stream items, the report of the standing, pauses and resumes, PLAY's pending starts, and the fader
targets of step 5 (sections 5.3 and 5.5, R90, R91, R97, R100 to R102). -/

namespace Sys2Proof.Machine

section
variable {b : Bool} {n : Node}

/-! ## The end of a stream item (R97) -/

/-- The part after a player's stream item has ended, before the counters: the reason is that of the player's state. -/
def streamItemOver (b : Bool) (n : Node) : Node :=
  setFader b (.settled 0)
    (endItem b (if (n.player b).state = .stopping then .stopped else .streamEnded) n)

theorem streamItemEnd_notEnded (h : ¬ (n.player b).slotEnded = true) : streamItemEnd b n = n := if_neg h

theorem streamItemEnd_stopping (ended : (n.player b).slotEnded = true) (h : (n.player b).state = .stopping) :
    streamItemEnd b n = countStopped (streamItemOver b n) := by
  unfold streamItemEnd streamItemOver
  simp only [ended, h, decide_true, if_true, reduceCtorEq, decide_false, Bool.false_and, Bool.false_eq_true, if_false]

/-- The stream has ended: where it was the item of a PLAYING player with AUTO, a start is due at step 4. -/
theorem streamItemEnd_streamEnded (ended : (n.player b).slotEnded = true) (h : (n.player b).state ≠ .stopping) :
    streamItemEnd b n =
      let z := mapCueCounters (fun c => { c with streamEnds := satInc c.streamEnds }) (streamItemOver b n)
      if (n.player b).state = .playing ∧ (n.player b).auto = true then
        { z with cue := { z.cue with streamStarts := z.cue.streamStarts + 1 } }
      else z := by
  unfold streamItemEnd streamItemOver
  simp only [ended, h, decide_false, if_true, Bool.false_eq_true, if_false, Bool.and_eq_true, decide_eq_true_eq]

/-! ## PLAY's pending start (R90) -/

theorem playStart_armed (pending : (n.player b).pending = true) (h : (n.player b).state = .armed) :
    playStart b n =
      { startPlayer b true n with cue := { (startPlayer b true n).cue with countdown := none } } := by
  unfold playStart
  simp only [pending, h, if_true]

theorem playStart_other (pending : (n.player b).pending = true) (h : (n.player b).state ≠ .armed) :
    playStart b n = setPlayer b { n.player b with pending := false } n := by
  unfold playStart
  simp only [pending, h, if_true, if_false]

theorem playStart_none (h : ¬ (n.player b).pending = true) : playStart b n = n := if_neg h

/-! ## The fader targets of step 5 (R91, R93, R101, R102) -/

/-- The level of a player's item. -/
def Player.level (p : Player) : Nat :=
  match p.item with
  | some e => e.level
  | none => 0

/-- The fade-in length of a player's item. -/
def Player.fadeIn (p : Player) : Nat :=
  match p.item with
  | some e => e.fadeIn
  | none => 0

/-- A player's order taken, and its fader given a target. -/
def Node.orderGiven (n : Node) (b : Bool) (target blocks : Nat) : Node :=
  setFader b ((n.fader b).retarget target blocks) (setPlayer b { n.player b with order := none } n)

/-- A player's order taken, with no target for its fader. -/
def Node.orderTaken (n : Node) (b : Bool) : Node := setPlayer b { n.player b with order := none } n

theorem faderTarget_none (h : (n.player b).order = none) : faderTarget b n = n := by
  unfold faderTarget
  simp only [h]

theorem faderTarget_start (h : (n.player b).order = some .start) :
    faderTarget b n =
      if (n.player b).fadeOutDue then n.orderTaken b
      else n.orderGiven b (n.player b).level (n.player b).fadeIn := by
  unfold faderTarget
  simp only [h]
  rfl

theorem faderTarget_pause (h : (n.player b).order = some .pause) :
    faderTarget b n = if (n.player b).state = .paused then n.orderGiven b 0 5 else n.orderTaken b := by
  unfold faderTarget
  simp only [h]
  rfl

theorem faderTarget_resume (h : (n.player b).order = some .resume) :
    faderTarget b n = n.orderGiven b (n.player b).level 5 := by
  unfold faderTarget
  simp only [h]
  rfl

end

/-! ## The report of the standing (R100) and the resumes (R102) -/

/-- A PAUSED player under a HOLDING report. -/
def Player.woken (p : Player) : Player := if p.state = .paused then { p with wake := true } else p

/-- A PLAYING player with a PAUSABLE item under a PREEMPTED report. -/
def Player.preempted (p : Player) : Player := if p.state = .playing ∧ p.pausable then p.pause else p

section
variable {n : Node}

theorem cueReports_none (h : n.cue.standing = none) : cueReports n = n := by
  simp only [cueReports, h]

theorem cueReports_offAir (h : n.cue.standing = some .offAir) :
    cueReports n = { n with cue := { n.cue with standing := none, heldFlag := false } } := by
  simp only [cueReports, h]

theorem cueReports_holding (h : n.cue.standing = some .holding) :
    cueReports n =
      { n with
        cue := { n.cue with standing := none, heldFlag := false, a := n.cue.a.woken, b := n.cue.b.woken } } := by
  simp only [cueReports, h, Player.woken]

theorem cueReports_preempted (h : n.cue.standing = some .preempted) :
    cueReports n =
      { n with
        cue :=
          { n.cue with
            standing := none, heldFlag := true, a := n.cue.a.preempted, b := n.cue.b.preempted } } := by
  simp only [cueReports, h, Player.preempted]

end

/-- Settles O34: the report of a slot's end, the end of a stream item, the reports of the standing, the resumes with
the starts after stream items, PLAY's pending starts, and the fader targets. -/
theorem cueItemsEndPauseResumeAndPlay : Obligations.CueItemsEndPauseResumeAndPlay := by
  unfold Obligations.CueItemsEndPauseResumeAndPlay
  intro m n q both inc count segue marked streamEnds paused resumed plays level fadeIn targets
  have segues : takeSegue = segue := funext takeSegue_eq
  have starts (b : Bool) (x : Node) : playStart b x = plays b x := by
    by_cases pending : (x.player b).pending = true
    · by_cases armed : (x.player b).state = .armed
      · rw [playStart_armed pending armed]
        exact (if_pos ⟨pending, armed⟩).symm
      · rw [playStart_other pending armed]
        exact ((if_neg fun h => armed h.2).trans (if_pos pending)).symm
    · rw [playStart_none pending]
      exact ((if_neg fun h => pending h.1).trans (if_neg pending)).symm
  refine ⟨fun r item => ?_,
    fun b x => ⟨streamItemEnd_notEnded, fun ended stopped => ?_, fun ended notStopped => ?_⟩, rfl, cueReports_none,
    cueReports_offAir, cueReports_holding, cueReports_preempted, ?_, ?_, fun b x => ?_, rfl⟩
  · unfold reportSlotEnd
    rw [item]
    rfl
  · exact streamItemEnd_stopping ended stopped
  · have ends := streamItemEnd_streamEnded ended notStopped
    refine ⟨fun alone => ends.trans (if_neg ?_), fun playing auto => ends.trans (if_pos ⟨playing, auto⟩)⟩
    rintro ⟨playing, auto⟩
    exact alone.elim (fun h => h playing) (fun h => Bool.false_ne_true (h.symm.trans auto))
  · rw [← segues]
    rfl
  · show eachPlayer playStart n = _
    rw [funext fun b => funext (starts b)]
    rfl
  · refine ⟨faderTarget_none, fun start notDue => ?_, fun start due => ?_, fun pause h => ?_, fun pause h => ?_,
      fun resume => ?_⟩
    · exact (faderTarget_start start).trans (if_neg notDue)
    · exact (faderTarget_start start).trans (if_pos due)
    · exact (faderTarget_pause pause).trans (if_pos h)
    · exact (faderTarget_pause pause).trans (if_neg h)
    · exact faderTarget_resume resume

end Sys2Proof.Machine
end

section
/-! PROOFS. What the statements of the air unit share (chapter 6): an entry of the claims table replaced, the FOLLOW
entry of a claimant, the evaluation of a WAITING claim (R114) and a round of selection (R116), at any station. -/

namespace Sys2Proof.Machine

/-! ## An entry of the claims table replaced -/

section
variable (a : Air) (k : Nat) (f g : ClaimEntry → ClaimEntry)

theorem Air.modifyEntry_frame :
    a.modifyEntry k f =
      { a with claims := (a.modifyEntry k f).claims, alertClaim := (a.modifyEntry k f).alertClaim } := by
  unfold Air.modifyEntry; split <;> rfl

@[simp] theorem Air.modifyEntry_holder : (a.modifyEntry k f).holder = a.holder := by rw [Air.modifyEntry_frame]
@[simp] theorem Air.modifyEntry_arrivals : (a.modifyEntry k f).arrivals = a.arrivals := by rw [Air.modifyEntry_frame]
@[simp] theorem Air.modifyEntry_counters : (a.modifyEntry k f).counters = a.counters := by rw [Air.modifyEntry_frame]

theorem Air.modifyEntry_modifyEntry : (a.modifyEntry k f).modifyEntry k g = a.modifyEntry k (fun e => g (f e)) := by
  unfold Air.modifyEntry modifyAt
  split
  · rfl
  · simp only [List.modify_modify_eq]; rfl

variable {a k}

/-- An entry that the table has is replaced by the image of what it holds. -/
theorem Air.modifyEntry_present (h : k = 0 ∨ k - 1 < a.claims.length) :
    a.modifyEntry k f = a.modifyEntry k (fun _ => f (a.entry k)) := by
  unfold Air.modifyEntry Air.entry
  split
  · rfl
  next pos =>
    have held : a.claims[k - 1]? = some (a.claims.getD (k - 1) .empty) := by
      rw [List.getD_eq_getElem?_getD, List.getElem?_eq_getElem (h.resolve_left pos)]; rfl
    rw [modifyAt_eq_set held, modifyAt_eq_set held]

/-- What is read of an entry just replaced. -/
theorem Air.entry_modifyEntry (h : k = 0 ∨ k - 1 < a.claims.length) : (a.modifyEntry k f).entry k = f (a.entry k) := by
  rw [Air.modifyEntry_present f h]
  unfold Air.modifyEntry Air.entry
  split
  · rfl
  next pos =>
    have inTable := h.resolve_left pos
    simp [modifyAt, inTable]

end

/-! ## Claims and counters -/

/-- A counter advanced, where the counters are known to be those of an earlier part. -/
theorem mapAirCounters_of {f : AirCounters → AirCounters} {n : Node} {z : AirCounters} (h : n.air.counters = z) :
    mapAirCounters f n = { n with air := { n.air with counters := f z } } := by
  rw [← h]; rfl

theorem holderKindOf_eq (kind : ClaimKind) :
    holderKindOf kind = if kind = .peer then .peer else if kind = .own then .own else .alert := by
  cases kind <;> rfl

section
variable {n : Node} {k : Nat} {c : Claim} {st : ClaimState}

theorem Node.claimIn_of (claim : (n.air.entry k).claim = some c) (h : c.state = st) : n.claimIn k st = some c := by
  unfold Node.claimIn Node.airEntry
  simp only [claim, h, if_true]

theorem Node.claimIn_none_of (h : ∀ c, (n.air.entry k).claim = some c → c.state ≠ st) : n.claimIn k st = none := by
  unfold Node.claimIn Node.airEntry
  split
  next c claim => exact if_neg (h c claim)
  next => rfl

end

/-! ## The FOLLOW entry of a claimant (R114, R117) -/

section
variable {n m : Node} {k : Nat} {c : Claim}

theorem followFor_needless (h : n.cfg.roles.link = false ∨ c.kind ≠ .peer) : followFor k c n = (none, n) := by
  refine if_neg ?_
  rcases h with h | h <;> simp [h]

theorem followFor_added {i : Nat} (link : n.cfg.roles.link = true) (peer : c.kind = .peer)
    (h : obtainFollow k n = (.added i, m)) : followFor k c n = (none, m) := by
  unfold followFor
  simp only [link, peer, decide_true, Bool.and_self, if_true, h]

theorem followFor_refused {why : AddFailure} (link : n.cfg.roles.link = true) (peer : c.kind = .peer)
    (h : obtainFollow k n = (.refused why, m)) : followFor k c n = (some why, m) := by
  unfold followFor
  simp only [link, peer, decide_true, Bool.and_self, if_true, h]

/-! ## The holder pushed onto the stack, and the air taken (R114) -/

theorem pushHolder_alone (peer : n.air.holder.kind ≠ .peer) (own : n.air.holder.kind ≠ .own) : pushHolder n = n := by
  unfold pushHolder
  cases held : n.air.holder.kind with
  | peer => exact absurd held peer
  | own => exact absurd held own
  | none | reserve | alert => simp only [held]

/-- The stack record of a holder (R113). -/
def Holder.record (h : Holder) : StackRecord :=
  { station := h.station, level := h.level, arrival := h.arrival, isOwn := decide (h.kind = .own) }

/-- The part with its holder on top of the stack. -/
def Node.stacking (n : Node) : Node := { n with air := { n.air with stack := n.air.holder.record :: n.air.stack } }

theorem pushHolder_stacked (h : n.air.holder.kind = .peer ∨ n.air.holder.kind = .own) :
    pushHolder n = setClaimState n.air.holder.station .stacked (passOut n.air.holder.entry n.stacking) := by
  unfold pushHolder Node.stacking Holder.record
  rcases h with h | h <;> simp only [h] <;> rfl

/-- The holder record filled from a claim (R113, R114), its FOLLOW entry given. -/
def Claim.asHolder (c : Claim) (k : Nat) (entry : Option Nat) : Holder :=
  { kind :=
      if c.kind = ClaimKind.peer then HolderKind.peer
      else if c.kind = ClaimKind.own then HolderKind.own else HolderKind.alert,
    station := k, level := c.level, arrival := c.arrival, alertId := c.alertId, entry := entry }

theorem takeAir_eq (k : Nat) (c : Claim) (n : Node) :
    takeAir k c n =
      setClaimState k .holding
        { n with
          air :=
            { n.air with
              holder :=
                c.asHolder k
                  (if c.kind = .peer ∧ n.cfg.roles.link = true then (n.air.entry k).listen else none) } } := by
  unfold takeAir Claim.asHolder Node.airEntry
  rw [holderKindOf_eq]

/-! ## The evaluation of a WAITING claim (R114) -/

theorem evaluate_notAbove (claim : n.claimIn k .waiting = some c) (h : c.level ≤ n.air.holder.level) :
    evaluate k n = n := by
  unfold evaluate
  simp only [claim, Nat.not_lt.mpr h, decide_false, Bool.and_false, Bool.false_eq_true, if_false]

/-- A WAITING claim above the holder takes the air, or is UNREACHABLE where its FOLLOW entry is refused. -/
theorem evaluate_above {why : Option AddFailure} (claim : n.claimIn k .waiting = some c)
    (judging : n.judging = true) (above : n.air.holder.level < c.level) (follow : followFor k c n = (why, m)) :
    evaluate k n =
      why.elim
        (handOver
          (mapAirCounters (fun x => { x with preemptions := satInc x.preemptions }) (takeAir k c (pushHolder m))))
        (fun w => markUnreachable k w m) := by
  unfold evaluate
  simp only [claim, judging, above, decide_true, Bool.and_self, if_true, follow]
  cases why <;> rfl

/-! ## A round of selection (R116) -/

theorem selectLoop_discard {round : Nat} {top : StackRecord} {rest : List StackRecord}
    (stack : n.air.stack = top :: rest) (ended : n.cannotResume top = true) :
    selectLoop (round + 1) n = selectLoop round (discardTop top rest n) := by
  rw [selectLoop]
  simp only [stack, ended, if_true]

/-- The top of the stack resumes where no WAITING claim is above it. -/
theorem selectLoop_resume {round : Nat} {top : StackRecord} {rest : List StackRecord}
    (stack : n.air.stack = top :: rest) (sounds : n.cannotResume top = false)
    (best : ∀ j c, n.bestWaiting = some (j, c) → c.level ≤ top.level) :
    selectLoop (round + 1) n = resumeTop top rest n := by
  rw [selectLoop]
  simp only [stack, sounds, Bool.false_eq_true, if_false]
  split
  next j c waits => exact if_neg (Nat.not_lt.mpr (best j c waits))
  next => rfl

/-- The best WAITING claim above a top that can resume, or with no top, takes the air, or is UNREACHABLE where its
FOLLOW entry is refused. -/
theorem selectLoop_waiting {round j : Nat} {why : Option AddFailure} (best : n.bestWaiting = some (j, c))
    (above : ∀ top rest, n.air.stack = top :: rest → n.cannotResume top = false ∧ top.level < c.level)
    (follow : followFor j c n = (why, m)) :
    selectLoop (round + 1) n =
      why.elim (takeWaiting j c m) (fun w => selectLoop round (markUnreachable j w m)) := by
  rw [selectLoop]
  split
  next top rest stack =>
    obtain ⟨sounds, below⟩ := above top rest stack
    simp only [sounds, Bool.false_eq_true, if_false, best, below, if_true, follow]
    cases why <;> rfl
  next =>
    simp only [best, follow]
    cases why <;> rfl

theorem selectLoop_fallBack {round : Nat} (stack : n.air.stack = []) (best : n.bestWaiting = none) :
    selectLoop (round + 1) n = fallBack n := by
  rw [selectLoop]
  simp only [stack, best]

theorem select_judging (judging : n.judging = true) : select n = handOver (selectLoop 40 n) := if_pos judging

end

end Sys2Proof.Machine
end

section
/-! PROOFS. Claims heard and applied (sections 6.1 to 6.5): CLAIM_SET (R107, R108), the serial of a claim heard (R111),
and, at a station without LINK, the renewal and the removal of a claim (R112, R115) and selection (R116). -/

namespace Sys2Proof.Machine

/-! ## CLAIM_SET (R107, R108) -/

/-- The part with a new own claim, its CLAIM packet offered to all. -/
def Node.claimOffered (n : Node) (level : Nat) : Node :=
  offerPacket 31 (.claim level (n.air.ownSerial + 1)) false
    { n with air := { n.air with ownLevel := level, ownSerial := n.air.ownSerial + 1 } }

section
variable {n : Node} {level : Nat}

theorem setOwnClaim_new (h : level ≠ n.air.ownLevel) :
    setOwnClaim level n =
      refreshStanding (applyClaim n.cfg.number .own level (n.air.ownSerial + 1) (n.claimOffered level)) :=
  if_neg h

theorem claimOffered_air :
    (n.claimOffered level).air = { n.air with ownLevel := level, ownSerial := n.air.ownSerial + 1 } := by
  unfold Node.claimOffered
  rw [offerPacket_frame]

/-- The own claim as it was set stands after its application and the standing. -/
theorem setOwnClaim_own (h : level ≠ n.air.ownLevel) :
    (setOwnClaim level n).air.ownLevel = level ∧ (setOwnClaim level n).air.ownSerial = n.air.ownSerial + 1 := by
  obtain ⟨_, ownLevel, ownSerial, _⟩ :=
    applyClaim_reach n.cfg.number .own level (n.air.ownSerial + 1) (n.claimOffered level)
  rw [claimOffered_air] at ownLevel ownSerial
  rw [setOwnClaim_new h]
  exact ⟨ownLevel, ownSerial⟩

theorem ownClaimSet_badField {a : List Byte} (h : 2 < byteAt a 0) : ownClaimSet a n = .refuse .badField n := if_pos h

theorem ownClaimSet_held {a : List Byte} (h : byteAt a 0 ≤ 2) (same : byteAt a 0 = n.air.ownLevel) :
    ownClaimSet a n = .ok (.claimHeld n.air.ownLevel n.air.ownSerial) n := by
  have held : setOwnClaim (byteAt a 0) n = n := if_pos same
  unfold ownClaimSet
  simp only [if_neg (Nat.not_lt.mpr h), held]

theorem ownClaimSet_new {a : List Byte} (h : byteAt a 0 ≤ 2) (new : byteAt a 0 ≠ n.air.ownLevel) :
    ownClaimSet a n =
      .ok (.claimHeld (byteAt a 0) (n.air.ownSerial + 1)) (setOwnClaim (byteAt a 0) n) := by
  obtain ⟨ownLevel, ownSerial⟩ := setOwnClaim_own new
  unfold ownClaimSet
  simp only [if_neg (Nat.not_lt.mpr h), ownLevel, ownSerial]

end

/-- Settles O35: the three outcomes of CLAIM_SET. -/
theorem claimSetDecided : Obligations.ClaimSetDecided := by
  unfold Obligations.ClaimSetDecided
  intro s src dst tag a asked studio args
  rw [← heard_air s.node, ← heard_cfg s.node]
  intro n level serial gives
  have decided {r : Reply} (reply : ownClaimSet a n = r) :
      exec (.claimSet src dst tag a) s = .next (answered src 10 tag r s) :=
    exec_owner (code := 10) rfl (by decide) asked studio args reply
  refine ⟨fun high => decided (ownClaimSet_badField high), fun low same => ?_, fun low new => ?_⟩
  · exact decided ((ownClaimSet_held low same).trans (by rw [← same]; rfl))
  · intro offered m
    have whole : setOwnClaim level n = m := setOwnClaim_new new
    rw [← whole]
    obtain ⟨ownLevel, ownSerial⟩ := setOwnClaim_own new
    exact ⟨ownLevel, ownSerial, decided (ownClaimSet_new low new)⟩

/-! ## The serial of a claim heard (R111) -/

section
variable {n : Node} {k level : Nat} {serial last : Byte}

theorem claimHeard_absent (h : (n.bus.entry k).present = false) :
    claimHeard k level serial n = mapAirCounters (fun c => { c with absentSource := satInc c.absentSource }) n := by
  unfold claimHeard
  simp only [h, Bool.not_false, if_true]

theorem claimHeard_first (h : (n.bus.entry k).present = true) (none_ : (n.air.entry k).lastSerial = none) :
    claimHeard k level serial n = applyClaim k .peer level serial n := by
  unfold claimHeard Node.airEntry
  simp only [h, Bool.not_true, Bool.false_eq_true, if_false, none_]

/-- By the distance of the serial from the last one heard, modulo 256. -/
theorem claimHeard_after (h : (n.bus.entry k).present = true) (heard : (n.air.entry k).lastSerial = some last) :
    claimHeard k level serial n =
      if (serial - last).toNat = 0 then n
      else if 128 ≤ (serial - last).toNat then mapAirCounters (fun c => { c with stale := satInc c.stale }) n
      else applyClaim k .peer level serial n := by
  unfold claimHeard Node.airEntry
  simp only [h, Bool.not_true, Bool.false_eq_true, if_false, heard]

theorem claimHeard_repeated (h : (n.bus.entry k).present = true) (heard : (n.air.entry k).lastSerial = some last)
    (d : (serial - last).toNat = 0) : claimHeard k level serial n = n :=
  (claimHeard_after h heard).trans (if_pos d)

theorem claimHeard_newer (h : (n.bus.entry k).present = true) (heard : (n.air.entry k).lastSerial = some last)
    (low : 1 ≤ (serial - last).toNat) (high : (serial - last).toNat ≤ 127) :
    claimHeard k level serial n = applyClaim k .peer level serial n := by
  rw [claimHeard_after h heard, if_neg (by omega), if_neg (by omega)]

theorem claimHeard_stale (h : (n.bus.entry k).present = true) (heard : (n.air.entry k).lastSerial = some last)
    (d : 128 ≤ (serial - last).toNat) :
    claimHeard k level serial n = mapAirCounters (fun c => { c with stale := satInc c.stale }) n := by
  rw [claimHeard_after h heard, if_neg (by omega), if_pos d]

end

/-! ## A removal, by the state of the claim (R115) -/

section
variable {n : Node} {k : Nat} {c : Claim}

theorem removeClaim_none (claim : (n.air.entry k).claim = none) : removeClaim k n = n := by
  unfold removeClaim Node.airEntry
  rw [claim]

theorem removeClaim_aside (claim : (n.air.entry k).claim = some c)
    (h : c.state = .waiting ∨ c.state = .unreachable ∨ c.state = .silent) :
    removeClaim k n = emptyEntry k (dropListen k n) := by
  unfold removeClaim Node.airEntry
  rcases h with h | h | h <;> simp only [claim, h]

theorem removeClaim_stacked (claim : (n.air.entry k).claim = some c) (h : c.state = .stacked) :
    removeClaim k n = emptyEntry k (dropListen k (unstack k n)) := by
  unfold removeClaim Node.airEntry
  simp only [claim, h]

theorem removeClaim_holding (claim : (n.air.entry k).claim = some c) (h : c.state = .holding) :
    removeClaim k n = select (emptyEntry k (holderOut n)) := by
  unfold removeClaim Node.airEntry
  simp only [claim, h]

theorem dropListen_some {i : Nat} (h : (n.air.entry k).listen = some i) :
    dropListen k n = if n.outgoingHas i then n else removeListen i n := by
  unfold dropListen Node.airEntry
  rw [h]

theorem dropListen_none (h : (n.air.entry k).listen = none) : dropListen k n = n := by
  unfold dropListen Node.airEntry
  rw [h]

end

/-! ## A part with one entry of its claims table set -/

/-- The part with the air unit a, in which entry k holds e. -/
def Node.withEntry (n : Node) (k : Nat) (e : ClaimEntry) (a : Air) : Node :=
  { n with air := a.modifyEntry k (fun _ => e) }

section
variable {n : Node} {k : Nat} {a : Air} {e : ClaimEntry}

theorem mapEntry_present (f : ClaimEntry → ClaimEntry) (h : k = 0 ∨ k - 1 < n.air.claims.length) :
    mapEntry k f n = n.withEntry k (f (n.air.entry k)) n.air :=
  congrArg (fun a => ({ n with air := a } : Node)) (Air.modifyEntry_present f h)

theorem withEntry_entry (h : k = 0 ∨ k - 1 < a.claims.length) : (n.withEntry k e a).air.entry k = e :=
  Air.entry_modifyEntry _ h

variable (n k e a)

theorem mapEntry_withEntry (f : ClaimEntry → ClaimEntry) :
    mapEntry k f (n.withEntry k e a) = n.withEntry k (f e) a :=
  congrArg (fun a => ({ n with air := a } : Node)) (Air.modifyEntry_modifyEntry a k _ f)

theorem setClaimState_withEntry (st : ClaimState) :
    setClaimState k st (n.withEntry k e a) =
      n.withEntry k (e.mapClaim (fun c => { c with state := st, reason := none })) a :=
  mapEntry_withEntry n k a e _

theorem emptyEntry_withEntry :
    emptyEntry k (n.withEntry k e a) = n.withEntry k { e with claim := none, listen := none } a :=
  mapEntry_withEntry n k a e _

@[simp] theorem withEntry_arrivals : (n.withEntry k e a).air.arrivals = a.arrivals := Air.modifyEntry_arrivals _ _ _

theorem unstack_withEntry :
    unstack k (n.withEntry k e a) =
      n.withEntry k e { a with stack := a.stack.filter (fun r => decide (r.station ≠ k)) } := by
  unfold unstack Node.withEntry Air.modifyEntry; split <;> rfl

theorem setStackArrival_withEntry (x : Count32) :
    setStackArrival k x (n.withEntry k e a) =
      n.withEntry k e
        { a with stack := a.stack.map (fun r => if r.station = k then { r with arrival := x } else r) } := by
  unfold setStackArrival Node.withEntry Air.modifyEntry; split <;> rfl

theorem nextArrival_withEntry :
    ({ n.withEntry k e a with
        air := { (n.withEntry k e a).air with arrivals := (n.withEntry k e a).air.arrivals + 1 } } : Node) =
      n.withEntry k e { a with arrivals := a.arrivals + 1 } := by
  unfold Node.withEntry Air.modifyEntry; split <;> rfl

/-- An empty entry takes a claim with the next arrival number (R111). -/
theorem fillEntry_withEntry (kind : ClaimKind) (level alertId : Nat) :
    fillEntry k kind level alertId (n.withEntry k e a) =
      n.withEntry k
        { e with
          claim :=
            some
              { kind := kind, level := level, arrival := a.arrivals, state := .waiting, reason := none,
                alertId := alertId } }
        { a with arrivals := a.arrivals + 1 } := by
  unfold fillEntry
  rw [nextArrival_withEntry, mapEntry_withEntry, withEntry_arrivals]

end

/-! ## A claim applied to an entry (R111, R112) -/

section
variable {n : Node} {k level : Nat} {kind : ClaimKind} {serial : Byte} {c : Claim} {e : ClaimEntry}

theorem mapClaim_some (f : Claim → Claim) (h : e.claim = some c) : e.mapClaim f = { e with claim := some (f c) } := by
  unfold ClaimEntry.mapClaim; rw [h]; rfl

/-- The serial of a claim noted in its entry. -/
def Node.noted (n : Node) (k : Nat) (serial : Byte) : Node :=
  n.withEntry k { n.air.entry k with lastSerial := some serial } n.air

theorem mapEntry_noted (inTable : k = 0 ∨ k - 1 < n.air.claims.length) :
    mapEntry k (fun e => { e with lastSerial := some serial }) n = n.noted k serial :=
  mapEntry_present _ inTable

theorem noted_entry (inTable : k = 0 ∨ k - 1 < n.air.claims.length) :
    (n.noted k serial).air.entry k = { n.air.entry k with lastSerial := some serial } :=
  withEntry_entry inTable

theorem noted_arrivals : (n.noted k serial).air.arrivals = n.air.arrivals := withEntry_arrivals _ _ _ _

theorem noted_claim (inTable : k = 0 ∨ k - 1 < n.air.claims.length) :
    ((n.noted k serial).airEntry k).claim = (n.air.entry k).claim := by
  rw [Node.airEntry, noted_entry inTable]

theorem applyClaim_none (inTable : k = 0 ∨ k - 1 < n.air.claims.length) :
    applyClaim k kind 0 serial n = removeClaim k (n.noted k serial) := by
  unfold applyClaim
  rw [mapEntry_noted inTable]
  rfl

theorem applyClaim_fills (inTable : k = 0 ∨ k - 1 < n.air.claims.length) (some_ : level ≠ 0)
    (claim : (n.air.entry k).claim = none) :
    applyClaim k kind level serial n = evaluate k (fillEntry k kind level 0 (n.noted k serial)) := by
  unfold applyClaim
  simp only [mapEntry_noted inTable, if_neg some_, noted_claim inTable, claim]

theorem applyClaim_renews (inTable : k = 0 ∨ k - 1 < n.air.claims.length) (some_ : level ≠ 0)
    (claim : (n.air.entry k).claim = some c) :
    applyClaim k kind level serial n = renew k c level (n.noted k serial) := by
  unfold applyClaim
  simp only [mapEntry_noted inTable, if_neg some_, noted_claim inTable, claim]

/-! ## A claim renewed, by its state (R112) -/

/-- The part with the new level and arrival number of a renewed claim. -/
def Node.renewed (n : Node) (k level : Nat) : Node := setLevel k level (newArrival k n)

theorem renew_silent (h : c.state = .silent) : renew k c level n = n.renewed k level := by
  unfold renew; simp only [h]; rfl

theorem renew_waiting (h : c.state = .waiting) :
    renew k c level n = if c.level < level then evaluate k (n.renewed k level) else n.renewed k level := by
  unfold renew; simp only [h]; rfl

theorem renew_holding_lower (h : c.state = .holding) (lower : level < c.level) :
    renew k c level n = select (setClaimState k .waiting (holderOut (n.renewed k level))) := by
  unfold renew; simp only [h, lower, if_true]; rfl

theorem renew_holding (h : c.state = .holding) (le : c.level ≤ level) :
    renew k c level n =
      let m := n.renewed k level
      { m with air := { m.air with holder := { m.air.holder with level := level, arrival := n.air.arrivals } } } := by
  unfold renew; simp only [h, Nat.not_lt.mpr le, if_false]; rfl

theorem renew_stacked_same (h : c.state = .stacked) (same : level = c.level) :
    renew k c level n = setStackArrival k n.air.arrivals (n.renewed k level) := by
  unfold renew; simp only [h, same, if_true]; rfl

theorem renew_stacked (h : c.state = .stacked) (new : level ≠ c.level) :
    renew k c level n =
      let w := setClaimState k .waiting (unstack k (n.renewed k level))
      if c.level < level then evaluate k w else w := by
  unfold renew; simp only [h, new, if_false]; rfl

theorem renew_unreachable (h : c.state = .unreachable) :
    renew k c level n = evaluate k (setClaimState k .waiting (n.renewed k level)) := by
  unfold renew; simp only [h]; rfl


/-- A renewed claim takes its level and the next arrival number. -/
theorem renewed_withEntry (n : Node) (k level : Nat) (a : Air) (claim : e.claim = some c) :
    (n.withEntry k e a).renewed k level =
      n.withEntry k { e with claim := some { c with level := level, arrival := a.arrivals } }
        { a with arrivals := a.arrivals + 1 } := by
  unfold Node.renewed setLevel newArrival mapClaim
  rw [nextArrival_withEntry, mapEntry_withEntry, mapEntry_withEntry, withEntry_arrivals, mapClaim_some _ claim]
  rfl

theorem holderRenewed_withEntry (n : Node) (k level : Nat) (a : Air) (e : ClaimEntry) (x : Count32) :
    ({ n.withEntry k e a with
        air :=
          { (n.withEntry k e a).air with
            holder := { (n.withEntry k e a).air.holder with level := level, arrival := x } } } : Node) =
      n.withEntry k e { a with holder := { a.holder with level := level, arrival := x } } := by
  unfold Node.withEntry Air.modifyEntry; split <;> rfl

end

/-! ## A station without LINK hears no claimant and hands nothing over -/

section
variable {n : Node} {k : Nat} {c : Claim}

theorem handOver_noLink (h : n.cfg.roles.link = false) : handOver n = n := by
  unfold handOver; rw [h]; rfl

theorem passOut_noLink (h : n.cfg.roles.link = false) (i : Option Nat) : passOut i n = n := by
  unfold passOut; rw [h]
  cases i <;> rfl

theorem holderOut_noLink (h : n.cfg.roles.link = false) : holderOut n = n := passOut_noLink h _

theorem cannotResume_noLink (h : n.cfg.roles.link = false) (t : StackRecord) : n.cannotResume t = false := by
  unfold Node.cannotResume; rw [h]; rfl

theorem resumeTop_noLink (h : n.cfg.roles.link = false) (t : StackRecord) (rest : List StackRecord) :
    resumeTop t rest n =
      mapAirCounters (fun c => { c with resumptions := satInc c.resumptions })
        (setClaimState t.station .holding
          { n with
            air :=
              { n.air with
                stack := rest,
                holder :=
                  { kind := if t.isOwn then .own else .peer, station := t.station, level := t.level,
                    arrival := t.arrival, alertId := 0, entry := none } } }) := by
  unfold resumeTop
  simp only [h, Bool.false_and, Bool.false_eq_true, if_false]

theorem takeAir_noLink (h : n.cfg.roles.link = false) :
    takeAir k c n = setClaimState k .holding { n with air := { n.air with holder := c.asHolder k none } } := by
  rw [takeAir_eq, h]
  simp only [Bool.false_eq_true, and_false, if_false]

theorem setClaimState_withHolder (j : Nat) (st : ClaimState) (m : Node) (x : Holder) :
    ({ setClaimState j st m with air := { (setClaimState j st m).air with holder := x } } : Node) =
      setClaimState j st { m with air := { m.air with holder := x } } := by
  unfold setClaimState mapClaim mapEntry Air.modifyEntry; split <;> rfl

theorem select_noLink (h : n.cfg.roles.link = false) (judging : n.judging = true) : select n = selectLoop 40 n := by
  rw [select_judging judging, handOver_noLink]
  rw [(selectLoop_reach 40 n).1]
  exact h

theorem evaluate_noLink (h : n.cfg.roles.link = false) (judging : n.judging = true)
    (claim : n.claimIn k .waiting = some c) (above : n.air.holder.level < c.level) :
    evaluate k n =
      mapAirCounters (fun x => { x with preemptions := satInc x.preemptions })
        (setClaimState k .holding
          { pushHolder n with air := { (pushHolder n).air with holder := c.asHolder k none } }) := by
  have pushed : (pushHolder n).cfg.roles.link = false := by rw [(pushHolder_reach n).1]; exact h
  rw [evaluate_above claim judging above (followFor_needless (.inl h)), Option.elim_none, takeAir_noLink pushed,
    handOver_noLink]
  exact pushed

/-- With a holder that is neither a peer's nor the station's own claim, or with none, nothing is pushed. -/
theorem evaluate_takes (h : n.cfg.roles.link = false) (judging : n.judging = true)
    (claim : n.claimIn k .waiting = some c) (above : n.air.holder.level < c.level)
    (kind : n.air.holder.kind = .reserve ∨ n.air.holder.kind = .none ∨ n.air.holder.kind = .alert) :
    evaluate k n =
      mapAirCounters (fun x => { x with preemptions := satInc x.preemptions })
        (setClaimState k .holding { n with air := { n.air with holder := c.asHolder k none } }) := by
  have alone : pushHolder n = n :=
    pushHolder_alone (by rcases kind with h | h | h <;> simp [h]) (by rcases kind with h | h | h <;> simp [h])
  rw [evaluate_noLink h judging claim above, alone]

/-- A peer's or the station's own claim that holds the air is pushed onto the stack. -/
theorem evaluate_pushes (h : n.cfg.roles.link = false) (judging : n.judging = true)
    (claim : n.claimIn k .waiting = some c) (above : n.air.holder.level < c.level)
    (kind : n.air.holder.kind = .peer ∨ n.air.holder.kind = .own) :
    evaluate k n =
      mapAirCounters (fun x => { x with preemptions := satInc x.preemptions })
        (setClaimState k .holding
          (setClaimState n.air.holder.station .stacked
            { n.stacking with air := { n.stacking.air with holder := c.asHolder k none } })) := by
  rw [evaluate_noLink h judging claim above, pushHolder_stacked kind, passOut_noLink (n := n.stacking) h,
    setClaimState_withHolder]

end

/-- Settles O36: the evaluation, selection, renewal and removal of claims at a station without LINK, state by state, and
a claim heard at any station, by its source and its serial. -/
theorem claimsPreemptAndResume : Obligations.ClaimsPreemptAndResume := by
  unfold Obligations.ClaimsPreemptAndResume
  refine ⟨?_, fun n k level serial => ⟨claimHeard_absent, fun present => ⟨claimHeard_first present, fun last heard =>
    ⟨claimHeard_repeated present heard, claimHeard_newer present heard, claimHeard_stale present heard⟩⟩⟩⟩
  intro n k noLink judging a h entry setState filled
  have counted {f : AirCounters → AirCounters} {m : Node} (same : m.air.counters = a.counters) :
      mapAirCounters f m = { m with air := { m.air with counters := f a.counters } } := mapAirCounters_of same
  have selects : select n = selectLoop 40 n := select_noLink noLink judging
  refine ⟨fun c claim waiting => ?_, fun stack best => ?_, fun j c best below => ?_, fun t rest stack best => ?_, ?_⟩
  · have waits := Node.claimIn_of claim waiting
    refine ⟨evaluate_notAbove waits, fun above kind => ?_, fun above kind => ?_⟩
    · rw [evaluate_takes noLink judging waits above kind]
      exact counted (Air.modifyEntry_counters _ _ _)
    · rw [evaluate_pushes noLink judging waits above kind]
      exact counted ((Air.modifyEntry_counters _ _ _).trans (Air.modifyEntry_counters _ _ _))
  · rw [selects, selectLoop_fallBack stack best]
    rfl
  · rw [selects, selectLoop_waiting best
      (fun t rest stack => ⟨cannotResume_noLink noLink t, below t rest stack⟩) (followFor_needless (.inl noLink)),
      Option.elim_none, takeWaiting, takeAir_noLink noLink]
    exact counted (Air.modifyEntry_counters _ _ _)
  · rw [selects, selectLoop_resume stack (cannotResume_noLink noLink t) best, resumeTop_noLink noLink]
    exact counted (Air.modifyEntry_counters _ _ _)
  · intro c kind level serial x noted withEntry next renewed waiting emptied inTable
    have nonePassed {e : ClaimEntry} {b : Air} : holderOut (withEntry e b) = withEntry e b := holderOut_noLink noLink
    refine ⟨fun empty => ?_, fun claim alone => ?_, fun some_ => ⟨fun empty => ?_, fun claim => ?_⟩⟩
    · rw [applyClaim_none inTable, removeClaim_none ((noted_claim inTable).trans empty)]
      rfl
    · have held : ((n.noted k serial).air.entry k).claim = some c := (noted_claim inTable).trans claim
      have unheard : ((n.noted k serial).air.entry k).listen = none := by rw [noted_entry inTable]; exact alone
      have leaves (b : Air) : emptyEntry k (withEntry noted b) = withEntry emptied b :=
        (emptyEntry_withEntry n k b noted).trans
          (congrArg (fun l => withEntry { emptied with listen := l } b) alone.symm)
      rw [applyClaim_none inTable]
      refine ⟨fun aside => ?_, fun stacked => ?_, fun holding => ?_⟩
      · rw [removeClaim_aside held aside, dropListen_none unheard]
        exact leaves a
      · rw [removeClaim_stacked held stacked, dropListen_none (n := unstack k (n.noted k serial)) unheard]
        exact (congrArg (emptyEntry k) (unstack_withEntry n k a noted)).trans (leaves _)
      · rw [removeClaim_holding held holding]
        exact congrArg select ((congrArg (emptyEntry k) nonePassed).trans (leaves a))
    · rw [applyClaim_fills inTable some_ empty]
      exact congrArg (evaluate k) (fillEntry_withEntry n k a noted kind level 0)
    · rw [applyClaim_renews inTable some_ claim]
      have renewal {st : ClaimState} (state : c.state = st) :
          (n.noted k serial).renewed k level = withEntry (renewed st) next :=
        state ▸ renewed_withEntry n k level a claim
      have again (st : ClaimState) (b : Air) :
          setClaimState k .waiting (withEntry (renewed st) b) = withEntry waiting b :=
        setClaimState_withEntry n k b (renewed st) .waiting
      refine ⟨fun silent => ?_, fun waits le => ?_, fun waits raised => ?_, fun holding le => ?_,
        fun holding lower => ?_, fun stacked same => ?_, fun stacked new => ?_, fun unreachable => ?_⟩
      · exact (renew_silent silent).trans (renewal silent)
      · rw [renew_waiting waits, if_neg (Nat.not_lt.mpr le), renewal waits]
      · rw [renew_waiting waits, if_pos raised, renewal waits]
      · rw [renew_holding holding le, renewal holding, noted_arrivals]
        exact holderRenewed_withEntry n k level next (renewed .holding) x
      · rw [renew_holding_lower holding lower, renewal holding, nonePassed, again]
      · rw [renew_stacked_same stacked same, renewal stacked, noted_arrivals]
        exact setStackArrival_withEntry n k next (renewed .stacked) x
      · rw [renew_stacked stacked new, renewal stacked]
        have m : unstack k (withEntry (renewed .stacked) next) = _ := unstack_withEntry n k next (renewed .stacked)
        rw [m]
        exact congrArg (fun w => if c.level < level then evaluate k w else w) (again .stacked _)
      · rw [renew_unreachable unreachable, renewal unreachable, again]

end Sys2Proof.Machine
end

section
/-! PROOFS. The outgoing set at a boundary (section 6.3, R117). -/

namespace Sys2Proof.Machine

/-- The claim of a station whose member leaves the set is STACKED, SILENT or WAITING, and keeps its listen entry. -/
def Node.keepsListen (n : Node) (k : Nat) : Prop :=
  ∃ c, (n.air.entry k).claim = some c ∧ (c.state = .stacked ∨ c.state = .silent ∨ c.state = .waiting)

theorem outgoingDue_of {n : Node} (h : ∃ m ∈ n.air.outgoing, m.count = 0) : n.outgoingDue = true := by
  obtain ⟨m, member, zero⟩ := h
  exact List.any_eq_true.mpr ⟨m, member, decide_eq_true zero⟩

section
variable {n : Node} {i : Nat}

theorem memberLeaves_kept (h : n.keepsListen (n.streams.entry i).station) :
    memberLeaves i n =
      mapEntry (n.streams.entry i).station (fun e => { e with listen := some i }) (changePurpose i .watch n) := by
  obtain ⟨c, claim, state⟩ := h
  unfold memberLeaves Node.airEntry
  rcases state with state | state | state <;> simp [claim, state]

theorem memberLeaves_removed (h : ¬ n.keepsListen (n.streams.entry i).station) :
    memberLeaves i n =
      removeListen i (mapEntry (n.streams.entry i).station (fun e => { e with listen := none }) n) := by
  unfold memberLeaves Node.airEntry
  cases claim : (n.air.entry (n.streams.entry i).station).claim with
  | none => simp only [claim, Bool.false_eq_true, if_false]
  | some c =>
    have state : ¬ (c.state = .stacked ∨ c.state = .silent ∨ c.state = .waiting) := fun state => h ⟨c, claim, state⟩
    obtain ⟨notStacked, notSilent, notWaiting⟩ : c.state ≠ .stacked ∧ c.state ≠ .silent ∧ c.state ≠ .waiting := by
      simpa only [not_or] using state
    simp [claim, notStacked, notSilent, notWaiting]

end

/-- Settles O37: a member that leaves, and the row at its place. -/
theorem outgoingMembersLeave : Obligations.OutgoingMembersLeave := by
  unfold Obligations.OutgoingMembersLeave
  intro s rest at_ set gone stays watches removed due
  refine ⟨fun n i => ⟨memberLeaves_kept, memberLeaves_removed⟩, ?_⟩
  rw [exec_event (st := .outgoingExpiry) rfl, boundaryRow_atStage at_ (outgoingDue_of due)]
  rfl

end Sys2Proof.Machine
end

section
/-! PROOFS. A station with LINK (sections 6.3 and 6.4, R114 to R118, R124): the FOLLOW entry of a claimant, the claimant
that takes the air or is UNREACHABLE, selection, removal and the hand-over. -/

namespace Sys2Proof.Machine

section
variable {n : Node} {k i : Nat}

/-! ## The FOLLOW entry (R117) -/

theorem Node.airListen_eq (n : Node) (k : Nat) :
    n.airListen k =
      (n.streams.find k 0).filter (fun i => decide ((n.streams.entry i).requester = .airUnit)) := by
  unfold Node.airListen
  cases n.streams.find k 0 <;> simp [Option.filter]

theorem obtainFollow_had (had : n.airListen k = some i) :
    obtainFollow k n =
      (.added i,
        mapEntry k (fun e => { e with listen := some i })
          (changePurpose i .follow
            { n with
              air := { n.air with outgoing := n.air.outgoing.filter (fun m => decide (m.entry ≠ i)) } })) := by
  unfold obtainFollow
  simp only [had]

theorem obtainFollow_added (had : n.airListen k = none) (h : n.streams.addOutcome k 0 = .added i) :
    obtainFollow k n =
      (.added i, mapEntry k (fun e => { e with listen := some i }) (addListen k 0 .follow n).2) := by
  unfold obtainFollow
  simp only [had, addListen_added h]

theorem obtainFollow_refused {why : AddFailure} (had : n.airListen k = none)
    (h : n.streams.addOutcome k 0 = .refused why) : obtainFollow k n = (.refused why, n) := by
  unfold obtainFollow
  simp only [had, addListen_refused h]

/-- A FOLLOW entry obtained or refused leaves the holder record. -/
theorem obtainFollow_holder (k : Nat) (n : Node) : (obtainFollow k n).2.air.holder = n.air.holder := by
  cases had : n.airListen k with
  | some i =>
    rw [obtainFollow_had had, changePurpose_frame]
    simp only [mapEntry_air, Air.modifyEntry_holder]
  | none =>
    cases outcome : n.streams.addOutcome k 0 with
    | added i =>
      rw [obtainFollow_added had outcome, addListen_frame]
      simp only [mapEntry_air, Air.modifyEntry_holder]
    | refused why => rw [obtainFollow_refused had outcome]

/-! ## The outgoing set (R117) -/

theorem Node.outgoingHas_iff (n : Node) (i : Nat) : n.outgoingHas i = true ↔ ∃ m ∈ n.air.outgoing, m.entry = i := by
  simp only [Node.outgoingHas, List.any_eq_true, decide_eq_true_eq]

theorem passOut_member (h : ∃ m ∈ n.air.outgoing, m.entry = i) : passOut (some i) n = n := by
  unfold passOut
  simp only [(n.outgoingHas_iff i).mpr h, Bool.not_true, Bool.and_false, Bool.false_eq_true, if_false]

theorem passOut_new (link : n.cfg.roles.link = true) (h : ¬ ∃ m ∈ n.air.outgoing, m.entry = i) :
    passOut (some i) n =
      { n with air := { n.air with outgoing := n.air.outgoing ++ [{ entry := i, count := 10 }] } } := by
  have new : n.outgoingHas i = false := Bool.eq_false_iff.mpr (mt (n.outgoingHas_iff i).mp h)
  unfold passOut
  simp only [link, new, Bool.not_false, Bool.and_self, if_true]

/-! ## Taking the air (R114) -/

/-- A step within the air unit's reach leaves the configuration. -/
theorem AirReach.cfg {n m : Node} (h : AirReach n m) : m.cfg = n.cfg := by rw [h.1]

/-- A PEER that takes the air at a LINK station is heard through its FOLLOW entry. -/
theorem takeAir_link (c : Claim) (link : n.cfg.roles.link = true) :
    takeAir k c n =
      setClaimState k .holding
        { n with
          air :=
            { n.air with
              holder := c.asHolder k (if c.kind = ClaimKind.peer then (n.air.entry k).listen else none) } } := by
  rw [takeAir_eq]
  simp only [link, and_true]

/-- How a claimant of a LINK station is heard: a PEER by the FOLLOW entry it has obtained, another needs none. -/
def HeardBy (n : Node) (j : Nat) (c : Claim) (x : Node) : Prop :=
  (c.kind = .peer ∧ ∃ i, obtainFollow j n = (.added i, x)) ∨ (c.kind ≠ .peer ∧ x = n)

section
variable {j : Nat} {c : Claim} {x : Node}

theorem followFor_heard (link : n.cfg.roles.link = true) (heard : HeardBy n j c x) : followFor j c n = (none, x) := by
  rcases heard with ⟨peer, i, added⟩ | ⟨notPeer, same⟩
  · exact followFor_added link peer added
  · rw [same]; exact followFor_needless (.inr notPeer)

theorem HeardBy.reach (heard : HeardBy n j c x) : AirReach n x ∧ x.air.holder = n.air.holder := by
  rcases heard with ⟨_, i, added⟩ | ⟨_, same⟩
  · have reach := obtainFollow_reach j n
    have holder := obtainFollow_holder j n
    rw [added] at reach holder
    exact ⟨reach, holder⟩
  · rw [same]; exact ⟨.refl n, rfl⟩

end

/-! ## Selection (R116) -/

/-- The top of the stack is a PEER whose slot has ended. -/
def Node.topEnded (n : Node) (top : StackRecord) : Prop :=
  top.isOwn = false ∧ ∃ i, (n.air.entry top.station).listen = some i ∧ (n.streams.slot i).state = .ended

theorem cannotResume_iff {top : StackRecord} (link : n.cfg.roles.link = true) :
    n.cannotResume top = true ↔ n.topEnded top := by
  unfold Node.cannotResume Node.topEnded Node.airEntry
  cases (n.air.entry top.station).listen <;> simp [link]

theorem cannotResume_false {top : StackRecord} (link : n.cfg.roles.link = true) (h : ¬ n.topEnded top) :
    n.cannotResume top = false :=
  Bool.eq_false_iff.mpr (mt (cannotResume_iff link).mp h)

theorem resumeTop_link (link : n.cfg.roles.link = true) (top : StackRecord) (rest : List StackRecord) :
    resumeTop top rest n =
      let popped : Node := { n with air := { n.air with stack := rest } }
      let x := if top.isOwn = true then popped else (obtainFollow top.station popped).2
      let h : Holder :=
        { kind := if top.isOwn = true then .own else .peer, station := top.station, level := top.level,
          arrival := top.arrival, alertId := 0,
          entry := if top.isOwn = true then none else (x.air.entry top.station).listen }
      mapAirCounters (fun c => { c with resumptions := satInc c.resumptions })
        (setClaimState top.station .holding { x with air := { x.air with holder := h } }) := by
  unfold resumeTop Node.airEntry
  cases top.isOwn <;> simp only [link] <;> rfl

/-! ## A claim retried (R118) -/

theorem retryUnreachable_eq {c : Claim} (h : n.claimIn k .unreachable = some c) :
    retryUnreachable k n = evaluate k (setClaimState k .waiting n) := by
  unfold retryUnreachable; rw [h]

end

/-- Settles O38: the FOLLOW entry, the outgoing set, the evaluation of a claim, selection round by round, the retry, the
removal by state, an absence and the level NONE, and the hand-over. -/
theorem linkStationFollows : Obligations.LinkStationFollows := by
  unfold Obligations.LinkStationFollows
  intro n k link a t had listens count setState unheard heard takes pushed ended member
  have taken (j : Nat) (c : Claim) {x : Node} (same : x.cfg = n.cfg) : takeAir j c x = takes j c x :=
    takeAir_link c (same ▸ link)
  have pushes (x : Node) : pushHolder x = pushed x := by
    by_cases h : x.air.holder.kind = .peer ∨ x.air.holder.kind = .own
    · exact (pushHolder_stacked h).trans (if_pos h).symm
    · exact (pushHolder_alone (fun peer => h (.inl peer)) (fun own => h (.inr own))).trans (if_neg h).symm
  have sounds {top : StackRecord} (h : ¬ ended top) : n.cannotResume top = false := cannotResume_false link h
  refine ⟨fun i h => ?_, fun none_ => ⟨fun i added => ?_, fun why refused => ?_⟩,
    fun i => ⟨passOut_member, passOut_new link⟩, fun c claim waiting judging => ?_, rfl, fun round => ⟨?_, ?_, ?_⟩,
    fun c claim unreachable => ?_, fun c claim => ?_, fun serial => ⟨rfl, fun present last => ?_⟩, ?_⟩
  · exact obtainFollow_had ((n.airListen_eq k).trans h)
  · exact obtainFollow_added ((n.airListen_eq k).trans none_) added
  · exact obtainFollow_refused ((n.airListen_eq k).trans none_) refused
  · have waits := Node.claimIn_of claim waiting
    refine ⟨evaluate_notAbove waits, fun above => ⟨fun why x peer refused => ?_, fun x h => ?_⟩⟩
    · exact evaluate_above waits judging above (followFor_refused link peer refused)
    · obtain ⟨reach, holder⟩ := HeardBy.reach h
      refine ⟨holder, (evaluate_above waits judging above (followFor_heard link h)).trans ?_⟩
      rw [Option.elim_none, taken k c ((pushHolder_reach x).cfg.trans reach.cfg), pushes]
      rfl
  · refine fun top rest stack => ⟨fun isEnded => ?_, fun lasts best => ?_⟩
    · exact selectLoop_discard stack ((cannotResume_iff link).mpr isEnded)
    · rw [selectLoop_resume stack (sounds lasts) best]
      exact resumeTop_link link top rest
  · refine fun j c best above => ⟨fun why x peer refused => ?_, fun x h => ?_⟩
    all_goals
      have below (top : StackRecord) (rest : List StackRecord) (stack : n.air.stack = top :: rest) :
          n.cannotResume top = false ∧ top.level < c.level :=
        (above top rest stack).imp_left sounds
    · exact selectLoop_waiting best below (followFor_refused link peer refused)
    · rw [selectLoop_waiting best below (followFor_heard link h), Option.elim_none, takeWaiting,
        taken j c (HeardBy.reach h).1.cfg]
      rfl
  · exact fun stack best => selectLoop_fallBack stack best
  · exact retryUnreachable_eq (Node.claimIn_of claim unreachable)
  · intro left dropped
    have drops (x : Node) : dropListen k x = dropped x := by
      cases held : (x.air.entry k).listen with
      | none => simp only [dropped, held, dropListen_none held]
      | some i => simp only [dropped, held, dropListen_some held]; rfl
    rw [← drops, ← drops]
    exact ⟨removeClaim_aside claim, removeClaim_stacked claim, removeClaim_holding claim⟩
  · have next : (serial + 1 - serial).toNat = 1 := by rw [BitVec.add_comm, BitVec.add_sub_cancel]; rfl
    refine ⟨claimHeard_repeated present last (by rw [BitVec.sub_self]; rfl), ?_⟩
    exact claimHeard_newer present last (Nat.le_of_eq next.symm) (by rw [next]; decide)
  · intro src
    have source : n.air.holder.source = src := by
      cases kind : n.air.holder.kind <;> simp only [Holder.source, src, a, kind]
    rw [← source]
    exact if_pos link

end Sys2Proof.Machine
end

section
/-! PROOFS. Silence, slot endings and recovery (section 6.4, R119 to R121). -/

namespace Sys2Proof.Machine

section
variable {n : Node}

/-! ## The holder marked SILENT (R119, R120) -/

theorem markHolderSilent_held (h : n.air.holder.kind = .peer ∨ n.air.holder.kind = .own) :
    markHolderSilent n =
      refreshStanding
        (select
          (mapAirCounters (fun c => { c with silenceMarkings := satInc c.silenceMarkings })
            (setClaimState n.air.holder.station .silent (holderOut n)))) :=
  if_pos h

theorem airSlotEnded_holder {r : SlotReport} (link : n.cfg.roles.link = true) (peer : n.air.holder.kind = .peer)
    (entry : n.air.holder.entry = some r.entry) : airSlotEnded r n = markHolderSilent n := by
  unfold airSlotEnded
  simp only [link, peer, entry, decide_true, Bool.and_self, if_true]

theorem airSlotEnded_other {r : SlotReport} (h : n.air.holder.kind ≠ .peer ∨ n.air.holder.entry ≠ some r.entry) :
    airSlotEnded r n = n := by
  refine if_neg ?_
  rcases h with h | h <;> simp [h]

/-! ## The recovery of a SILENT entry (R121) -/

theorem recover_silent {k : Nat} {c : Claim} (h : n.claimIn k .silent = some c) :
    recover k n =
      refreshStanding
        (evaluate k
          (mapAirCounters (fun c => { c with recoveries := satInc c.recoveries }) (setClaimState k .waiting n))) := by
  unfold recover; rw [h]

theorem sourceChange_cfg (n : Node) : (sourceChange n).cfg = n.cfg := by rw [sourceChange_frame]

/-- A hand-over that waits is taken first, and then the holder input point closes (R119, R170). -/
theorem closeHolder_eq :
    closeHolder n =
      let m := sourceChange n
      let r := m.meters.holderInput.finish n.cfg
      let closed : Node := { m with meters := { m.meters with holderInput := r.point } }
      if r.report = some true then markHolderSilent closed else closed := by
  unfold closeHolder
  simp only [sourceChange_cfg]

/-- A slot's point closes, and a window that sounds lets the claim of the slot's station recover (R121). -/
theorem closeSlot_eq (i : Nat) :
    closeSlot i n =
      let r := (n.meters.slots.getD i .reset).finish n.cfg
      let m : Node := { n with meters := { n.meters with slots := n.meters.slots.set i r.point } }
      let k := (n.streams.entry i).station
      if r.sounding = true ∧ (n.air.entry k).listen = some i ∧ (n.streams.slot i).state ≠ .ended then recover k m
      else m := by
  unfold closeSlot Node.airEntry
  simp only [Bool.and_eq_true, decide_eq_true_eq, and_assoc]

end

/-- Settles O39: the marking of a silent holder with its two causes, the recovery of an entry, and the closing windows
that bring it. -/
theorem silenceAndRecovery : Obligations.SilenceAndRecovery := by
  unfold Obligations.SilenceAndRecovery
  refine ⟨fun n => ⟨markHolderSilent_held, markHolderSilent_noHolder, closeHolder_eq, fun r =>
      ⟨airSlotEnded_holder, airSlotEnded_other⟩⟩,
    fun n k => ⟨fun c claim silent => recover_silent (Node.claimIn_of claim silent), fun h =>
      recover_noneSilent (Node.claimIn_none_of h)⟩, fun n => ⟨?_, rfl, fun i => closeSlot_eq i⟩⟩
  exact MeterPoint.finish_sounding.trans (by simp only [MeterPoint.windowSilent, decide_eq_false_iff_not])

end Sys2Proof.Machine
end

section
/-! PROOFS. The standing and its indications (section 6.6, R125, R126). -/

namespace Sys2Proof.Machine

section
variable {n : Node}

/-! ## What the two views read -/

theorem Node.usesOwnView_iff : n.usesOwnView = true ↔ n.cfg.roles.link = true ∨ n.bus.linkStation = none := by
  simp only [Node.usesOwnView, Bool.or_eq_true, Option.isNone_iff_eq_none]

theorem Node.announced_eq :
    n.announced =
      match n.bus.linkStation with
      | some k => (n.bus.entry k).link
      | none => none := by
  unfold Node.announced Bus.linkEntry
  cases n.bus.linkStation <;> rfl

theorem Node.ownWaiting_iff :
    n.ownWaiting = true ↔
      ∃ c, (n.air.claims.getD (n.cfg.number - 1) .empty).claim = some c ∧ c.state = .waiting := by
  unfold Node.ownWaiting
  cases (n.air.claims.getD (n.cfg.number - 1) .empty).claim <;> simp

/-! ## The standing in each view (R125) -/

/-- The station holds the air, in the view in use. -/
def Node.Holds (n : Node) : Prop :=
  (n.usesOwnView = true ∧ n.air.holder.kind = .own) ∨
    (n.usesOwnView = false ∧ n.air.ownLevel ≠ 0 ∧ ∃ l, n.announced = some l ∧ l.holder = .station n.cfg.number)

/-- An announced holder that is another station or an alert. -/
def Announced.Another (number : Nat) (x : Announced) : Prop :=
  (∃ k, x = .station k ∧ k ≠ number) ∨ ∃ i, x = .alert i

/-- Another holds the air above the station's own claim, in the view in use. -/
def Node.IsPreempted (n : Node) : Prop :=
  n.air.ownLevel ≠ 0 ∧
    ((n.usesOwnView = true ∧ (n.air.holder.kind = .peer ∨ n.air.holder.kind = .alert) ∧
        n.air.ownLevel < n.air.holder.level) ∨
      (n.usesOwnView = false ∧
        ∃ l, n.announced = some l ∧ l.holder.Another n.cfg.number ∧ n.air.ownLevel < l.level))

/-- The standing by the holder's kind in the own view. -/
theorem standingNow_ownView (view : n.usesOwnView = true) :
    (n.standingNow = .holding ↔ n.air.holder.kind = .own) ∧
      (n.standingNow = .preempted ↔
        n.air.ownLevel ≠ 0 ∧ (n.air.holder.kind = .peer ∨ n.air.holder.kind = .alert) ∧
          n.air.ownLevel < n.air.holder.level) := by
  unfold Node.standingNow
  simp only [view, if_true]
  cases n.air.holder.kind with
  | none | reserve | own => simp
  | peer | alert => by_cases below : n.air.ownLevel ≠ 0 ∧ n.air.ownLevel < n.air.holder.level <;> simp [below]

/-- The standing by the announced holder in the link view. -/
theorem standingNow_linkView {l : RollLink} (view : n.usesOwnView = false) (link : n.announced = some l) :
    (n.standingNow = .holding ↔ n.air.ownLevel ≠ 0 ∧ l.holder = .station n.cfg.number) ∧
      (n.standingNow = .preempted ↔
        n.air.ownLevel ≠ 0 ∧ l.holder.Another n.cfg.number ∧ n.air.ownLevel < l.level) := by
  unfold Node.standingNow Announced.Another
  simp only [view, Bool.false_eq_true, if_false, link]
  by_cases noClaim : n.air.ownLevel = 0
  · simp [noClaim]
  · by_cases below : n.air.ownLevel < l.level
    all_goals
      cases l.holder with
      | station k => by_cases self : k = n.cfg.number <;> simp [noClaim, self, below]
      | alert i => simp [noClaim, below]
      | reserve | silence => simp [noClaim]

theorem standingNow_notAnnounced (view : n.usesOwnView = false) (link : n.announced = none) :
    n.standingNow = .offAir := by
  unfold Node.standingNow
  simp only [view, Bool.false_eq_true, if_false, link]

theorem standingNow_iff :
    (n.standingNow = .holding ↔ n.Holds) ∧ (n.standingNow = .preempted ↔ n.IsPreempted) := by
  unfold Node.Holds Node.IsPreempted
  cases view : n.usesOwnView with
  | true =>
    obtain ⟨holds, preempted⟩ := standingNow_ownView view
    simp only [holds, preempted, true_and, Bool.true_eq_false, false_and, or_false, and_self]
  | false =>
    cases link : n.announced with
    | none => simp [standingNow_notAnnounced view link]
    | some l =>
      obtain ⟨holds, preempted⟩ := standingNow_linkView view link
      simp [holds, preempted]

theorem standingNow_offAir (holds : ¬ n.Holds) (preempted : ¬ n.IsPreempted) : n.standingNow = .offAir := by
  cases now : n.standingNow with
  | holding => exact absurd (standingNow_iff.1.mp now) holds
  | preempted => exact absurd (standingNow_iff.2.mp now) preempted
  | offAir => rfl

/-! ## The two indications (R126) -/

theorem waitingNow_iff :
    n.waitingNow = true ↔
      (n.usesOwnView = true ∧ n.ownWaiting = true) ∨
        (n.usesOwnView = false ∧ n.air.ownLevel ≠ 0 ∧ n.standingNow = .offAir) := by
  unfold Node.waitingNow
  cases n.usesOwnView <;> simp

theorem alertOnAirNow_iff :
    n.alertOnAirNow = true ↔
      (n.usesOwnView = true ∧ n.air.holder.kind = .alert) ∨
        (n.usesOwnView = false ∧ ∃ l i, n.announced = some l ∧ l.holder = .alert i) := by
  unfold Node.alertOnAirNow
  cases n.usesOwnView with
  | true => simp
  | false =>
    cases n.announced with
    | none => simp
    | some l =>
      obtain ⟨holder, level, lost⟩ := l
      cases holder <;> simp

end

/-- Settles O40: the standing in the two views, its indications, its report, and where they are worked out. -/
theorem standingFollows : Obligations.StandingFollows := by
  unfold Obligations.StandingFollows
  intro n own h ownView link another holding preempted m waits
  have view : n.usesOwnView = true ↔ ownView := Node.usesOwnView_iff
  have noView : n.usesOwnView = false ↔ ¬ ownView := by rw [← view, Bool.not_eq_true]
  have announced : n.announced = link := Node.announced_eq
  have holds : n.Holds ↔ holding := by unfold Node.Holds; rw [view, noView, announced]
  have isPreempted : n.IsPreempted ↔ preempted := by unfold Node.IsPreempted; rw [view, noView, announced]; rfl
  refine ⟨fun h => standingNow_iff.1.mpr (holds.mpr h), fun h => standingNow_iff.2.mpr (isPreempted.mpr h),
    fun h1 h2 => standingNow_offAir (mt holds.mp h1) (mt isPreempted.mp h2), view, ?_, ?_, fun same => if_pos same,
    fun change => if_neg change, rfl, fun s => rfl, fun mem st due => runStage_due due⟩
  · exact waitingNow_iff.trans (by rw [view, noView, Node.ownWaiting_iff]; rfl)
  · exact alertOnAirNow_iff.trans (by rw [view, noView, announced])

end Sys2Proof.Machine
end

section
/-! PROOFS. The alert line (section 8.2, R150 to R152): the 14 bytes of a record, a complete record, and one character
in every case. -/

namespace Sys2Proof.Machine

/-! ## The 14 bytes of a record (section 8.1) -/

theorem alertFormGood_iff (p : List Byte) :
    alertFormGood p = true ↔ (byteAt p 0 = 1 ∨ byteAt p 0 = 2) ∧ 1 ≤ byteAt p 3 ∧ byteAt p 3 ≤ 4 := by
  simp only [alertFormGood, Bool.and_eq_true, Bool.or_eq_true, decide_eq_true_eq, and_assoc]

/-- The clamping of R151, in one expression. -/
theorem clamped_eq (k : Nat) {most : Nat} (h : 1 ≤ most) :
    (if k = 0 then 1 else min k most) = max 1 (min k most) := by
  split <;> omega

theorem clampAlert_ofBytes (p : List Byte) :
    clampAlert (alertOfBytes p) =
      { start := decide (byteAt p 0 = 1), id := fieldAt p 1 2, cls := byteAt p 3, area := fieldAt p 4 2,
        code := fieldAt p 6 2, complement := fieldAt p 8 2, duration := max 1 (min (fieldAt p 10 2) 600),
        clip := byteAt p 12, repeats := max 1 (min (byteAt p 13) 3) } := by
  rw [← clamped_eq (fieldAt p 10 2) (by decide), ← clamped_eq (byteAt p 13) (by decide)]
  rfl

/-- A byte after the sync character of a line record, among the 14 of the alert record. -/
theorem byteAt_lineFields (bs : List Byte) {i : Nat} (h : i < 14) :
    byteAt ((bs.drop 1).take 14) i = byteAt bs (1 + i) := by
  simp only [byteAt, List.getD_eq_getElem?_getD, List.getElem?_take_of_lt h, List.getElem?_drop]

theorem fieldAt_lineFields (bs : List Byte) {i w : Nat} (h : i + w ≤ 14) :
    fieldAt ((bs.drop 1).take 14) i w = fieldAt bs (1 + i) w := by
  rw [fieldAt_take h, fieldAt_drop]

/-- The alert record of a line record (R151). -/
theorem clampAlert_lineFields (bs : List Byte) :
    clampAlert (alertOfBytes ((bs.drop 1).take 14)) =
      { start := decide (byteAt bs 1 = 1), id := fieldAt bs 2 2, cls := byteAt bs 4, area := fieldAt bs 5 2,
        code := fieldAt bs 7 2, complement := fieldAt bs 9 2,
        duration := max 1 (min (fieldAt bs 11 2) 600), clip := byteAt bs 13,
        repeats := max 1 (min (byteAt bs 14) 3) } := by
  rw [clampAlert_ofBytes]
  simp (disch := decide) only [byteAt_lineFields, fieldAt_lineFields]

theorem lineFields_formGood_iff (bs : List Byte) :
    alertFormGood ((bs.drop 1).take 14) = true ↔
      (byteAt bs 1 = 1 ∨ byteAt bs 1 = 2) ∧ 1 ≤ byteAt bs 4 ∧ byteAt bs 4 ≤ 4 := by
  rw [alertFormGood_iff]
  simp (disch := decide) only [byteAt_lineFields]

section
variable {n : Node} {bs : List Byte} {b : Byte}

/-! ## A complete record (R151, R152) -/

theorem judgeLine_badCrc (crc : crcBytes (bs.take 15) ≠ bs.drop 15) :
    judgeLine bs n = mapAlertCounters (fun c => { c with lineCrc := satInc c.lineCrc }) n := if_pos crc

theorem judgeLine_badForm (crc : crcBytes (bs.take 15) = bs.drop 15)
    (form : ¬ alertFormGood ((bs.drop 1).take 14) = true) :
    judgeLine bs n = mapAlertCounters (fun c => { c with lineFormat := satInc c.lineFormat }) n :=
  (if_neg (not_not_intro crc)).trans (if_neg form)

theorem judgeLine_good (crc : crcBytes (bs.take 15) = bs.drop 15)
    (form : alertFormGood ((bs.drop 1).take 14) = true) :
    judgeLine bs n =
      relayRecord (clampAlert (alertOfBytes ((bs.drop 1).take 14)))
        (mapAlertCounters (fun c => { c with good := satInc c.good }) n) :=
  (if_neg (not_not_intro crc)).trans (if_pos form)

/-! ## One character (R150) -/

theorem Node.hearsAlertLine_iff : n.hearsAlertLine = true ↔ n.onBus = true ∧ n.cfg.roles.alert = true := by
  simp only [Node.hearsAlertLine, Bool.and_eq_true]

theorem alertByte_deaf (deaf : ¬ n.hearsAlertLine = true) (stopBit : Bool) : alertByte b stopBit n = n := by
  unfold alertByte
  rw [if_pos (by simp [deaf])]

theorem alertByte_hunting (hears : n.hearsAlertLine = true) (hunts : n.alert.gathered = []) (stopBit : Bool) :
    alertByte b stopBit n =
      if b = 0x96 then { n with alert := { n.alert with gathered := [b], gap := 0 } }
      else mapAlertCounters (fun c => { c with skipped := satInc c.skipped }) n := by
  unfold alertByte
  rw [hears, hunts]
  rfl

theorem alertByte_badStop (hears : n.hearsAlertLine = true) (gathers : n.alert.gathered ≠ []) :
    alertByte b false n = abandonRecord n := by
  obtain ⟨first, rest, gathered⟩ := List.exists_cons_of_ne_nil gathers
  unfold alertByte
  rw [hears, gathered]
  rfl

theorem alertByte_gathering (hears : n.hearsAlertLine = true) (gathers : n.alert.gathered ≠ []) :
    alertByte b true n =
      if (n.alert.gathered ++ [b]).length = 19 then judgeLine (n.alert.gathered ++ [b]) (stopGathering n)
      else { n with alert := { n.alert with gathered := n.alert.gathered ++ [b], gap := 0 } } := by
  obtain ⟨first, rest, gathered⟩ := List.exists_cons_of_ne_nil gathers
  unfold alertByte
  rw [hears, gathered]
  rfl

end

/-- Settles O45: a character that is not heard, while hunting, with a bad stop bit, and while gathering; and the
record that it completes. -/
theorem alertLineHeard : Obligations.AlertLineHeard := by
  unfold Obligations.AlertLineHeard
  refine ⟨?_, fun s quiet => ⟨fun b stopBit => congrArg _ (onNode_quiet quiet _),
    fun bytes => congrArg _ (onNode_quiet quiet _)⟩⟩
  intro n b stopBit a inc heard with_ works bs goodForm
  have hears : n.hearsAlertLine = true ↔ works := Node.hearsAlertLine_iff
  have form : alertFormGood ((bs.drop 1).take 14) = true ↔ goodForm := lineFields_formGood_iff bs
  have whole (h : works) (gathers : a.gathered ≠ []) (stop : stopBit = true) (full : bs.length = 19) :
      heard = judgeLine bs (stopGathering n) := by
    subst stop
    exact (alertByte_gathering (hears.mpr h) gathers).trans (if_pos full)
  refine ⟨fun h => alertByte_deaf (mt hears.mp h) stopBit, fun h hunts other => ?_, fun h hunts sync => ?_,
    fun h gathers stop => ?_, fun h gathers stop short => ?_, fun h gathers stop full =>
    ⟨fun crc => ?_, fun crc bad => ?_, fun crc good => ?_⟩⟩
  · refine ((alertByte_hunting (hears.mpr h) hunts stopBit).trans (if_neg other)).trans ?_
    simp only [with_, ← hunts]
    rfl
  · refine ((alertByte_hunting (hears.mpr h) hunts stopBit).trans (if_pos sync)).trans ?_
    rw [sync]
    rfl
  · subst stop
    exact alertByte_badStop (hears.mpr h) gathers
  · subst stop
    exact (alertByte_gathering (hears.mpr h) gathers).trans (if_neg short)
  · exact (whole h gathers stop full).trans (judgeLine_badCrc crc)
  · exact (whole h gathers stop full).trans (judgeLine_badForm crc (mt form.mp bad))
  · intro r offered relayed
    have relays : heard = if n.cfg.roles.link then judgeAlert r n.cfg.number relayed else relayed := by
      rw [whole h gathers stop full, judgeLine_good crc (form.mpr good), clampAlert_lineFields]
      unfold relayRecord offer
      rw [mapAlertCounters_cfg]
      rfl
    exact ⟨fun link => relays.trans (if_neg (by simp [link])), fun link => relays.trans (if_pos link)⟩

end Sys2Proof.Machine
end

section
/-! PROOFS. The history ring, the change of alert id, and the judgement of a record: its checks, the queue, the
superseding of the active alert, and the matching of an END (sections 8.3, 8.4 and 8.7, R122, R154 to R158, R161 to
R164). -/

namespace Sys2Proof.Machine

/-! ## The history ring (R164) -/

/-- The places read after a write: the new entry first, then the 15 places that were read first before it. -/
theorem readPlaces_after_write {w : Nat} (h : w < 16) :
    ((w + 1) % 16 + 15 - 0) % 16 = w ∧
      ∀ k, k < 15 → ((w + 1) % 16 + 15 - (k + 1)) % 16 = (w + 15 - k) % 16 ∧ (w + 15 - k) % 16 ≠ w := by
  refine ⟨by omega, fun k hk => ⟨?_, by omega⟩⟩
  rcases Nat.lt_or_ge w 15 with low | high
  · rw [Nat.mod_eq_of_lt (show w + 1 < 16 by omega)]
    congr 1
    omega
  · obtain rfl : w = 15 := by omega
    omega

theorem history_writeHistory (r : AlertRecord) (issuer : Nat) (o : AlertOutcome) (f : HistFlags) {n : Node}
    (place : n.alert.writePos < 16) (size : n.alert.ring.length = 16) :
    (writeHistory r issuer o f n).alert.history =
      { id := r.id, cls := r.cls, area := r.area, issuer := issuer, outcome := o, flags := f,
        stamp := n.alert.blockCount } ::
        ((List.range 15).map (fun k => n.alert.ring.getD ((n.alert.writePos + 15 - k) % 16) none)).filterMap id := by
  obtain ⟨newest, older⟩ := readPlaces_after_write place
  unfold AlertUnit.history writeHistory
  dsimp only
  rw [List.range_succ_eq_map, List.map_cons, List.map_map, newest, List.getD_eq_getElem?_getD,
    List.getElem?_set_self (by omega), Option.getD_some, List.filterMap_cons_some (f := id) rfl]
  refine congrArg (fun l => _ :: List.filterMap id l) (List.map_congr_left fun k hk => ?_)
  obtain ⟨same, other⟩ := older k (List.mem_range.mp hk)
  simp only [Function.comp_apply, Nat.succ_eq_add_one, same, List.getD_eq_getElem?_getD,
    List.getElem?_set_ne other.symm]

/-! ## The change of alert id (R122) -/

theorem alertIdChanges_eq (id : Nat) (n : Node) :
    alertIdChanges id n =
      handOver
        { n with
          air :=
            { n.air with
              holder := if n.air.holder.kind = .alert then { n.air.holder with alertId := id } else n.air.holder,
              alertClaim :=
                { n.air.alertClaim with
                  claim := n.air.alertClaim.claim.map (fun c => { c with alertId := id }) } } } := by
  unfold alertIdChanges
  by_cases h : n.air.holder.kind = .alert
  · rw [if_pos h, if_pos h]
    rfl
  · rw [if_neg h, if_neg h]
    rfl

/-! ## The checks of a record (R154 to R156) -/

theorem codeGood_iff {c : Settings} {r : AlertRecord} :
    codeGood c r = true ↔ r.code ^^^ r.complement = 65535 ∧ r.code = c.alertCode := by
  simp only [codeGood, Bool.and_eq_true, decide_eq_true_eq]

theorem areaPasses_iff {c : Settings} {area : Nat} :
    areaPasses c area = true ↔
      area = 65535 ∨ area ∈ c.areaCodes ∨
        (byteAt c.areaHash ((crc32 (beBytes area 2)).toNat % 256 / 8)).testBit
          ((crc32 (beBytes area 2)).toNat % 256 % 8) = true := by
  simp only [areaPasses, areaIndex, bitAt, Bool.or_eq_true, decide_eq_true_eq, List.any_eq_true, exists_eq_right,
    or_assoc]

theorem sameAlert_iff {a b : AlertRecord} : sameAlert a b = true ↔ a.id = b.id ∧ a.cls = b.cls := by
  simp only [sameAlert, Bool.and_eq_true, decide_eq_true_eq]

theorem AlertUnit.knows_iff {a : AlertUnit} {r : AlertRecord} :
    a.knows r = true ↔
      (∃ q ∈ a.queue, sameAlert q.record r = true) ∨
        (∃ x, a.active = some x ∧ sameAlert x.record r = true) ∨
        ∃ e ∈ a.history, e.id = r.id ∧ e.cls = r.cls ∧ e.outcome ≠ .rejected := by
  unfold AlertUnit.knows
  cases active : a.active with
  | none =>
    simp only [Bool.or_eq_true, List.any_eq_true, Bool.and_eq_true, decide_eq_true_eq, Bool.false_eq_true, reduceCtorEq,
      false_and, exists_false, or_assoc, and_assoc]
  | some x =>
    simp only [Bool.or_eq_true, List.any_eq_true, Bool.and_eq_true, decide_eq_true_eq, Option.some.injEq,
      exists_eq_left', or_assoc, and_assoc]

section
variable {n : Node} {r : AlertRecord} {issuer : Nat}

theorem judgeAlert_rejected (code : ¬ codeGood n.cfg r = true) :
    judgeAlert r issuer n =
      mapAlertCounters (fun c => { c with rejected := satInc c.rejected })
        (writeHistory r issuer .rejected { HistFlags.none with endRecord := !r.start } n) :=
  if_pos (by simp [code])

theorem judgeAlert_start (code : codeGood n.cfg r = true) (start : r.start = true) :
    judgeAlert r issuer n = judgeStart r issuer n :=
  (if_neg (by simp [code])).trans (if_pos start)

theorem judgeAlert_end (code : codeGood n.cfg r = true) (end_ : r.start = false) :
    judgeAlert r issuer n = judgeEnd r n :=
  (if_neg (by simp [code])).trans (if_neg (by simp [end_]))

theorem judgeStart_outOfArea (area : ¬ areaPasses n.cfg r.area = true) :
    judgeStart r issuer n = mapAlertCounters (fun c => { c with outOfArea := satInc c.outOfArea }) n :=
  if_pos (by simp [area])

theorem judgeStart_duplicate (area : areaPasses n.cfg r.area = true) (known : n.alert.knows r = true) :
    judgeStart r issuer n = mapAlertCounters (fun c => { c with duplicates := satInc c.duplicates }) n :=
  (if_neg (by simp [area])).trans (if_pos known)

/-- A START in the area and not known: a test alert that is not wanted is only seen, any other is admitted. -/
theorem judgeStart_new (area : areaPasses n.cfg r.area = true) (new : ¬ n.alert.knows r = true) :
    judgeStart r issuer n =
      if r.cls = 1 ∧ n.cfg.testAlerts = false then
        mapAlertCounters (fun c => { c with testsSeen := satInc c.testsSeen })
          (writeHistory r issuer .testSeen HistFlags.none n)
      else admitStart r issuer n :=
  (if_neg (by simp [area])).trans (if_neg new)

/-! ## The queue (R157, R158) -/

/-- A queued alert goes behind those of equal or higher class at the queue's front. -/
theorem queueInsert_eq (q : QueuedAlert) (queue : List QueuedAlert) :
    queueInsert q queue =
      queue.takeWhile (fun x => decide (q.record.cls ≤ x.record.cls)) ++ [q] ++
        queue.dropWhile (fun x => decide (q.record.cls ≤ x.record.cls)) := by
  induction queue with
  | nil => rfl
  | cons x xs ih =>
    by_cases h : q.record.cls ≤ x.record.cls
    · simp [queueInsert, h, ih]
    · simp [queueInsert, h]

theorem enterQueue_eq :
    enterQueue r issuer n =
      let x := (acquireClip r.clip n).1
      mapAlertCounters (fun c => { c with queued := satInc c.queued })
        { x with
          alert :=
            { x.alert with
              queue :=
                x.alert.queue.takeWhile (fun q => decide (r.cls ≤ q.record.cls)) ++
                  [{ record := r, issuer := issuer, hasMessage := (acquireClip r.clip n).2 }] ++
                  x.alert.queue.dropWhile (fun q => decide (r.cls ≤ q.record.cls)) } } := by
  simp only [enterQueue, queueInsert_eq]

theorem evictLowest_eq {low : QueuedAlert} (last : n.alert.queue.getLast? = some low) :
    evictLowest n =
      mapAlertCounters (fun c => { c with evictions := satInc c.evictions })
        (writeHistory low.record low.issuer .dropped HistFlags.none
          (releaseMessage low.hasMessage low.record
            { n with alert := { n.alert with queue := n.alert.queue.dropLast } })) := by
  unfold evictLowest
  rw [last]

theorem queueAlert_room (room : n.alert.queue.length < 4) : queueAlert r issuer n = enterQueue r issuer n :=
  if_pos room

theorem queueAlert_full {low : QueuedAlert} (full : ¬ n.alert.queue.length < 4)
    (last : n.alert.queue.getLast? = some low) :
    queueAlert r issuer n =
      if low.record.cls < r.cls then enterQueue r issuer (evictLowest n)
      else
        mapAlertCounters (fun c => { c with drops := satInc c.drops })
          (writeHistory r issuer .dropped HistFlags.none n) := by
  unfold queueAlert
  rw [if_neg full, last]

/-! ## A START against the active alert (R157, R163) -/

theorem admitStart_queues (notAbove : ∀ x, n.alert.active = some x → r.cls ≤ x.record.cls) :
    admitStart r issuer n = queueAlert r issuer n := by
  unfold admitStart
  cases active : n.alert.active with
  | none => rfl
  | some x => exact if_neg (Nat.not_lt.mpr (notAbove x active))

theorem admitStart_supersedes {x : ActiveAlert} (active : n.alert.active = some x) (above : x.record.cls < r.cls) :
    admitStart r issuer n = supersede x r issuer n := by
  unfold admitStart
  rw [active]
  exact if_pos above

/-- An alert that can be aired takes the place of the active one, whose references are released after its own are
taken. -/
theorem supersede_aired {x : ActiveAlert}
    (audio : (acquireClip r.clip n).2 = true ∨
      (acquireClip (n.cfg.toneClip r.cls) (acquireClip r.clip n).1).2 = true) :
    supersede x r issuer n =
      let msg := acquireClip r.clip n
      let tone := acquireClip (n.cfg.toneClip r.cls) msg.1
      let gone :=
        mapAlertCounters (fun c => { c with superseded := satInc c.superseded })
          (writeHistory x.record x.issuer .superseded
            { HistFlags.none with noTone := x.noTone, noMessage := !x.hasMessage }
            (releaseMessage x.hasMessage x.record (stopPlayerClip tone.1)))
      alertIdChanges r.id
        (countActivation
          { gone with
            alert :=
              { gone.alert with
                active := some (ActiveAlert.start r issuer msg.2 (!tone.2)),
                player :=
                  { gone.alert.player with
                    clip := if tone.2 then some (n.cfg.toneClip r.cls) else none, startNext := true } } }) :=
  if_neg (by rcases audio with h | h <;> simp [h])

theorem supersede_noAudio {x : ActiveAlert} (message : (acquireClip r.clip n).2 = false)
    (tone : (acquireClip (n.cfg.toneClip r.cls) (acquireClip r.clip n).1).2 = false) :
    supersede x r issuer n =
      mapAlertCounters (fun c => { c with notAired := satInc c.notAired })
        (writeHistory r issuer .notAired { HistFlags.none with noAudio := true } n) :=
  if_pos (by simp [message, tone])

/-! ## An END (R161, R162) -/

theorem setEnding_fades {x : ActiveAlert} (h : x.ending = .none) (e : Ending) :
    setEnding x e n =
      { n with
        alert :=
          { n.alert with
            active := some { x with ending := e },
            player := { n.alert.player with fader := n.alert.player.fader.give 0 10 } } } := by
  simp only [setEnding, if_pos h]

/-- An ending after the cap's leaves the fade that runs. -/
theorem setEnding_cap {x : ActiveAlert} (h : x.ending = .cap) (e : Ending) :
    setEnding x e n = { n with alert := { n.alert with active := some { x with ending := e } } } := by
  have running : ¬ x.ending = .none := by simp [h]
  simp only [setEnding, if_neg running]

theorem judgeEnd_active {x : ActiveAlert} (active : n.alert.active = some x) (same : sameAlert x.record r = true) :
    judgeEnd r n =
      if x.ending = .none ∨ x.ending = .cap then setEnding x .byEnd n else endWithoutEffect n := by
  unfold judgeEnd
  rw [active]
  exact if_pos same

theorem judgeEnd_queue (other : ∀ x, n.alert.active = some x → ¬ sameAlert x.record r = true) :
    judgeEnd r n = cancelQueued r n := by
  unfold judgeEnd
  cases active : n.alert.active with
  | none => rfl
  | some x => exact if_neg (other x active)

theorem cancelQueued_none (h : ∀ q ∈ n.alert.queue, ¬ sameAlert q.record r = true) :
    cancelQueued r n = endWithoutEffect n := by
  have found : n.alert.queue.find? (fun q => sameAlert q.record r) = none := List.find?_eq_none.mpr h
  unfold cancelQueued
  rw [found]

/-- The one queued alert that an END matches leaves the queue. -/
theorem cancelQueued_one {before after : List QueuedAlert} {q : QueuedAlert}
    (queue : n.alert.queue = before ++ q :: after) (same : sameAlert q.record r = true)
    (others : ∀ y ∈ before ++ after, ¬ sameAlert y.record r = true) :
    cancelQueued r n =
      mapAlertCounters (fun c => { c with cancelled := satInc c.cancelled })
        (writeHistory q.record q.issuer .cancelled HistFlags.none
          (releaseMessage q.hasMessage q.record
            { n with alert := { n.alert with queue := before ++ after } })) := by
  have none_before : before.find? (fun y => sameAlert y.record r) = none :=
    List.find?_eq_none.mpr fun y hy => others y (List.mem_append_left _ hy)
  have found : n.alert.queue.find? (fun y => sameAlert y.record r) = some q := by
    simp only [queue, List.find?_append, none_before, Option.none_or, List.find?_cons, same]
  have rest : n.alert.queue.filter (fun y => !sameAlert y.record r) = before ++ after := by
    rw [queue, List.filter_append, List.filter_cons_of_neg (by simp [same]), ← List.filter_append]
    exact List.filter_eq_self.mpr fun y hy => by simp [others y hy]
  unfold cancelQueued
  rw [found, rest]

end

/-! ## ALERT and ALERT_END_LOCAL (R153, R162) -/

/-- An ALERT that reaches the station is handed to the alert unit (R8). -/
theorem exec_alert_reached {src dst : Nat} {p : List Byte} {s : State} (h : Reached src dst p.length s) :
    exec (.alert src dst p) s = .next (settle { s with node := alertPacket src p s.node.heard }) :=
  congrArg Host.Outcome.next (onPacket_reached h rfl)

theorem alertPacket_badForm {src : Nat} {p : List Byte} {n : Node} (link : n.cfg.roles.link = true)
    (form : ¬ (p.length = 14 ∧ alertFormGood p = true)) :
    alertPacket src p n = mapAlertCounters (fun c => { c with packetFormat := satInc c.packetFormat }) n :=
  (if_pos link).trans (if_neg form)

theorem alertPacket_good {src : Nat} {p : List Byte} {n : Node} (link : n.cfg.roles.link = true)
    (form : p.length = 14 ∧ alertFormGood p = true) :
    alertPacket src p n =
      mapAlertCounters (fun c => { c with packets := satInc c.packets })
        (judgeAlert (clampAlert (alertOfBytes p)) src n) :=
  (if_pos link).trans (if_pos form)

section
variable {n : Node} {a : List Byte} {x : ActiveAlert}

theorem ownAlertEndLocal_none (active : n.alert.active = none) :
    ownAlertEndLocal a n = .refuse .notFound n := by
  unfold ownAlertEndLocal
  rw [active]

theorem ownAlertEndLocal_otherId (active : n.alert.active = some x) (other : x.record.id ≠ fieldAt a 0 2) :
    ownAlertEndLocal a n = .refuse .notFound n := by
  unfold ownAlertEndLocal
  rw [active]
  exact if_pos other

/-- R162's table: an ending given before leaves the alert as it is. -/
theorem ownAlertEndLocal_active (active : n.alert.active = some x) (named : x.record.id = fieldAt a 0 2) :
    ownAlertEndLocal a n =
      .ok (.alertEnded x.record.id x.record.cls)
        (if x.ending = .none ∨ x.ending = .cap then setEnding x .local_ n else n) := by
  unfold ownAlertEndLocal
  rw [active]
  refine (if_neg (not_not_intro named)).trans ?_
  cases ending : x.ending <;> simp

end

/-- Settles O46: the history ring, the change of alert id, the judgement of a record along its branches, and the two
rows that hand a record or an ending to the alert unit. -/
theorem alertsJudged : Obligations.AlertsJudged := by
  unfold Obligations.AlertsJudged
  refine ⟨fun n r issuer o f => ⟨rfl, history_writeHistory r issuer o f⟩, fun n id => alertIdChanges_eq id n,
    ?_, ?_, ?_⟩
  · intro n r issuer a inc count noFlags same codeOk h areaOk known isTest message enters leaves noEffect
    have code : codeGood n.cfg r = true ↔ codeOk := codeGood_iff
    have area : areaPasses n.cfg r.area = true ↔ areaOk := areaPasses_iff
    have same_iff (x : AlertRecord) : sameAlert x r = true ↔ same x := sameAlert_iff
    have knows : n.alert.knows r = true ↔ known := by
      rw [AlertUnit.knows_iff]
      simp only [same_iff]
      rfl
    have enters_eq (m : Node) : enterQueue r issuer m = enters m := enterQueue_eq
    refine ⟨fun bad => judgeAlert_rejected (mt code.mp bad), fun good start => ?_, fun good end_ => ?_⟩
    · have starts : judgeAlert r issuer n = judgeStart r issuer n := judgeAlert_start (code.mpr good) start
      rw [starts]
      refine ⟨fun out => judgeStart_outOfArea (mt area.mp out),
        fun passes dup => judgeStart_duplicate (area.mpr passes) (knows.mpr dup),
        fun passes new test => (judgeStart_new (area.mpr passes) (mt knows.mp new)).trans (if_pos test),
        fun passes new noTest => ?_⟩
      rw [judgeStart_new (area.mpr passes) (mt knows.mp new), if_neg noTest]
      refine ⟨fun notAbove => ?_, fun x active above => ?_⟩
      · rw [admitStart_queues notAbove]
        refine ⟨fun room => (queueAlert_room room).trans (enters_eq n), fun low full last =>
          ⟨fun lower => ?_, fun notLower => ?_⟩⟩
        · rw [queueAlert_full full last, if_pos lower, evictLowest_eq last, enters_eq]
          rfl
        · exact (queueAlert_full full last).trans (if_neg (Nat.not_lt.mpr notLower))
      · rw [admitStart_supersedes active above]
        intro toneClip tone
        exact ⟨supersede_noAudio, supersede_aired⟩
    · have ends : judgeAlert r issuer n = judgeEnd r n := judgeAlert_end (code.mpr good) end_
      rw [ends]
      refine ⟨fun x active hs => ?_, fun other => ?_⟩
      · rw [judgeEnd_active active ((same_iff _).mpr hs)]
        refine ⟨fun e => ?_, fun e => ?_, fun e => ?_⟩
        · rw [if_pos (.inl e), setEnding_fades e]
        · rw [if_pos (.inr e), setEnding_cap e]
        · exact if_neg (by rcases e with e | e <;> simp [e])
      · rw [judgeEnd_queue fun x active => mt (same_iff _).mp (other x active)]
        refine ⟨fun no => cancelQueued_none fun q hq => mt (same_iff _).mp (no q hq),
          fun before q after queue hs others => ?_⟩
        exact cancelQueued_one queue ((same_iff _).mpr hs) fun y hy => mt (same_iff _).mp (others y hy)
  · intro s src dst p reached link n inc count good r
    have form : (p.length = 14 ∧ alertFormGood p = true) ↔ good := by rw [alertFormGood_iff]
    have link' : n.cfg.roles.link = true := by rw [heard_cfg]; exact link
    rw [exec_alert_reached reached]
    refine ⟨fun bad => ?_, fun well => ?_⟩
    · rw [alertPacket_badForm link' (mt form.mp bad)]
      rfl
    · rw [alertPacket_good link' (form.mpr well), clampAlert_ofBytes]
      rfl
  · intro s src dst tag a asked link args
    rw [← heard_alert s.node]
    intro n gives ends fader
    have decided {d : Reply} (reply : ownAlertEndLocal a n = d) :
        exec (.alertEndLocal src dst tag a) s = .next (answered src 16 tag d s) :=
      exec_owner (code := 16) rfl (by decide) asked link args reply
    refine ⟨fun active => decided (ownAlertEndLocal_none active), fun x active => ?_⟩
    refine ⟨fun other => decided (ownAlertEndLocal_otherId active other), fun named => ?_⟩
    have reply := ownAlertEndLocal_active active named
    refine ⟨fun e => decided (reply.trans ?_), fun e => decided (reply.trans ?_), fun e =>
      decided (reply.trans ?_)⟩
    · rw [if_neg (by rcases e with e | e <;> simp [e])]
      rfl
    · rw [if_pos (.inr e), setEnding_cap e]
      rfl
    · rw [if_pos (.inl e), setEnding_fades e]
      rfl

end Sys2Proof.Machine
end

section
/-! PROOFS. The alert unit at a boundary: the activation of the queue's heads, the alert player's starts and clips, the
end of the active alert, and what makes each row due (section 8.5, R150, R159, R160, R163). -/

namespace Sys2Proof.Machine

/-! ## The alert player's starts (R160, R163) -/

section
variable {n : Node} {x : ActiveAlert}

/-- The part with the alert player's fader at 16384, or turned from there towards 0 where an ending was given. -/
def Node.faderUp (n : Node) (x : ActiveAlert) : Node :=
  { n with
    alert :=
      { n.alert with
        player :=
          { n.alert.player with
            fader := if x.ending = .none then Ramp.settled 16384 else (Ramp.settled 16384).retarget 0 10 } } }

theorem startActive_tone (tone : x.noTone = false) :
    startActive x n = startTone (n.cfg.toneClip x.record.cls) (n.faderUp x) :=
  if_neg (by simp [tone])

theorem startActive_message (noTone : x.noTone = true) : startActive x n = startMessage x.record (n.faderUp x) :=
  if_pos noTone

theorem alertStartNext_nothing (h : n.alert.active = none ∨ n.alert.player.startNext = false) :
    alertStartNext n = n := by
  unfold alertStartNext
  cases active : n.alert.active with
  | none => rfl
  | some x =>
    have none_left : n.alert.player.startNext = false := h.resolve_left (by simp [active])
    exact if_neg (by simp [none_left])

theorem alertStartNext_starts (active : n.alert.active = some x) (left : n.alert.player.startNext = true) :
    alertStartNext n = startActive x n := by
  unfold alertStartNext
  rw [active]
  exact if_pos left

/-! ## Activation (R159) -/

/-- The part with the head of the queue taken out of it. -/
def Node.withQueue (n : Node) (queue : List QueuedAlert) : Node :=
  { n with alert := { n.alert with queue := queue } }

variable {held : Bool} {q : QueuedAlert} {queue : List QueuedAlert} {tone : Node × Bool}

/-- A head with neither tone nor message is not aired, and the next head follows. -/
theorem activateFrom_notAired (lookup : acquireClip (n.cfg.toneClip q.record.cls) (n.withQueue queue) = tone)
    (noTone : tone.2 = false) (noMessage : q.hasMessage = false) :
    activateFrom held (q :: queue) n =
      activateFrom held queue
        (mapAlertCounters (fun c => { c with notAired := satInc c.notAired })
          (writeHistory q.record q.issuer .notAired
            { HistFlags.none with noTone := true, noMessage := true, noAudio := true } tone.1)) := by
  have silent : (!tone.2 && !q.hasMessage) = true := by rw [noTone, noMessage]; rfl
  subst lookup
  exact if_pos silent

/-- A head with a tone or a message becomes the active alert, with the claim of the one before it or its own. -/
theorem activateFrom_airs (lookup : acquireClip (n.cfg.toneClip q.record.cls) (n.withQueue queue) = tone)
    (audio : tone.2 = true ∨ q.hasMessage = true) :
    activateFrom held (q :: queue) n =
      (let a := ActiveAlert.start q.record q.issuer q.hasMessage (!tone.2)
      let m := countActivation { tone.1 with alert := { tone.1.alert with active := some a } }
      startActive a (if held then alertIdChanges q.record.id m else alertClaims q.record.id m)) := by
  have heard : ¬ (!tone.2 && !q.hasMessage) = true := by rcases audio with h | h <;> simp [h]
  subst lookup
  exact if_neg heard

/-! ## The end of the active alert (R160) -/

theorem ActiveAlert.outcome_eq (x : ActiveAlert) :
    x.outcome = if x.ending = .byEnd ∨ x.ending = .local_ then .endedEarly else .aired := by
  unfold ActiveAlert.outcome
  cases x.ending <;> rfl

theorem countEnding_eq (e : Ending) :
    countEnding e = fun c =>
      if e = .none then { c with aired := satInc c.aired }
      else if e = .cap then { c with capped := satInc c.capped }
      else { c with endedEarly := satInc c.endedEarly } := by
  cases e <;> rfl

theorem completeAlert_active (active : n.alert.active = some x) :
    completeAlert n =
      (let h :=
        mapAlertCounters (countEnding x.ending)
          (writeHistory x.record x.issuer x.outcome x.flags
            (releaseMessage x.hasMessage x.record (stopPlayerClip n)))
      activateFrom true h.alert.queue { h with alert := { h.alert with active := none } }) := by
  unfold completeAlert
  rw [active]
  rfl

/-! ## The clip that is done (R160) -/

theorem alertClipDone_toneThenMessage (active : n.alert.active = some x) (phase : n.alert.player.phase = .tone)
    (message : x.hasMessage = true) :
    alertClipDone n =
      (let m := releaseClip? n.alert.player.clip n
      startMessage x.record
        { m with alert := { m.alert with player := { m.alert.player with clip := none } } }) := by
  simp only [alertClipDone, active, phase, message, if_true]

theorem alertClipDone_toneOnly (active : n.alert.active = some x) (phase : n.alert.player.phase = .tone)
    (message : x.hasMessage = false) : alertClipDone n = playerDone n := by
  simp only [alertClipDone, active, phase, message, Bool.false_eq_true, if_false]

theorem alertClipDone_message (active : n.alert.active = some x) (phase : n.alert.player.phase = .message) :
    alertClipDone n =
      if n.alert.player.repetition < x.record.repeats then
        { n with
          alert :=
            { n.alert with
              player :=
                n.alert.player.startClip .message x.record.clip (n.store.clip x.record.clip).length
                  (n.alert.player.repetition + 1) } }
      else playerDone n := by
  simp only [alertClipDone, active, phase]

/-! ## What makes each row due -/

theorem gapDue_of (hears : n.hearsAlertLine = true) (gathers : n.alert.gathered ≠ []) (gap : 20 ≤ n.alert.gap) :
    n.gapDue = true := by
  simp [Node.gapDue, hears, gathers, gap]

theorem activationDue_of (judging : n.judging = true) (link : n.cfg.roles.link = true)
    (active : n.alert.active = none) (queue : n.alert.queue ≠ []) : n.activationDue = true := by
  simp [Node.activationDue, judging, link, active, queue]

theorem alertClipDue_of (active : n.alert.active = some x) (played : n.alert.player.blocksLeft = 0)
    (phase : n.alert.player.phase = .tone ∨ n.alert.player.phase = .message) : n.alertClipDue = true := by
  have playing : n.alert.player.playing = true := by
    unfold AlertPlayer.playing
    rcases phase with h | h <;> rw [h]
  simp [Node.alertClipDue, active, playing, played]

theorem alertFadeDue_of (active : n.alert.active = some x) (ending : x.ending ≠ .none)
    (faded : n.alert.player.fader.ended = true) : n.alertFadeDue = true := by
  simp [Node.alertFadeDue, active, ending, faded]

theorem alertCapDue_of (active : n.alert.active = some x) (ending : x.ending = .none)
    (cap : x.count = x.capBlock - 10) : n.alertCapDue = true := by
  simp [Node.alertCapDue, active, ending, cap]

theorem alertCap_active (active : n.alert.active = some x) :
    alertCap n =
      { n with
        alert :=
          { n.alert with
            active := some { x with ending := .cap },
            player := { n.alert.player with fader := n.alert.player.fader.retarget 0 10 } } } := by
  unfold alertCap
  rw [active]

end

/-- Settles O47: the activation of the queue's heads, the end of the active alert, the start that a supersession left,
and each of the five rows where its stage is due. -/
theorem alertRowsAtABoundary : Obligations.AlertRowsAtABoundary := by
  unfold Obligations.AlertRowsAtABoundary
  intro inc count noFlags released starts messageStarts done
  refine ⟨fun held n => ⟨rfl, ?_⟩, ?_, ?_, ?_⟩
  · intro q queue m toneClip tone
    refine ⟨fun noTone noMessage => activateFrom_notAired rfl noTone noMessage, ?_⟩
    intro audio a y z unity
    have airs : activateFrom held (q :: queue) n = startActive a z := activateFrom_airs rfl audio
    rw [airs]
    by_cases heard : tone.2 = true
    · have first : a.noTone = false := congrArg not heard
      rw [startActive_tone first, if_pos heard]
      rfl
    · have first : a.noTone = true := congrArg not (eq_false_of_ne_true heard)
      rw [startActive_message first, if_neg heard]
      rfl
  · intro n x active p stopped freed early m
    rw [completeAlert_active active, ActiveAlert.outcome_eq, countEnding_eq]
    rfl
  · intro mem n p next
    refine ⟨alertStartNext_nothing, fun x active left => ?_⟩
    intro fader up
    have begins : next = startActive x n := alertStartNext_starts active left
    rw [begins]
    exact ⟨startActive_tone, startActive_message⟩
  · intro s rest n p gives
    have row {c : Instr} {st : Stage} {m : Node} (hc : eventStage c = some st) (at_ : AtStage st rest s)
        (due : stageDue st n = true) (runs : stageRun st s.mem n = m) : gives c m := by
      show exec c s = _
      rw [exec_event hc, boundaryRow_atStage at_ due, runs]
    refine ⟨fun at_ bus role gathers gap => ?_, fun at_ judging link active queue => ?_,
      fun x at_ active played => ?_, fun x at_ active ending faded => ?_, fun x at_ active ending cap => ?_⟩
    · exact row rfl at_ (gapDue_of (Node.hearsAlertLine_iff.mpr ⟨bus, role⟩) gathers gap) rfl
    · exact row rfl at_ (activationDue_of judging link active queue) rfl
    · have clip {m : Node} (phase : p.phase = .tone ∨ p.phase = .message) (runs : alertClipDone n = m) :
          gives .alertClipDone m := row rfl at_ (alertClipDue_of active played phase) runs
      refine ⟨fun phase message => clip (.inl phase) (alertClipDone_toneThenMessage active phase message),
        fun phase message => clip (.inl phase) (alertClipDone_toneOnly active phase message),
        fun phase again => clip (.inr phase) ?_, fun phase last => clip (.inr phase) ?_⟩
      · exact (alertClipDone_message active phase).trans (if_pos again)
      · exact (alertClipDone_message active phase).trans (if_neg (Nat.not_lt.mpr last))
    · exact row rfl at_ (alertFadeDue_of active ending faded) rfl
    · exact row rfl at_ (alertCapDue_of active ending cap) (alertCap_active active)

end Sys2Proof.Machine
end

section
/-! PROOFS. Transfers to the site (sections 9.4 and 9.5): SITE_CLIP_SEND (R176), the end of a running transfer (R178),
and the return frames that end one (R179). -/

namespace Sys2Proof.Machine

/-! ## SITE_CLIP_SEND (R176) -/

/-- The transfer context as an accepted SITE_CLIP_SEND sets it. -/
def Transfer.started (t : Transfer) (clip siteClip total : Nat) : Transfer :=
  { t with
    phase := .sending, localClip := clip, siteClip := siteClip, serial := t.serial + 1, total := total,
    nextOffset := 0, waitAge := 0, openSent := false }

section
variable {n : Node} {a : List Byte}

theorem ownSiteClipSend_notReady (notReady : (n.store.clip (byteAt a 0)).state ≠ .ready) :
    ownSiteClipSend a n = .refuse .notReady n := by
  simp only [ownSiteClipSend, Store.acquire_notReady notReady]

variable (ready : (n.store.clip (byteAt a 0)).state = .ready)
include ready

theorem ownSiteClipSend_busy (runs : n.link.transfer.phase ≠ .none) : ownSiteClipSend a n = .refuse .busy n := by
  simp only [ownSiteClipSend, Store.acquire_ready ready]
  exact if_pos runs

variable (idle : n.link.transfer.phase = .none)
include idle

theorem ownSiteClipSend_returnLost (lost : n.link.returnLost = true) :
    ownSiteClipSend a n = .refuse .notReady n := by
  simp only [ownSiteClipSend, Store.acquire_ready ready]
  exact (if_neg (not_not_intro idle)).trans (if_pos lost)

theorem ownSiteClipSend_starts (held : n.link.returnLost = false) :
    let e := n.store.clip (byteAt a 0)
    let t := n.link.transfer.started (byteAt a 0) (byteAt a 1) (e.length * e.channels * 3)
    ownSiteClipSend a n =
      .ok (.transferStarted t.serial t.total)
        { n with
          store := n.store.setClip (byteAt a 0) { e with useCount := e.useCount + 1 },
          link :=
            { n.link with
              transfer := t, counters := { n.link.counters with started := satInc n.link.counters.started } } } := by
  simp only [ownSiteClipSend, Store.acquire_ready ready]
  exact (if_neg (not_not_intro idle)).trans (if_neg (by simp [held]))

end

/-- Settles O48: the three refusals in their order, and the transfer that an OK starts. -/
theorem siteClipSendDecided : Obligations.SiteClipSendDecided := by
  intro s src dst tag a asked link args
  rw [← heard_store s.node, ← heard_link s.node]
  intro n clip e l gives
  have given {r : Reply} (reply : ownSiteClipSend a n = r) : gives r.result r.data r.node :=
    exec_owner (c := .siteClipSend src dst tag a) rfl (by decide) asked link args reply
  exact ⟨fun notReady => given (ownSiteClipSend_notReady notReady),
    fun ready runs => given (ownSiteClipSend_busy ready runs),
    fun ready idle lost => given (ownSiteClipSend_returnLost ready idle lost),
    fun ready idle held => given (ownSiteClipSend_starts ready idle held)⟩

/-! ## The end of a running transfer (R178) -/

/-- The transfer context at the end of a transfer: the phase NONE, the result recorded with the offset reached. -/
def Transfer.endedWith (t : Transfer) (r : TransferResult) : Transfer :=
  { t with
    phase := .none,
    lastResult := some { result := r, siteClip := t.siteClip, serial := t.serial, offset := t.nextOffset } }

section
variable {n : Node}

theorem endTransfer_idle (idle : n.link.transfer.phase = .none) (r : TransferResult) : endTransfer r n = n :=
  if_pos idle

theorem endTransfer_running (runs : n.link.transfer.phase ≠ .none) (r : TransferResult) :
    endTransfer r n =
      { n with
        store := n.store.release n.link.transfer.localClip,
        link :=
          { n.link with
            transfer := n.link.transfer.endedWith r, counters := countTransfer r n.link.counters } } :=
  if_neg runs

/-! ## Return frames (R178, R179) -/

theorem returnFrameGood_iff (linkId siteId : Nat) (bs : List Byte) :
    returnFrameGood linkId siteId bs = true ↔
      bs.length = 27 ∧ fieldAt bs 0 2 = 0xA53C ∧ crcBytes ((bs.drop 2).take 21) = bs.drop 23 ∧ byteAt bs 2 = linkId ∧
        byteAt bs 3 = siteId ∧ (1 ≤ byteAt bs 6 ∧ byteAt bs 6 ≤ 3) ∧ byteAt bs 14 ≤ 4 := by
  simp only [returnFrameGood, Bool.and_eq_true, decide_eq_true_eq, and_assoc]

theorem exec_returnFrame {s : State} (bytes : List Byte) (quiet : Quiet s) :
    exec (.returnFrame bytes) s = .next (settle { s with node := returnFrameHeard bytes s.node }) :=
  congrArg Host.Outcome.next (onNode_quiet quiet _)

theorem Node.linkWorks_of (bus : n.onBus = true) (link : n.cfg.roles.link = true) : n.linkWorks = true := by
  rw [Node.linkWorks, bus, link]
  rfl

/-- The link unit after a good return frame: the latest status, the age 0, the state RETURN_OK. -/
def Link.hearsReturn (l : Link) (f : ReturnFrame) : Link :=
  { l with
    lastReturn := some f, returnAge := 0, returnLost := false,
    counters := { l.counters with returnFrames := satInc l.counters.returnFrames } }

theorem returnFrameHeard_bad {bs : List Byte} (works : n.linkWorks = true)
    (bad : ¬ returnFrameGood n.cfg.linkId n.cfg.siteId bs = true) :
    returnFrameHeard bs n =
      { n with
        link :=
          { n.link with
            counters := { n.link.counters with returnErrors := satInc n.link.counters.returnErrors } } } :=
  (if_neg (by simp [works])).trans (if_neg bad)

theorem returnFrameHeard_good {bs : List Byte} (works : n.linkWorks = true)
    (good : returnFrameGood n.cfg.linkId n.cfg.siteId bs = true) :
    returnFrameHeard bs n =
      applyReturn (returnFrameOfBytes bs) { n with link := n.link.hearsReturn (returnFrameOfBytes bs) } :=
  (if_neg (by simp [works])).trans (if_pos good)

/-- A return frame ends no transfer where none runs, where its serial is another, or where it reports NONE or
RECEIVING. -/
theorem applyReturn_nothing {f : ReturnFrame}
    (h : n.link.transfer.phase = .none ∨ f.transferSerial ≠ n.link.transfer.serial ∨ f.transferState ≤ 1) :
    applyReturn f n = n := by
  unfold applyReturn
  split
  case isFalse => rfl
  case isTrue same =>
    split
    case h_4 => rfl
    all_goals
      next reported =>
        have idle : n.link.transfer.phase = .none := by
          rcases h with idle | other | low
          · exact idle
          · exact absurd same other
          · omega
        exact endTransfer_idle idle _

/-- The transfer state with which the site reports a result of its own. -/
def reportOf : TransferResult → Option Nat
  | .done => some 2
  | .refused => some 3
  | .fault => some 4
  | .returnLost => none
  | .noReport => none

theorem applyReturn_ends {f : ReturnFrame} {r : TransferResult} (same : f.transferSerial = n.link.transfer.serial)
    (reports : reportOf r = some f.transferState) : applyReturn f n = endTransfer r n := by
  unfold applyReturn
  rw [if_pos same]
  cases r <;> simp only [reportOf, Option.some.injEq, reduceCtorEq] at reports <;> simp only [← reports]

end

/-- Settles O49: the frame refused, the frame that ends no transfer, and the three results that a frame reports. -/
theorem returnFrameTaken : Obligations.ReturnFrameTaken := by
  intro s bytes quiet bus link l t f result heard done good c
  have isGood : returnFrameGood s.node.cfg.linkId s.node.cfg.siteId bytes = true ↔ good := returnFrameGood_iff _ _ _
  have works := Node.linkWorks_of bus link
  have gives {m : Node} (h : returnFrameHeard bytes s.node = m) : result = .next (settle { s with node := m }) := by
    rw [← h]
    exact exec_returnFrame bytes quiet
  have applies (h : good) : returnFrameHeard bytes s.node = applyReturn f { s.node with link := heard } :=
    returnFrameHeard_good works (isGood.mpr h)
  refine ⟨fun bad => gives (returnFrameHeard_bad works (mt isGood.mp bad)),
    fun h none_ => gives ((applies h).trans (applyReturn_nothing none_)), fun h runs same => ?_⟩
  have ends (r : TransferResult) (reports : reportOf r = some f.transferState) :
      result = done r (countTransfer r c) :=
    gives (((applies h).trans (applyReturn_ends same reports)).trans
      (endTransfer_running (n := { s.node with link := heard }) runs r))
  exact ⟨fun st => ends .done (congrArg some st.symm), fun st => ends .refused (congrArg some st.symm),
    fun st => ends .fault (congrArg some st.symm)⟩

end Sys2Proof.Machine
end

section
/-! PROOFS. Link frames (sections 9.3 and 9.4, R173 to R175, R177): the attachment that a frame carries, the frame as it
is made, and the end of a sending. -/

namespace Sys2Proof.Machine

/-! ## The attachment (R177) -/

section
variable (t : Transfer) (m : Memory) (e : ClipEntry)

theorem Transfer.attach_open (sends : t.phase = .sending) (opens : t.openSent = false) :
    t.attach m e =
      { kind := 1, offset := 0, bytes := openBytes t.siteClip e.channels e.length e.expectedCrc t.serial,
        last := false, after := { t with openSent := true } } := by
  simp only [Transfer.attach, sends, opens, Bool.not_false, if_true]

/-- The transfer after a DATA attachment of so many bytes. -/
def Transfer.moved (t : Transfer) (bytes : Nat) : Transfer :=
  { t with
    nextOffset := t.nextOffset + bytes, waitAge := 0,
    phase := if t.nextOffset + bytes = t.total then .waiting else .sending }

theorem Transfer.attach_data (sends : t.phase = .sending) (opened : t.openSent = true) :
    let bytes := min 240 (t.total - t.nextOffset)
    t.attach m e =
      { kind := 2, offset := t.nextOffset, bytes := clipBytes m e t.nextOffset bytes,
        last := decide (t.nextOffset + bytes = t.total), after := t.moved bytes } := by
  simp only [Transfer.attach, sends, opened, Bool.not_true, Bool.false_eq_true, if_false, decide_eq_true_eq,
    Transfer.moved]

/-- With nothing to send, a frame carries no attachment; a transfer that waits for its report counts the frame. -/
theorem Transfer.attach_none (h : t.phase ≠ .sending) :
    t.attach m e = Attachment.none (if t.phase = .waiting then { t with waitAge := t.waitAge + 1 } else t) := by
  unfold Transfer.attach
  cases phase : t.phase with
  | sending => exact absurd phase h
  | waiting => rfl
  | none => rfl

/-- What a frame made does to the transfer. -/
theorem Transfer.attach_after :
    (t.attach m e).after =
      if t.phase = .sending ∧ t.openSent = false then { t with openSent := true }
      else if t.phase = .sending ∧ t.openSent = true then t.moved (min 240 (t.total - t.nextOffset))
      else if t.phase = .waiting then { t with waitAge := t.waitAge + 1 }
      else t := by
  by_cases sends : t.phase = .sending
  · by_cases opened : t.openSent = true
    · rw [t.attach_data m e sends opened, if_neg (by simp [opened]), if_pos ⟨sends, opened⟩]
    · have opens : t.openSent = false := eq_false_of_ne_true opened
      rw [t.attach_open m e sends opens, if_pos ⟨sends, opens⟩]
  · rw [t.attach_none m e sends, if_neg (not_and_of_not_left _ sends), if_neg (not_and_of_not_left _ sends)]
    rfl

end

/-! ## The frame made (R173, R174) -/

/-- The bytes that the CRC-32 covers, their codes and flags written out. -/
theorem LinkFrame.covered_eq (f : LinkFrame) :
    let byte (k : Nat) : Byte := BitVec.ofNat 8 k
    let mode :=
      match f.mode.kind with
      | .programme => 1
      | .alert => 2
      | .reserve => 3
      | .silence => 4
    let flag (b : Bool) (weight : Nat) : Nat := if b then weight else 0
    f.covered =
      [byte f.linkId, byte f.siteId] ++ beBytes f.seq.toNat 2 ++ beBytes f.blockSeq.toNat 4 ++ [byte mode] ++
        beBytes f.mode.arg 2 ++
        [byte (flag f.modeStart 1 + flag f.modeEnd 2 + flag f.attach 4 + flag f.last 8), byte f.attachKind] ++
        beBytes f.attachOffset 4 ++ [byte f.attachment.length] ++
        f.audio.flatMap (fun x => sampleBytes x.1 ++ sampleBytes x.2) ++ f.attachment := by
  intro byte mode flag
  have code : modeCode f.mode.kind = mode := by cases h : f.mode.kind <;> simp only [mode, h, modeCode]
  have flags : byteOfBits [f.modeStart, f.modeEnd, f.attach, f.last] =
      flag f.modeStart 1 + flag f.modeEnd 2 + flag f.attach 4 + flag f.last 8 := by
    cases f.modeStart <;> cases f.modeEnd <;> cases f.attach <;> cases f.last <;> rfl
  rw [LinkFrame.covered, code, flags]
  rfl

/-- The link unit after a frame made with an attachment. -/
def Link.afterFrame (l : Link) (number : Nat) (f : LinkFrame) (after : Transfer) : Link :=
  { l with
    phase := 0, frameAudio := [], seq := l.seq + 1, blockSeq := l.blockSeq + 4,
    prevMode := some l.frameMode, frameMode := l.mode number,
    buffer := if l.buffer.length < 2 then l.buffer ++ [f] else l.buffer, transfer := after,
    returnAge := min (l.returnAge + 1) 125,
    counters :=
      { l.counters with
        framesMade := satInc l.counters.framesMade,
        modeChanges := if f.modeStart then satInc l.counters.modeChanges else l.counters.modeChanges,
        framesDropped :=
          if l.buffer.length < 2 then l.counters.framesDropped else satInc l.counters.framesDropped } }

theorem linkFrameMade_eq (m : Memory) (n : Node) :
    let a := n.link.transfer.attach m (n.store.clip n.link.transfer.localClip)
    linkFrameMade m n = { n with link := n.link.afterFrame n.cfg.number (n.link.makeFrame n.cfg a) a.after } := by
  intro a
  unfold linkFrameMade mapLinkCounters countFrame Link.afterFrame
  by_cases room : n.link.buffer.length < 2
  · simp only [room, Nat.not_le.mpr room, decide_false, Bool.false_eq_true, if_false, if_true]
    rfl
  · simp only [room, Nat.not_lt.mp room, decide_true, if_false, if_true]
    rfl

theorem frameDue_of {n : Node} (works : n.linkWorks = true) (full : 4 ≤ n.link.phase) : n.frameDue = true := by
  simp only [Node.frameDue, works, full, decide_true, Bool.and_self]

/-! ## The end of a sending (R175) -/

theorem exec_linkFrameSent {s : State} (quiet : Quiet s) :
    exec .linkFrameSent s = .next (settle { s with node := linkFrameSent s.node }) :=
  congrArg Host.Outcome.next (onNode_quiet quiet _)

section
variable {n : Node}

theorem linkFrameSent_tail {f : LinkFrame} (tail : n.link.portTail = some f) :
    linkFrameSent n =
      { n with
        link :=
          { n.link with
            portTail := none,
            counters := { n.link.counters with framesSent := satInc n.link.counters.framesSent } } } := by
  simp only [linkFrameSent, tail]
  rfl

variable (noTail : n.link.portTail = none)
include noTail

theorem linkFrameSent_oldest {f : LinkFrame} {rest : List LinkFrame} (buffer : n.link.buffer = f :: rest) :
    linkFrameSent n =
      { n with
        link :=
          { n.link with
            buffer := rest,
            counters := { n.link.counters with framesSent := satInc n.link.counters.framesSent } } } := by
  simp only [linkFrameSent, noTail, buffer]
  rfl

theorem linkFrameSent_nothing (buffer : n.link.buffer = []) : linkFrameSent n = n := by
  simp only [linkFrameSent, noTail, buffer]

end

/-- Settles O50: the frame made with each attachment and what it leaves of the link unit, and the end of a sending. -/
theorem linkFrameIsMadeAndSent : Obligations.LinkFrameIsMadeAndSent := by
  refine ⟨fun s rest at_ bus link full => ?_, fun s quiet => ?_⟩
  · intro l t cfg e now bytes opening sending
    let a := t.attach s.mem e
    have runs := boundaryRow_atStage at_ (frameDue_of (Node.linkWorks_of bus link) full)
    have onLink : stageRun .linkFrameMade s.mem s.node =
        { s.node with link := l.afterFrame cfg.number (l.makeFrame cfg a) a.after } := linkFrameMade_eq _ _
    refine ⟨l.makeFrame cfg a, rfl, rfl, rfl, rfl, rfl, rfl, decide_eq_true_iff, decide_eq_true_iff, fun h => ?_,
      fun ⟨sends, opens⟩ => ?_, fun ⟨sends, opened⟩ => ?_, congrArg crc32 (LinkFrame.covered_eq _), ?_⟩
    · rw [show a = _ from t.attach_none s.mem e h]
      exact ⟨rfl, rfl, rfl, rfl, rfl⟩
    · rw [show a = _ from t.attach_open s.mem e sends opens]
      exact ⟨rfl, rfl, rfl, rfl, rfl⟩
    · rw [show a = _ from t.attach_data s.mem e sends opened]
      exact ⟨rfl, rfl, rfl, rfl, decide_eq_true_iff⟩
    · rw [exec_event (c := .linkFrameMade) rfl, runs, onLink, show a.after = _ from t.attach_after s.mem e]
      rfl
  · intro l c result
    have gives {m : Node} (h : linkFrameSent s.node = m) : result = .next (settle { s with node := m }) := by
      rw [← h]
      exact exec_linkFrameSent quiet
    exact ⟨fun f rest noTail buffer => gives (linkFrameSent_oldest noTail buffer),
      fun f tail => gives (linkFrameSent_tail tail), fun noTail buffer => gives (linkFrameSent_nothing noTail buffer)⟩

end Sys2Proof.Machine
end

section
/-! PROOFS. The legs of the link selector at a hand-over, and the rows LEG_DROP, RESERVE_PLAYER_START, RETURN_LOST and
TRANSFER_NO_REPORT (sections 9.1, 9.2, 9.4 and 9.5, R169, R170, R178, R179). -/

namespace Sys2Proof.Machine

/-! ## The legs (R170) -/

/-- Two PEER sources are the same where they name the same listen entry; any others where they are equal. -/
theorem Source.same_iff (a b : Source) :
    a.same b = true ↔
      (∃ e x y, a = .peer e x ∧ b = .peer e y) ∨ (a = b ∧ ∀ e x, a ≠ .peer e x) := by
  unfold Source.same
  split
  case h_1 => simp [eq_comm]
  case h_2 notBoth =>
    rw [decide_eq_true_iff]
    refine ⟨fun eq => .inr ⟨eq, fun e x isPeer => notBoth e x e x isPeer (eq ▸ isPeer)⟩, fun h => ?_⟩
    obtain ⟨e, x, y, ha, hb⟩ | ⟨eq, -⟩ := h
    · exact absurd hb (notBoth e x e y ha)
    · exact eq

section
variable {inc o : Leg} {new : Source}

theorem changeLegs_same (out : Option Leg) (same : inc.source.same new = true) :
    changeLegs inc out new = ({ inc with source := new }, out, false) := if_pos same

variable (other : ¬ inc.source.same new = true)
include other

theorem changeLegs_alone : changeLegs inc none new = (Leg.rising new, some inc.falling, true) := if_neg other

theorem changeLegs_back (back : o.source.same new = true) :
    changeLegs inc (some o) new = (({ o with source := new } : Leg).raised, some inc.falling, true) :=
  (if_neg other).trans (if_pos back)

/-- A third source in mid-crossfade: of the two legs the one with the higher present gain goes on falling, the incoming
one where they are equal. -/
theorem changeLegs_third (third : ¬ o.source.same new = true) :
    changeLegs inc (some o) new =
      (Leg.rising new, some (if inc.gain.value < o.gain.value then o else inc).falling, true) :=
  (if_neg other).trans (if_neg third)

end

/-! ## The hand-over that waits (R170) -/

section
variable {n : Node} {src : Source}

/-- The link unit with the legs of a hand-over taken. -/
def Link.taking (l : Link) (legs : Leg × Option Leg × Bool) : Link :=
  { l with incoming := legs.1, outgoing := legs.2.1, pending := none }

theorem sourceChange_waiting (waits : n.link.pending = some src) :
    let legs := changeLegs n.link.incoming n.link.outgoing src
    let taken := n.link.taking legs
    sourceChange n =
      if legs.2.2 = true then
        { n with
          link :=
            { taken with
              counters := { n.link.counters with sourceChanges := satInc n.link.counters.sourceChanges } },
          meters := { n.meters with holderInput := n.meters.holderInput.begin } }
      else { n with link := taken } := by
  intro legs taken
  unfold sourceChange
  simp only [waits]
  rfl

/-! ## What makes each row due, and what it does -/

theorem legDropDue_of {o : Leg} (out : n.link.outgoing = some o) (runs : o.gain.running = true)
    (ran : o.gain.len ≤ o.gain.pos) : n.legDropDue = true := by
  simp only [Node.legDropDue, out]
  exact o.gain.ended_iff.mpr ⟨runs, ran⟩

theorem Link.reserveNeeded_iff (l : Link) :
    l.reserveNeeded = true ↔ l.incoming.source = .reserve ∨ ∃ o, l.outgoing = some o ∧ o.source = .reserve := by
  unfold Link.reserveNeeded
  cases l.outgoing <;> simp

theorem reserveStartDue_of (works : n.linkWorks = true) (needed : n.link.reserveNeeded = true)
    (idle : n.link.reserve.playing = false) (ready : (n.store.clip n.cfg.reserveClip).state = .ready) :
    n.reserveStartDue = true := by
  simp only [Node.reserveStartDue, works, needed, idle, ready, Bool.not_false, decide_true, Bool.and_self]

theorem reserveStart_ready (ready : (n.store.clip n.cfg.reserveClip).state = .ready) :
    let e := n.store.clip n.cfg.reserveClip
    reserveStart n =
      { n with
        store := n.store.setClip n.cfg.reserveClip { e with useCount := e.useCount + 1 },
        link := { n.link with reserve := { playing := true, pos := 0 } } } := by
  simp only [reserveStart, Store.acquire_ready ready]

theorem returnLostDue_of (works : n.linkWorks = true) (held : n.link.returnLost = false)
    (age : 125 ≤ n.link.returnAge) : n.returnLostDue = true := by
  simp only [Node.returnLostDue, works, held, age, Bool.not_false, decide_true, Bool.and_self]

theorem noReportDue_of (waits : n.link.transfer.phase = .waiting) (age : 250 ≤ n.link.transfer.waitAge) :
    n.noReportDue = true := by
  simp only [Node.noReportDue, waits, age, decide_true, Bool.and_self]

end

/-- Settles O51: the four rows where they are due, the hand-over that waits, and the rows of R170's table. -/
theorem linkRowsAndLegs : Obligations.LinkRowsAndLegs := by
  refine ⟨fun s rest => ?_, fun mem n => ?_, fun inc o new => ?_⟩
  · intro l t ended
    have row {c : Instr} {st : Stage} {m : Node} (hc : eventStage c = some st) (at_ : AtStage st rest s)
        (due : stageDue st s.node = true) (runs : stageRun st s.mem s.node = m) :
        exec c s = .next (settle { s with agenda := rest, node := m }) := by
      rw [exec_event hc, boundaryRow_atStage at_ due, runs]
    refine ⟨fun o at_ out runs ran => ?_, fun at_ bus link needed idle => ?_, fun at_ bus link held age => ?_,
      fun at_ waits age => ?_⟩
    · exact row rfl at_ (legDropDue_of out runs ran) rfl
    · intro e ready
      exact row rfl at_
        (reserveStartDue_of (Node.linkWorks_of bus link) (l.reserveNeeded_iff.mpr needed) idle ready)
        (reserveStart_ready ready)
    · intro lost
      refine row rfl at_ (returnLostDue_of (Node.linkWorks_of bus link) held age) ?_
      show endTransfer .returnLost lost = _
      by_cases idle : t.phase = .none
      · rw [if_pos idle]
        exact endTransfer_idle (n := lost) idle _
      · rw [if_neg idle]
        exact endTransfer_running (n := lost) idle _
    · exact row rfl at_ (noReportDue_of waits age) (endTransfer_running (by rw [waits]; decide) _)
  · intro l next restarted
    refine ⟨sourceChange_none, fun src waits => ?_⟩
    intro legs taken
    exact ⟨fun kept => (sourceChange_waiting waits).trans (if_neg (ne_true_of_eq_false kept)),
      fun changed => (sourceChange_waiting waits).trans (if_pos changed)⟩
  · intro same toZero fresh
    have other {a b : Source} (h : ¬ same a b) : ¬ a.same b = true := mt (Source.same_iff a b).mp h
    exact ⟨fun h => changeLegs_same none ((Source.same_iff _ _).mpr h),
      fun h => changeLegs_same (some o) ((Source.same_iff _ _).mpr h),
      fun h => changeLegs_alone (other h),
      fun h back => changeLegs_back (other h) ((Source.same_iff _ _).mpr back),
      fun h third le => (changeLegs_third (other h) (other third)).trans (by rw [if_neg (Nat.not_lt.mpr le)]; rfl),
      fun h third lt => (changeLegs_third (other h) (other third)).trans (by rw [if_pos lt]; rfl)⟩

end Sys2Proof.Machine
end

section
/-! PROOFS. A sample set instant beside the mixer (sections 2.1, 2.4, 7.3, 9.1, 9.2 and 10.3, R25, R38, R135, R168,
R171, R187): the selector's output, the lines, and the site crossfade. -/

namespace Sys2Proof.Machine

/-! ## The mix of two legs (R171, R187) -/

/-- Two sample sets at their gains: the exact sums rounded and saturated. -/
def crossfade (p q : SampleSet) (g h : Nat) : SampleSet :=
  (saturate (roundMix (p.1.toInt * g + q.1.toInt * h)), saturate (roundMix (p.2.toInt * g + q.2.toInt * h)))

theorem programmeOf_two (p q : SampleSet) (g h : Nat) :
    (programmeOf (mixSums [{ value := p, gain := g }, { value := q, gain := h }])).1 = crossfade p q g h := by
  simp only [mixSums, List.foldl_cons, List.foldl_nil, Int.zero_add, programmeOf, crossfade]

theorem programmeOf_one (p : SampleSet) (g : Nat) :
    (programmeOf (mixSums [{ value := p, gain := g }])).1 = crossfade p (0, 0) g 0 := by
  simp [mixSums, programmeOf, crossfade]

/-! ## The link selector (R168, R171) -/

/-- What the selector makes of a source for each leg and the legs' gains. -/
def Link.mixes (l : Link) (gives : Source → SampleSet) : SampleSet :=
  match l.outgoing with
  | some o => crossfade (gives l.incoming.source) (gives o.source) l.incoming.gain.advance.value o.gain.advance.value
  | none => crossfade (gives l.incoming.source) (0, 0) l.incoming.gain.advance.value 0

theorem selectorInstant_out (m : Memory) (n : Node) :
    (selectorInstant m (advanceLink n)).link.out = n.link.mixes (sourceGives m (advanceLink n)) := by
  show (programmeOf (mixSums (selectorTerms m (advanceLink n)))).1 = _
  unfold Link.mixes
  cases out : n.link.outgoing with
  | none =>
    simp only [selectorTerms, advanceLink, out, Option.map_none, Option.toList_none]
    exact programmeOf_one _ _
  | some o =>
    simp only [selectorTerms, advanceLink, out, Option.map_some, Option.toList_some]
    exact programmeOf_two _ _ _ _

theorem stationInstant_noStudio {mem : Memory} {inp : Inputs} {n : Node} (noStudio : n.cfg.roles.studio = false) :
    stationInstant mem inp n =
      gatherAudio inp
        (slotMeters (linesInstant (if n.cfg.roles.link then selectorInstant mem (advanceLink n) else n))) := by
  unfold stationInstant
  rw [noStudio]
  rfl

/-! ## The lines (R135) -/

theorem linesInstant_noPhone {n : Node} (h : n.cfg.roles.phone = false) : linesInstant n = n :=
  if_neg (by simp [h])

theorem linesInstant_phone {n : Node} (h : n.cfg.roles.phone = true) :
    linesInstant n =
      { n with
        phone := { n.phone with outgoing := [n.lineGives 1, n.lineGives 2, n.lineGives 3, n.lineGives 4] } } :=
  if_pos h

theorem linesInstant_frame (n : Node) : linesInstant n = { n with phone := (linesInstant n).phone } := by
  unfold linesInstant
  split <;> rfl

section
variable {n : Node} {i : Nat}

theorem lineGives_waiting (h : (n.phone.line i).state = .idle ∨ (n.phone.line i).state = .ringing) :
    n.lineGives i = 0 := by
  unfold Node.lineGives Node.lineRec
  rcases h with h | h <;> simp only [h]

theorem lineGives_hold (h : (n.phone.line i).state = .queued ∨ (n.phone.line i).state = .held) :
    n.lineGives i = if (n.phone.line i).holdLater then 0 else n.holdFeedNow := by
  unfold Node.lineGives Node.lineRec
  rcases h with h | h <;> simp only [h]

variable (air : (n.phone.line i).state = .onAir)
include air

theorem lineGives_station {st e : Nat} (studio : (n.phone.line i).studio = some (.station st))
    (entry : (n.phone.line i).mmEntry = some e) :
    n.lineGives i = (n.streams.slot e).out.monoAt n.audio.index := by
  simp only [Node.lineGives, Node.lineRec, air, studio, entry]

theorem lineGives_own (studio : (n.phone.line i).studio = some .own) : n.lineGives i = n.localMixMinus i := by
  simp only [Node.lineGives, Node.lineRec, air, studio]

end

/-! ## The site crossfade (R187) -/

/-- The site unit after an instant: the two legs' gains and the reserve player have moved on. -/
theorem siteInstant_site (m : Memory) (n : Node) :
    let c := n.site
    let clip := c.store.clip n.cfg.reserveClip
    (siteInstant m n).site =
      { c with
        out :=
          crossfade n.siteLinkGives (reserveGives m clip c.reserve) c.linkLeg.advance.value c.reserveLeg.advance.value,
        linkLeg := c.linkLeg.advance, reserveLeg := c.reserveLeg.advance,
        reserve := c.reserve.readOn clip.length } := by
  intro c clip
  rw [← programmeOf_two]
  rfl

/-- An instant between two boundaries. -/
theorem exec_sampleSetInstant {s : State} (inp : Inputs) (quiet : Quiet s) :
    exec (.sampleSetInstant inp) s = .next (settle { s with node := instant s.mem inp s.node }) :=
  congrArg Host.Outcome.next (onNode_quiet quiet _)

theorem instant_site {m : Memory} {inp : Inputs} {n : Node} (bus : n.onBus = false) (site : n.siteWorks = true) :
    instant m inp n = siteInstant m (takeInputs inp n) :=
  (if_neg (ne_true_of_eq_false bus)).trans (if_pos site)

theorem instant_idle {m : Memory} {inp : Inputs} {n : Node} (bus : n.onBus = false) (site : n.siteWorks = false) :
    instant m inp n = takeInputs inp n :=
  (if_neg (ne_true_of_eq_false bus)).trans (if_neg (ne_true_of_eq_false site))

/-- Settles O21: the instant at each kind of station, the selector's and the site's crossfade, and the lines by their
states. -/
theorem instantAtSelectorAndSite : Obligations.InstantAtSelectorAndSite := by
  intro s inp quiet n mixed l
  have station (bus : s.node.onBus = true) (noStudio : s.node.cfg.roles.studio = false) :=
    (exec_sampleSetInstant_onBus inp quiet bus).trans
      (congrArg (fun x => Host.Outcome.next (settle { s with node := x }))
        (stationInstant_noStudio (mem := s.mem) (inp := inp) (n := n) noStudio))
  refine ⟨fun bus link noStudio => ?_, fun bus site => ?_, fun bus site => ?_, station, fun m x => ?_⟩
  · intro x gives inGain
    refine ⟨_, station bus noStudio, rfl, ?_⟩
    have linkRole : n.cfg.roles.link = true := link
    simp only [settle_node, Node.settled_mixer, Node.settled_link]
    rw [if_pos linkRole, linesInstant_frame]
    exact ⟨rfl, selectorInstant_out s.mem n, rfl, rfl⟩
  · intro c clip reserve linkGives next
    refine ⟨_, exec_sampleSetInstant inp quiet, rfl, ?_⟩
    rw [instant_site bus site]
    exact siteInstant_site s.mem n
  · rw [exec_sampleSetInstant inp quiet, instant_idle bus site]
  · intro y k give
    refine ⟨selectorInstant_out m x, rfl, linesInstant_noPhone, fun phone => ?_, rfl, rfl⟩
    intro slot hold
    refine ⟨x.lineGives, linesInstant_phone phone, fun i => ?_⟩
    exact ⟨lineGives_waiting, lineGives_hold, fun _ _ air studio entry => lineGives_station air studio entry,
      lineGives_own⟩

end Sys2Proof.Machine
end

section
/-! PROOFS. The frame receiver of the transmitter site (section 10.1, R182): hunting for the sync word, gathering a
frame, and the checks of a complete one. -/

namespace Sys2Proof.Machine

/-! ## The fields of a gathered frame -/

theorem byteAt_append_left {a : List Byte} (b : List Byte) {i : Nat} (h : i < a.length) :
    byteAt (a ++ b) i = byteAt a i := by
  unfold byteAt
  rw [List.getD_eq_getElem?_getD, List.getD_eq_getElem?_getD, List.getElem?_append_left h]

theorem modeOf_eq (k : Nat) :
    modeOf k = if k = 1 then .programme else if k = 2 then .alert else if k = 3 then .reserve else .silence := by
  match k with
  | 0 | 1 | 2 | 3 => rfl
  | k + 4 => rw [if_neg (by omega), if_neg (by omega), if_neg (by omega)]; rfl

/-! ## One byte at the port -/

/-- The receiver moved on by a byte: the boundaries since the last byte count from 0 again. -/
def Node.withReceiver (n : Node) (r : Receiver) : Node :=
  { n with site := { n.site with receiver := r, stall := 0 } }

theorem siteBytes_one (b : Byte) (m : Memory) (n : Node) :
    siteBytes [b] m n = (applyWrite (siteByte b n).2 m, (siteByte b n).1) := rfl

section
variable {n : Node} {b : Byte} (works : n.siteWorks = true)
include works

theorem siteByte_hunting {saw : Bool} (hunts : n.site.receiver = .hunting saw) :
    siteByte b n =
      (n.withReceiver (if saw = true ∧ b = 0xC3 then .gathering [] else .hunting (decide (b = 0x5A))), none) := by
  unfold siteByte
  rw [works]
  simp only [hunts]
  rfl

variable {g : List Byte} (gathers : n.site.receiver = .gathering g)
include gathers

theorem siteByte_gathering :
    siteByte b n =
      if (g ++ [b]).length = 18 ∧ 240 < byteAt (g ++ [b]) 17 then (badFrame (n.withReceiver (.hunting false)), none)
      else if 18 ≤ (g ++ [b]).length ∧ (g ++ [b]).length = 1174 + byteAt (g ++ [b]) 17 then
        frameComplete (g ++ [b]) (n.withReceiver (.hunting false))
      else (n.withReceiver (.gathering (g ++ [b])), none) := by
  unfold siteByte
  rw [works]
  simp only [gathers]
  rfl

theorem siteByte_badLength (h : (g ++ [b]).length = 18 ∧ 240 < byteAt (g ++ [b]) 17) :
    siteByte b n = (badFrame (n.withReceiver (.hunting false)), none) :=
  (siteByte_gathering works gathers).trans (if_pos h)

variable (length : ¬ ((g ++ [b]).length = 18 ∧ 240 < byteAt (g ++ [b]) 17))
include length

theorem siteByte_joins
    (incomplete : ¬ (18 ≤ (g ++ [b]).length ∧ (g ++ [b]).length = 1174 + byteAt (g ++ [b]) 17)) :
    siteByte b n = (n.withReceiver (.gathering (g ++ [b])), none) :=
  ((siteByte_gathering works gathers).trans (if_neg length)).trans (if_neg incomplete)

theorem siteByte_completes
    (complete : 18 ≤ (g ++ [b]).length ∧ (g ++ [b]).length = 1174 + byteAt (g ++ [b]) 17) :
    siteByte b n = frameComplete (g ++ [b]) (n.withReceiver (.hunting false)) :=
  ((siteByte_gathering works gathers).trans (if_neg length)).trans (if_pos complete)

end

/-! ## A complete frame -/

section
variable {n : Node} {bs : List Byte}

theorem frameComplete_good (good : linkFrameGood n.cfg.linkId n.cfg.siteId bs = true) :
    frameComplete bs n = acceptFrame (linkFrameOfBytes bs) n := if_pos good

theorem frameComplete_bad (bad : ¬ linkFrameGood n.cfg.linkId n.cfg.siteId bs = true) :
    frameComplete bs n = (badFrame n, none) := if_neg bad

end

/-- The bytes of a frame that are still to come are gathered one after another, and the last of them completes it:
no byte before it stands where the frame could end, for a length byte of at most 240. -/
theorem siteBytes_gathers {total : List Byte} (short : byteAt total 17 ≤ 240)
    (whole : total.length = 1174 + byteAt total 17) (m : Memory) :
    ∀ (rest g : List Byte) (n : Node), g ++ rest = total → rest ≠ [] → n.siteWorks = true →
      n.site.receiver = .gathering g →
      let r := frameComplete total (n.withReceiver (.hunting false))
      siteBytes rest m n = (applyWrite r.2 m, r.1)
  | [], _, _, _, nonempty, _, _ => absurd rfl nonempty
  | b :: rest, g, n, parts, _, works, gathers => by
    have here : (g ++ [b]) ++ rest = total := by rw [← parts, List.append_assoc]; rfl
    have lengthByte (h : 18 ≤ (g ++ [b]).length) : byteAt (g ++ [b]) 17 = byteAt total 17 := by
      rw [← here, byteAt_append_left rest (by omega)]
    have lengths : (g ++ [b]).length + rest.length = total.length := by rw [← here, List.length_append (bs := rest)]
    have length : ¬ ((g ++ [b]).length = 18 ∧ 240 < byteAt (g ++ [b]) 17) := by
      rintro ⟨h, above⟩
      rw [lengthByte (by omega)] at above
      omega
    match rest, here, lengths with
    | [], here, _ =>
      rw [List.append_nil] at here
      rw [siteBytes_one, siteByte_completes works gathers length (by rw [here]; omega), here]
    | c :: rest, here, lengths =>
      have joins : siteByte b n = (n.withReceiver (.gathering (g ++ [b])), none) := by
        refine siteByte_joins works gathers length fun ⟨h, complete⟩ => ?_
        rw [lengthByte h] at complete
        rw [List.length_cons] at lengths
        omega
      have later := siteBytes_gathers short whole m (c :: rest) (g ++ [b]) (n.withReceiver (.gathering (g ++ [b])))
        here (List.cons_ne_nil _ _) works rfl
      show siteBytes (c :: rest) (applyWrite (siteByte b n).2 m) (siteByte b n).1 = _
      rw [joins]
      exact later

/-- A whole frame at a receiver that hunts: the sync word starts it and its last byte completes it. -/
theorem siteBytes_frame {total : List Byte} {n : Node} (m : Memory) (works : n.siteWorks = true)
    (hunts : n.site.receiver = .hunting false) (short : byteAt total 17 ≤ 240)
    (whole : total.length = 1174 + byteAt total 17) :
    let r := frameComplete total (n.withReceiver (.hunting false))
    siteBytes ([0x5A, 0xC3] ++ total) m n = (applyWrite r.2 m, r.1) := by
  have first : siteByte 0x5A n = (n.withReceiver (.hunting true), none) := siteByte_hunting works hunts
  have second : siteByte 0xC3 (n.withReceiver (.hunting true)) = (n.withReceiver (.gathering []), none) :=
    siteByte_hunting (n := n.withReceiver (.hunting true)) works rfl
  have nonempty : total ≠ [] := fun h => by rw [h, List.length_nil] at whole; omega
  have sync : siteBytes ([0x5A, 0xC3] ++ total) m n = siteBytes total m (n.withReceiver (.gathering [])) := by
    simp only [List.cons_append, List.nil_append, siteBytes, first, second, applyWrite]
  rw [sync]
  exact siteBytes_gathers short whole m total [] (n.withReceiver (.gathering [])) rfl nonempty works rfl

/-- Settles O52: a byte at a hunting and at a gathering receiver, and a whole frame after its sync word. -/
theorem sitePortTaken : Obligations.SitePortTaken := by
  unfold Obligations.SitePortTaken
  intro frame good
  have same (bs : List Byte) (h : 1170 ≤ bs.length) : linkFrameOfBytes bs = frame bs := by
    simp only [frame, ← linkFrameOfBytes_audio h, ← modeOf_eq]
    rfl
  have passes (cfg : Settings) (bs : List Byte) : linkFrameGood cfg.linkId cfg.siteId bs = true ↔ good cfg bs :=
    linkFrameGood_iff _ _ _
  have accepts {bs : List Byte} {n : Node} (whole : bs.length = 1174 + byteAt bs 17) (holds : good n.cfg bs) :
      frameComplete bs n = acceptFrame (frame bs) n := by
    rw [frameComplete_good ((passes n.cfg bs).mpr holds), same bs (by omega)]
  have discards {bs : List Byte} {n : Node} (fails : ¬ good n.cfg bs) : frameComplete bs n = (badFrame n, none) :=
    frameComplete_bad (mt (passes n.cfg bs).mp fails)
  refine ⟨fun s b quiet works => ?_, fun s covered quiet works hunts short whole => ?_⟩
  · intro x result recv next bad
    have taken {r : Node × Option ByteWrite} (h : siteByte b s.node = r) :
        result = next (applyWrite r.2 s.mem) r.1 := by
      subst h
      exact congrArg Host.Outcome.next (onSitePort_quiet quiet [b])
    refine ⟨fun saw hunts => taken (siteByte_hunting works hunts), fun g gathers => ?_⟩
    intro bs complete accepted
    exact ⟨fun eighteen above => taken (siteByte_badLength works gathers ⟨eighteen, above⟩),
      fun length incomplete => taken (siteByte_joins works gathers length incomplete),
      fun length done fails => taken ((siteByte_completes works gathers length done).trans (discards fails)),
      fun length done holds =>
        taken ((siteByte_completes works gathers length done).trans (accepts done.2 holds))⟩
  · intro n accepted result
    have still : s.node.withReceiver (.hunting false) = n := by
      show ({ s.node with site := { s.node.site with receiver := _, stall := 0 } } : Node) = _
      rw [← hunts]
    have taken {r : Node × Option ByteWrite} (h : frameComplete covered n = r) :
        result = .next (settle { s with mem := applyWrite r.2 s.mem, node := r.1 }) := by
      subst h
      rw [← still]
      refine congrArg Host.Outcome.next ((onSitePort_quiet quiet _).trans ?_)
      rw [siteBytes_frame s.mem works hunts short whole]
    exact ⟨fun holds => taken (accepts whole holds), fun fails => taken (discards fails)⟩

end Sys2Proof.Machine
end

section
/-! PROOFS. The link buffer and the site frame boundary (sections 10.2 and 10.3, R183, R184, R185). -/

namespace Sys2Proof.Machine

/-! ## Placing a frame (R183) -/

section
variable {b : LinkBuffer} {f : BufferedFrame}

theorem LinkBuffer.append_room (room : b.frames.length < 8) :
    b.append f = ({ b with frames := b.frames ++ [f], lastSeq := some f.seq }, 0) := if_pos room

theorem LinkBuffer.append_full (full : 8 ≤ b.frames.length) :
    b.append f = ({ b with frames := b.frames.drop 1 ++ [f], lastSeq := some f.seq }, 1) :=
  if_neg (Nat.not_lt.mpr full)

theorem LinkBuffer.place_first (first : b.lastSeq = none) : b.place f = ((b.append f).1, (b.append f).2, false) := by
  unfold LinkBuffer.place
  rw [first]

variable {last : Seq16} (after : b.lastSeq = some last)
include after

theorem LinkBuffer.place_near (h1 : 1 ≤ (f.seq - last).toNat) (h8 : (f.seq - last).toNat ≤ 8) :
    b.place f =
      ((b.append f).1, (b.append f).2 + ((f.seq - last).toNat - 1), decide ((f.seq - last).toNat = 1)) := by
  unfold LinkBuffer.place
  rw [after]
  exact if_pos ⟨h1, h8⟩

/-- A resync: the buffer is emptied, its frames lost, and fills again from the frame placed. -/
theorem LinkBuffer.place_far (h : (f.seq - last).toNat = 0 ∨ 9 ≤ (f.seq - last).toNat) :
    b.place f =
      ({ b with frames := [f], state := .filling, lastSeq := some f.seq }, b.frames.length, false) := by
  unfold LinkBuffer.place
  rw [after]
  exact if_neg (by omega)

end

/-! ## Giving out at a site frame boundary (R184) -/

section
variable {b : LinkBuffer}

theorem LinkBuffer.boundary_waits (filling : b.state ≠ .running) (few : b.frames.length < 2) :
    b.boundary = ({ b with given := [] }, 0) := by
  unfold LinkBuffer.boundary
  split
  case h_1 running => exact absurd running filling
  case h_2 => exact if_neg (Nat.not_le.mpr few)

theorem LinkBuffer.boundary_reads (h : b.state = .running ∨ 2 ≤ b.frames.length) : b.boundary = b.read := by
  unfold LinkBuffer.boundary
  split
  case h_1 => rfl
  case h_2 notRunning => exact if_pos (h.resolve_left notRunning)

theorem LinkBuffer.read_empty (empty : b.frames = []) :
    b.read = ({ b with state := .refilling, given := b.lastOut.getD [] }, 0) := by
  unfold LinkBuffer.read LinkBuffer.giveFrame
  rw [if_neg (by rw [empty]; decide)]
  simp only [empty]

variable {x g : BufferedFrame} {rest : List BufferedFrame}

theorem LinkBuffer.read_oldest (frames : b.frames = g :: rest) (few : b.frames.length < 6) :
    b.read = ({ b with state := .running, frames := rest, lastOut := some g.audio, given := g.audio }, 0) := by
  unfold LinkBuffer.read LinkBuffer.giveFrame
  rw [if_neg (Nat.not_le.mpr few)]
  simp only [frames]

theorem LinkBuffer.read_slips (frames : b.frames = x :: g :: rest) (many : 6 ≤ b.frames.length) :
    b.read = ({ b with state := .running, frames := rest, lastOut := some g.audio, given := g.audio }, 1) := by
  unfold LinkBuffer.read LinkBuffer.giveFrame
  rw [if_pos many]
  simp only [frames, List.drop_succ_cons, List.drop_zero]

end

/-! ## SITE_FRAME_BOUNDARY (R184, R185) -/

section
variable {n : Node}

/-- The site unit after a site frame boundary, before its mode is judged. -/
def Site.readOut (x : Site) : Site :=
  { x with
    phase := 0, buffer := x.buffer.boundary.1, lost := satAdd x.lost x.buffer.boundary.2,
    noFrame := min (x.noFrame + 1) 50 }

theorem siteFrame_following (mode : n.site.mode ≠ .concealing) :
    siteFrame n = { n with site := n.site.readOut } := if_neg mode

theorem siteFrame_recovers (mode : n.site.mode = .concealing) (runs : n.site.buffer.boundary.1.state = .running) :
    siteFrame n = leaveConcealing { n with site := n.site.readOut } := (if_pos mode).trans (if_pos runs)

theorem siteFrame_conceals (mode : n.site.mode = .concealing) (dry : n.site.buffer.boundary.1.state ≠ .running) :
    siteFrame n =
      { n with site := { n.site.readOut with reserveCount := n.site.reserveCount + 1 } } :=
  (if_pos mode).trans (if_neg dry)

theorem siteFrameDue_of (works : n.siteWorks = true) (phase : 4 ≤ n.site.phase) : n.siteFrameDue = true := by
  simp only [Node.siteFrameDue, works, phase, decide_true, Bool.and_self]

end

/-- A row that is one event of a boundary, at its place there and due. -/
theorem exec_atStage {c : Instr} {st : Stage} {rest : List Stage} {s : State} {m : Node} (row : eventStage c = some st)
    (place : AtStage st rest s) (due : stageDue st s.node = true) (runs : stageRun st s.mem s.node = m) :
    exec c s = .next (settle { s with agenda := rest, node := m }) := by
  rw [exec_event row, boundaryRow_atStage place due, runs]

/-- Settles O53: a frame by its distance, the four outputs of the buffer, and the row in each mode. -/
theorem siteFrameBoundaryKeepsTime : Obligations.SiteFrameBoundaryKeepsTime := by
  refine ⟨fun b f => ?_, fun s rest place works phase => ?_⟩
  · intro put
    refine ⟨fun first room => ?_, fun last after => ?_, LinkBuffer.boundary_waits,
      fun running empty => (LinkBuffer.boundary_reads (.inl running)).trans (LinkBuffer.read_empty empty),
      fun g rest frames h few => (LinkBuffer.boundary_reads h).trans (LinkBuffer.read_oldest frames few),
      fun x g rest frames many =>
        (LinkBuffer.boundary_reads (.inr (by omega))).trans (LinkBuffer.read_slips frames many)⟩
    · rw [LinkBuffer.place_first first, LinkBuffer.append_room room]
    · intro d
      refine ⟨fun h1 h8 room => ?_, fun h1 h8 full => ?_, LinkBuffer.place_far after⟩
      · rw [LinkBuffer.place_near after h1 h8, LinkBuffer.append_room room, Nat.zero_add]
      · rw [LinkBuffer.place_near after h1 h8, LinkBuffer.append_full full]
  · intro x r read
    refine exec_atStage rfl place (siteFrameDue_of works phase) ?_
    show siteFrame s.node = _
    by_cases mode : x.mode = .concealing
    · rw [if_neg (not_not_intro mode)]
      by_cases runs : r.1.state = .running
      · rw [if_pos runs]
        exact siteFrame_recovers mode runs
      · rw [if_neg runs]
        exact siteFrame_conceals mode runs
    · rw [if_pos mode]
      exact siteFrame_following mode

end Sys2Proof.Machine
end

section
/-! PROOFS. The rows of the site unit at a boundary (sections 10.1, 10.3 and 10.5, R182, R185, R187, R190, R191), and
what its two meter points report (R186). -/

namespace Sys2Proof.Machine

section
variable {n : Node}

/-! ## What makes each row due -/

theorem Site.gatheringNow_of {x : Site} {g : List Byte} (gathers : x.receiver = .gathering g) :
    x.gatheringNow = true := by
  unfold Site.gatheringNow
  rw [gathers]

theorem Site.reserveNeeded_iff (x : Site) :
    x.reserveNeeded = true ↔ x.mode = .reserve ∨ 0 < x.reserveLeg.value := by
  simp only [Site.reserveNeeded, Bool.or_eq_true, decide_eq_true_eq]

section
variable (works : n.siteWorks = true)
include works

theorem stallDue_of (gathers : n.site.gatheringNow = true) (stalled : 4 ≤ n.site.stall) : n.stallDue = true := by
  simp only [Node.stallDue, works, gathers, stalled, decide_true, Bool.and_self]

theorem concealDue_of (mode : n.site.mode = .following) (none_ : 50 ≤ n.site.noFrame) : n.concealDue = true := by
  simp only [Node.concealDue, works, mode, none_, decide_true, Bool.and_self]

theorem reserveEntryDue_of (mode : n.site.mode = .concealing) (delay : n.cfg.reserveDelay ≤ n.site.reserveCount) :
    n.reserveEntryDue = true := by
  simp only [Node.reserveEntryDue, works, mode, delay, decide_true, Bool.and_self]

theorem siteReserveDue_of (needed : n.site.reserveNeeded = true) (idle : n.site.reserve.playing = false)
    (ready : (n.site.store.clip n.cfg.reserveClip).state = .ready) : n.siteReserveDue = true := by
  simp only [Node.siteReserveDue, works, needed, idle, ready, Bool.not_false, decide_true, Bool.and_self]

theorem contactDue_of (changed : n.pins.contacts ≠ n.site.contacts) : n.contactDue = true := by
  simp only [Node.contactDue, works, changed, decide_not, decide_false, Bool.not_false, Bool.and_self]

end

/-! ## What the reserve player's start does -/

theorem siteReserveStart_ready (ready : (n.site.store.clip n.cfg.reserveClip).state = .ready) :
    let e := n.site.store.clip n.cfg.reserveClip
    siteReserveStart n =
      { n with
        site :=
          { n.site with
            store := n.site.store.setClip n.cfg.reserveClip { e with useCount := e.useCount + 1 },
            reserve := { playing := true, pos := 0 } } } := by
  simp only [siteReserveStart, Store.acquire_ready ready]
  rfl

/-! ## The return condition and the two reports (R186) -/

theorem Node.siteMayReturn_iff :
    n.siteMayReturn = true ↔
      n.site.mode = .reserve ∧ n.site.goodRun = 250 ∧
        (n.site.reason = .silence → n.meters.incoming.silent = false) := by
  unfold Node.siteMayReturn
  cases n.site.reason <;> simp [and_assoc]

theorem testReturn_returns (h : n.siteMayReturn = true) : testReturn n = leaveReserve n := if_pos h

theorem testReturn_stays (h : ¬ n.siteMayReturn = true) : testReturn n = n := if_neg h

/-- The part with the site output point closed. -/
def Node.outputClosed (n : Node) : Node :=
  { n with meters := { n.meters with siteOutput := (n.meters.siteOutput.finish n.cfg).point } }

/-- The part with the incoming point closed. -/
def Node.incomingClosed (n : Node) : Node :=
  { n with meters := { n.meters with incoming := (n.meters.incoming.finish n.cfg).point } }

theorem closeSiteOutput_silent (silent : (n.meters.siteOutput.finish n.cfg).report = some true)
    (mode : n.site.mode = .following) : closeSiteOutput n = enterReserve .silence n.outputClosed :=
  (if_pos silent).trans (if_pos mode)

theorem closeSiteOutput_other
    (other : (n.meters.siteOutput.finish n.cfg).report ≠ some true ∨ n.site.mode ≠ .following) :
    closeSiteOutput n = n.outputClosed := by
  by_cases silent : (n.meters.siteOutput.finish n.cfg).report = some true
  · exact (if_pos silent).trans (if_neg (other.resolve_left (not_not_intro silent)))
  · exact if_neg silent

theorem closeIncoming_reported (report : (n.meters.incoming.finish n.cfg).report ≠ none) :
    closeIncoming n = testReturn n.incomingClosed := if_pos (Option.isSome_iff_ne_none.mpr report)

theorem closeIncoming_unreported (report : (n.meters.incoming.finish n.cfg).report = none) :
    closeIncoming n = n.incomingClosed := if_neg (by rw [report]; exact Bool.false_ne_true)

end

/-- Settles O54: the five rows where they are due, and the two reports with and without the change of mode. -/
theorem siteRowsAtABoundary : Obligations.SiteRowsAtABoundary := by
  intro s rest works x next changed
  refine ⟨fun g place gathers stalled => ?_, fun place mode none_ => ?_, fun place mode delay => ?_,
    fun place needed idle => ?_, fun place differ => ?_, ?_⟩
  · exact exec_atStage rfl place (stallDue_of works (Site.gatheringNow_of gathers) stalled) rfl
  · exact exec_atStage rfl place (concealDue_of works mode none_) rfl
  · exact exec_atStage rfl place (reserveEntryDue_of works mode delay) rfl
  · intro e ready
    exact exec_atStage rfl place (siteReserveDue_of works (x.reserveNeeded_iff.mpr needed) idle ready)
      (siteReserveStart_ready ready)
  · exact exec_atStage rfl place (contactDue_of works differ) rfl
  · intro n p q turned returns
    refine ⟨closeSiteOutput_silent, closeSiteOutput_other, fun ⟨reported, condition⟩ => ?_, fun stays => ?_⟩
    · exact (closeIncoming_reported reported).trans (testReturn_returns (Node.siteMayReturn_iff.mpr condition))
    · by_cases reported : q.report = none
      · exact closeIncoming_unreported reported
      · exact (closeIncoming_reported reported).trans
          (testReturn_stays fun h => stays ⟨reported, Node.siteMayReturn_iff.mp h⟩)

end Sys2Proof.Machine
end

section
/-! PROOFS. The site clip store (section 10.4, R188, R189): OPEN and DATA attachments, and a frame without one. -/

namespace Sys2Proof.Machine

section
variable {x : Site}

/-! ## DATA attachments (R189) -/

section
variable {off : Nat} {bs : List Byte}

theorem data_notReceiving (last : Bool) (h : x.transfer.state ≠ .receiving) : x.data off bs last = (x, none) :=
  if_pos h

variable (receiving : x.transfer.state = .receiving)
include receiving

theorem data_again (last : Bool) (h : off < x.transfer.received) : x.data off bs last = (x, none) :=
  (if_neg (not_not_intro receiving)).trans (if_pos h)

theorem data_fails (last : Bool)
    (h : x.transfer.received < off ∨
      off = x.transfer.received ∧ x.transfer.total < x.transfer.received + bs.length) :
    x.data off bs last = (x.failTransfer, none) :=
  (if_neg (not_not_intro receiving)).trans ((if_neg (by omega)).trans (if_pos (by omega)))

/-- The site clip store with the bytes of an attachment taken: the received length in sample sets of 3 bytes a
channel, the bytes received, and the CRC register advanced. -/
def Site.taking (x : Site) (bs : List Byte) : Site :=
  let t := x.transfer
  let e := x.store.clip t.clip
  { x with
    store := x.store.setClip t.clip { e with received := (t.received + bs.length) / (3 * e.channels) },
    transfer := { t with received := t.received + bs.length, crc := crcUpdate t.crc bs } }

theorem data_written (last : Bool) (next : off = x.transfer.received)
    (fits : x.transfer.received + bs.length ≤ x.transfer.total) :
    x.data off bs last =
      (if last then (x.taking bs).closeTransfer else x.taking bs,
        some { firstPage := (x.store.clip x.transfer.clip).firstPage, offset := off, bytes := bs }) :=
  (if_neg (not_not_intro receiving)).trans ((if_neg (by omega)).trans (if_neg (by omega)))

end

/-! ## The close of a load by LAST (R189) -/

theorem closeTransfer_ready (whole : x.transfer.received = x.transfer.total)
    (crc : ~~~x.transfer.crc = (x.store.clip x.transfer.clip).expectedCrc) :
    x.closeTransfer =
      { x with
        store := x.store.setClip x.transfer.clip { x.store.clip x.transfer.clip with state := .ready },
        transfer := { x.transfer with state := .done } } := if_pos ⟨whole, crc⟩

theorem closeTransfer_fails
    (h : x.transfer.received ≠ x.transfer.total ∨
      ~~~x.transfer.crc ≠ (x.store.clip x.transfer.clip).expectedCrc) : x.closeTransfer = x.failTransfer :=
  if_neg fun ⟨whole, crc⟩ => h.elim (· whole) (· crc)

/-! ## OPEN attachments (R188) -/

/-- A load that is RECEIVING abandoned: its clip is EMPTY. -/
def Site.abandoned (x : Site) : Site :=
  if x.transfer.state = .receiving then { x with store := x.store.emptyClip x.transfer.clip } else x

theorem abandoned_eq :
    x.abandoned =
      if x.transfer.state = .receiving then { x with store := x.store.emptyClip x.transfer.clip } else x := rfl

theorem abandoned_transfer : x.abandoned.transfer = x.transfer := by
  unfold Site.abandoned
  split <;> rfl

theorem pagesNeeded_eq (channels length : Nat) : pagesNeeded channels length = (channels * length + 4095) / 4096 := by
  unfold pagesNeeded ceilDiv
  rw [Nat.mul_comm]
  rfl

section
variable {o : OpenFields}

/-- The site clip store with an OPEN decided: its serial and clip taken, nothing received. -/
def Site.opened (x : Site) (o : OpenFields) (st : SiteTransferState) (d : Store) : Site :=
  { x.abandoned with
    store := d, transfer := { x.transfer with state := st, clip := o.clip, serial := o.serial, received := 0 } }

theorem openLoad_badForm (bad : ¬ ((o.channels = 1 ∨ o.channels = 2) ∧ o.length ≠ 0)) :
    x.openLoad o = x.opened o .fault x.abandoned.store := by
  unfold Site.opened
  rw [← abandoned_transfer]
  exact if_pos bad

variable (good : (o.channels = 1 ∨ o.channels = 2) ∧ o.length ≠ 0)
include good

theorem openLoad_inUse (used : 0 < (x.abandoned.store.clip o.clip).useCount) :
    x.openLoad o = x.opened o .refused x.abandoned.store := by
  unfold Site.opened
  rw [← abandoned_transfer]
  exact (if_neg (not_not_intro good)).trans (if_pos used)

variable (free : (x.abandoned.store.clip o.clip).useCount = 0)
include free

theorem openLoad_noSpace
    (none_ : allocate (pagesNeeded o.channels o.length) (x.abandoned.store.emptyClip o.clip).free = none) :
    x.openLoad o = x.opened o .fault (x.abandoned.store.emptyClip o.clip) := by
  unfold Site.opened
  rw [← abandoned_transfer]
  refine ((if_neg (not_not_intro good)).trans (if_neg (Nat.not_lt.mpr (Nat.le_of_eq free)))).trans ?_
  simp only [← abandoned_eq, none_]

theorem openLoad_receives {first : Nat} {rest : List Extent}
    (found : allocate (pagesNeeded o.channels o.length) (x.abandoned.store.emptyClip o.clip).free =
      some (first, rest)) :
    let e := x.abandoned.store.clip o.clip
    let loading : ClipEntry :=
      { ClipEntry.reset with
        state := .loading, channels := o.channels, length := o.length, firstPage := first,
        pageCount := pagesNeeded o.channels o.length, serial := e.serial, expectedCrc := o.crc,
        lastFailure := e.lastFailure }
    x.openLoad o =
      { x.abandoned with
        store := { (x.abandoned.store.emptyClip o.clip).setClip o.clip loading with free := rest },
        transfer :=
          { x.transfer with
            state := .receiving, clip := o.clip, serial := o.serial, received := 0,
            total := o.length * o.channels * 3, crc := crcInit } } := by
  intro e loading
  rw [← abandoned_transfer]
  refine ((if_neg (not_not_intro good)).trans (if_neg (Nat.not_lt.mpr (Nat.le_of_eq free)))).trans ?_
  simp only [← abandoned_eq, found]
  rfl

end

/-! ## The attachment of a frame -/

section
variable {f : LinkFrame}

theorem attachment_open (h : f.attachKind = 1) : x.attachment f = (x.openLoad (openOfBytes f.attachment), none) := by
  simp only [Site.attachment, h]

theorem attachment_data (h : f.attachKind = 2) :
    x.attachment f = x.data f.attachOffset f.attachment f.last := by
  simp only [Site.attachment, h]

theorem attachment_none (h : f.attachKind = 0) :
    x.attachment f = (if x.transfer.state = .receiving then x.failTransfer else x, none) := by
  simp only [Site.attachment, h]

end

end

/-- Settles O55: DATA ignored, failing the load and written, with and without LAST; OPEN along its order; the three
kinds of attachment; and the bytes written. -/
theorem siteAttachmentsJudged : Obligations.SiteAttachmentsJudged := by
  intro x off bs last t e failed got crc written e1
  refine ⟨data_notReceiving last, fun receiving => data_again receiving last,
    fun receiving => data_fails receiving last, fun receiving next fits => ?_, ?_, fun f => attachment_open,
    fun f => attachment_data, fun f => attachment_none,
    fun mem w canonical => Memory.writeBytes_changes mem w.firstPage w.offset w.bytes canonical⟩
  · rw [data_written receiving last next fits]
    refine ⟨rfl, fun more => ?_, fun ends whole agrees => ?_, fun ends h => ?_⟩
    · exact if_neg (ne_true_of_eq_false more)
    · exact (if_pos ends).trans (closeTransfer_ready (x := written) whole agrees)
    · exact (if_pos ends).trans (closeTransfer_fails (x := written) h)
  · intro y o k opened good freed pages
    have same : pagesNeeded o.channels o.length = pages := pagesNeeded_eq _ _
    refine ⟨openLoad_badForm, openLoad_inUse, fun form free => ⟨fun none_ => ?_, fun first rest found => ?_⟩⟩
    · exact openLoad_noSpace form free (same ▸ none_)
    · intro loading
      rw [openLoad_receives form free (same ▸ found), same]
      rfl

end Sys2Proof.Machine
end

section
/-! PROOFS. An accepted link frame at the transmitter site (sections 9.5, 10.1, 10.3 and 10.5, R182, R183, R186,
R190). -/

namespace Sys2Proof.Machine

section
variable (n : Node)

/-! ## What the test of the return condition leaves unchanged -/

@[simp] theorem testReturn_cfg : (testReturn n).cfg = n.cfg := by unfold testReturn; split <;> rfl
@[simp] theorem testReturn_accepted : (testReturn n).site.accepted = n.site.accepted := by
  unfold testReturn; split <;> rfl
@[simp] theorem testReturn_lastGood : (testReturn n).site.lastGood = n.site.lastGood := by
  unfold testReturn; split <;> rfl

variable {n}

/-! ## The accepted-frame count (R190) -/

theorem countAccepted_counts (more : (n.site.accepted + 1) % 25 ≠ 0) :
    countAccepted n = { n with site := { n.site with accepted := (n.site.accepted + 1) % 25 } } := if_neg more

/-- At the count's return to 0 a return frame is made of the present values, with the return sequence before it
advances. -/
theorem countAccepted_returns (full : (n.site.accepted + 1) % 25 = 0) :
    countAccepted n =
      { n with
        site :=
          { n.site with accepted := 0, returnSeq := n.site.returnSeq + 1, lastSent := some n.makeReturn } } := by
  refine (if_pos full).trans ?_
  rw [full]
  rfl

end

/-- Settles O56: the attachment, the buffer and the good run, the return condition, and the count with and without the
return frame. -/
theorem siteFrameAccepted : Obligations.SiteFrameAccepted := by
  intro f n x p good y returns m withCrc
  have tested : testReturn { n with site := x.offerFrame f } = m := by
    have condition : Node.siteMayReturn { n with site := x.offerFrame f } = true ↔ returns := Node.siteMayReturn_iff
    by_cases h : returns
    · exact (testReturn_returns (condition.mpr h)).trans (if_pos h).symm
    · exact (testReturn_stays (mt condition.mp h)).trans (if_neg h).symm
  have cfg : m.cfg = n.cfg := by rw [← tested, testReturn_cfg]
  have accepted : m.site.accepted = x.accepted := by rw [← tested, testReturn_accepted]; rfl
  have lastGood : m.site.lastGood = f.seq := by rw [← tested, testReturn_lastGood]; rfl
  show (countAccepted (testReturn { n with site := x.offerFrame f }), _) = _
  rw [tested]
  refine Prod.ext ?_ rfl
  by_cases full : (x.accepted + 1) % 25 = 0
  · refine (countAccepted_returns (by rw [accepted]; exact full)).trans ((if_pos full).trans ?_).symm
    rw [← cfg, ← lastGood]
    rfl
  · refine (countAccepted_counts (by rw [accepted]; exact full)).trans ((if_neg full).trans ?_).symm
    rw [accepted]

end Sys2Proof.Machine
end

section
/-! PROOFS. The key inputs and the tallies (sections 11.1 and 11.2, R191, R193, R195, R196). -/

namespace Sys2Proof.Machine

/-! ## A key input at a boundary (R193) -/

theorem KeyState.sample_eq (k : KeyState) (level : Bool) :
    k.sample level =
      if level = k.accepted then { k with stable := 0 }
      else if k.stable + 1 < 10 then { k with stable := k.stable + 1 }
      else { accepted := level, stable := 0 } := by
  unfold KeyState.sample
  by_cases early : k.stable + 1 < 10
  · rw [if_neg (Nat.not_le.mpr early), if_pos early]
  · rw [if_pos (Nat.not_lt.mp early), if_neg early]

section
variable {n : Node} {i : Nat}

theorem sampledKeys_iff {j : KeyState} :
    (sampledKeys n)[i]? = some j ↔
      ∃ k level, n.lines.keys[i]? = some k ∧ n.pins.keys[i]? = some level ∧ k.sample level = j :=
  List.getElem?_zipWith_eq_some

theorem getD_accepted_iff (ks : List KeyState) :
    (ks.getD i .reset).accepted = true ↔ ∃ j, ks[i]? = some j ∧ j.accepted = true := by
  rw [List.getD_eq_getElem?_getD]
  cases ks[i]? <;> simp [KeyState.reset]

/-- A key input stands accepted ACTIVE after the sampling where it is sampled and its new accepted level is ACTIVE. -/
theorem sampledKeys_accepted :
    ((sampledKeys n).getD i .reset).accepted = true ↔
      ∃ k level, n.lines.keys[i]? = some k ∧ n.pins.keys[i]? = some level ∧ (k.sample level).accepted = true := by
  simp only [getD_accepted_iff, sampledKeys_iff]
  constructor
  · rintro ⟨_, ⟨k, level, atKey, atPin, rfl⟩, active⟩
    exact ⟨k, level, atKey, atPin, active⟩
  · rintro ⟨k, level, atKey, atPin, active⟩
    exact ⟨_, ⟨k, level, atKey, atPin, rfl⟩, active⟩

theorem mem_pressed {key : Nat} :
    key ∈ (keySample n).lines.pressed ↔
      ∃ i k level, i < 8 ∧ key = i + 1 ∧ n.lines.keys[i]? = some k ∧ n.pins.keys[i]? = some level ∧
        k.accepted = false ∧ (k.sample level).accepted = true := by
  simp only [keySample, List.mem_map, List.mem_filter, List.mem_range, Bool.and_eq_true, sampledKeys_accepted,
    Bool.not_eq_true']
  constructor
  · rintro ⟨i, ⟨below, ⟨k, level, atKey, atPin, active⟩, before⟩, rfl⟩
    rw [List.getD_eq_getElem?_getD, atKey] at before
    exact ⟨i, k, level, below, rfl, atKey, atPin, before, active⟩
  · rintro ⟨i, k, level, below, rfl, atKey, atPin, before, active⟩
    refine ⟨i, ⟨below, ⟨k, level, atKey, atPin, active⟩, ?_⟩, rfl⟩
    rw [List.getD_eq_getElem?_getD, atKey]
    exact before

end

/-! ## Where the stages of the local lines stand (R193, R196, log 1) -/

section
variable {n : Node}

theorem stages_onBus (bus : n.onBus = true) : n.stages = stationStages := if_pos bus

theorem stages_site (bus : n.onBus = false) (works : n.siteWorks = true) : n.stages = siteStages :=
  (if_neg (ne_true_of_eq_false bus)).trans (if_pos works)

theorem stages_idle (bus : n.onBus = false) (works : n.siteWorks = false) :
    n.stages = if n.station = .unconfigured then [.tallyApply, .closeBoundary] else [] :=
  (if_neg (ne_true_of_eq_false bus)).trans (if_neg (ne_true_of_eq_false works))

/-- No key is sampled at a boundary of a part that is not on the bus. -/
theorem keySample_notMem (bus : n.onBus = false) : Stage.keySample ∉ n.stages := by
  cases works : n.siteWorks
  · rw [stages_idle bus works]
    split <;> decide
  · rw [stages_site bus works]
    decide

/-- The staging pattern is applied first in a boundary, and once. -/
theorem stages_tallyFirst (h : n.onBus = true ∨ n.siteWorks = true ∨ n.station = .unconfigured) :
    ∃ later, n.stages = .tallyApply :: later ∧ Stage.tallyApply ∉ later := by
  cases bus : n.onBus
  · cases works : n.siteWorks
    · have unconfigured : n.station = .unconfigured := by simpa [bus, works] using h
      rw [stages_idle bus works, if_pos unconfigured]
      exact ⟨_, rfl, by decide⟩
    · rw [stages_site bus works]
      exact ⟨_, rfl, by decide⟩
  · rw [stages_onBus bus]
    exact ⟨_, rfl, by decide⟩

/-! ## The staging pattern (R191, R195) -/

/-- An output of a pattern that stands at one level throughout; beyond its end it is off. -/
theorem replicate_getD (count i : Nat) (level : Bool) :
    (List.replicate count level).getD i false = if i < count then level else false := by
  rw [List.getD_eq_getElem?_getD, List.getElem?_replicate]
  split <;> rfl

theorem pattern_config (station : n.station = .config) : n.pattern = List.replicate 8 false := by
  unfold Node.pattern
  rw [station]

theorem pattern_unconfigured (station : n.station = .unconfigured) : n.pattern = List.replicate 8 (!n.badSite) := by
  unfold Node.pattern
  rw [station]

theorem pattern_works (h1 : n.station ≠ .config) (h2 : n.station ≠ .unconfigured) :
    n.pattern = if n.cfg.roles.site then n.siteTallies else n.cfg.tallyFns.map n.lit := by
  unfold Node.pattern
  split
  case h_1 config => exact absurd config h1
  case h_2 unconfigured => exact absurd unconfigured h2
  case h_3 => rfl

theorem siteTallies_eq {c1 c2 c3 c4 : Bool} (contacts : n.site.contacts = [c1, c2, c3, c4]) :
    n.siteTallies =
      [decide (n.site.mode = .following), decide (n.site.mode = .concealing), decide (n.site.mode = .reserve), c1, c2,
        c3, c4, decide (n.site.mode = .reserve) && !n.site.reserve.playing] := by
  simp only [Node.siteTallies, contacts]
  rfl

theorem callerWaiting_iff :
    n.callerWaiting = true ↔
      (n.cfg.roles.phone = true ∧ n.phone.queue ≠ []) ∨
        (n.cfg.roles.phone = false ∧ n.cfg.phoneStation ≠ 0 ∧ (n.bus.entry n.cfg.phoneStation).present = true ∧
          ∃ p, (n.bus.entry n.cfg.phoneStation).phone = some p ∧ p.queue ≠ []) := by
  unfold Node.callerWaiting
  cases n.cfg.roles.phone
  · by_cases none_ : n.cfg.phoneStation = 0
    · simp [none_]
    · cases shown : (n.bus.entry n.cfg.phoneStation).phone <;> simp [none_, shown]
  · simp

theorem tallyLinkFault_iff :
    n.tallyLinkFault = true ↔
      (n.cfg.roles.link = true ∧ (n.link.deadAir = true ∨ n.link.returnLost = true)) ∨
        (n.cfg.roles.link = false ∧ ∀ l, n.announced = some l → l.lost = true) := by
  unfold Node.tallyLinkFault Node.linkFault
  cases n.cfg.roles.link
  · cases n.announced <;> simp
  · simp

/-- A function that is none lights no output, so an output without a function is off. -/
theorem tallies_getD (fns : List TallyFn) (i : Nat) :
    (fns.map n.lit).getD i false = n.lit (fns.getD i .none) := by
  rw [List.getD_eq_getElem?_getD, List.getD_eq_getElem?_getD, List.getElem?_map]
  cases fns[i]? <;> rfl

end

/-- Settles O60: the key inputs, the application of the staging pattern, and the pattern in each station state. -/
theorem keysAndTallies : Obligations.KeysAndTallies := by
  intro m n x after sampled restaged out phone works s shows
  have sampleAfter (k : KeyState) (level : Bool) : k.sample level = after k level := k.sample_eq level
  have outputs {p : List Bool} (h : n.pattern = p) (i : Nat) : out i = p.getD i false := by rw [← h]; rfl
  refine ⟨fun i k level key pin => ?_, fun key => ?_, rfl, keySample_notMem, rfl, stages_tallyFirst, rfl,
    fun config i => ?_, fun unconfigured i below => ?_, fun ⟨h1, h2⟩ station i => ?_,
    fun ⟨h1, h2⟩ site c1 c2 c3 c4 contacts => ?_⟩
  · rw [← sampleAfter]
    exact sampledKeys_iff.mpr ⟨k, level, key, pin, rfl⟩
  · simp only [← sampleAfter]
    exact mem_pressed
  · rw [outputs (pattern_config config)]
    exact (replicate_getD 8 i false).trans (ite_self false)
  · rw [outputs (pattern_unconfigured unconfigured), replicate_getD, if_pos below, Bool.not_eq_true']
  · rw [outputs ((pattern_works h1 h2).trans (if_neg (ne_true_of_eq_false station))), tallies_getD]
    cases n.cfg.tallyFns.getD i .none with
    | none => simp [Node.lit, shows]
    | onAir => exact decide_eq_true_iff
    | next => exact Iff.rfl
    | alert => exact Iff.rfl
    | callerWaiting => exact callerWaiting_iff
    | callerOnAir => simp [Node.lit, shows]
    | silence => exact Iff.rfl
    | linkFault => exact tallyLinkFault_iff
    | busFault => simp [Node.lit, shows, h2]
  · simp only [outputs (((pattern_works h1 h2).trans (if_pos site)).trans (siteTallies_eq contacts))]
    refine ⟨decide_eq_true_iff, decide_eq_true_iff, decide_eq_true_iff, rfl, rfl, rfl, rfl, ?_⟩
    show (decide (s.mode = .reserve) && !s.reserve.playing) = true ↔ _
    rw [Bool.and_eq_true, decide_eq_true_iff, Bool.not_eq_true']

end Sys2Proof.Machine
end

section
/-! PROOFS. The part right after a pin reset (section 11.7 and the reset tables of the chapters, R200, R201). -/

namespace Sys2Proof.Machine

/-! ## Lists of entries at their reset values -/

/-- What holds of one entry at its reset value holds of a table of such entries. -/
theorem all_replicate {α : Type} {p : α → Prop} {a : α} (k : Nat) (h : p a) : ∀ e ∈ List.replicate k a, p e :=
  List.forall_mem_replicate.mpr (.inr h)

theorem Store.ofPages_clip (pages c : Nat) : (Store.ofPages pages).clip c = .reset := by
  unfold Store.clip Store.ofPages
  rw [List.getD_eq_getElem?_getD, List.getElem?_replicate]
  split <;> rfl

/-- No page of a store belongs to a clip that has been reset. -/
theorem countP_replicate_empty (k page : Nat) :
    (List.replicate k ClipEntry.reset).countP
        (fun e => decide (e.state ≠ .empty ∧ e.firstPage ≤ page ∧ page < e.firstPage + e.pageCount)) = 0 := by
  rw [List.countP_replicate]
  rfl

/-- A store without a clip covers its memory once: its pages are one free extent, or none (R67). -/
theorem Store.covered_ofPages (pages : Nat) : (Store.ofPages pages).Covered := by
  unfold Store.Covered Store.ofPages Store.emptyFree
  simp only [countP_replicate_empty]
  by_cases noPage : pages = 0
  · simp [noPage]
  · rw [if_neg noPage]
    refine ⟨List.pairwise_singleton _ _, ?_, fun page => ?_⟩
    · rintro e mem
      obtain rfl := List.mem_singleton.mp mem
      exact Nat.pos_of_ne_zero noPage
    · simp [List.countP_singleton]

theorem Phone.line_reset (i : Nat) : Phone.reset.line i = .reset := by
  unfold Phone.line Phone.reset
  rw [List.getD_eq_getElem?_getD, List.getElem?_replicate]
  split <;> rfl

/-- No line of the phone unit at reset stands in the queue or has a studio (R133, R149). -/
theorem callerQueueExact_reset : CallerQueueExact State.reset := by
  refine ⟨rfl, List.nodup_nil, fun i => ⟨fun mem => absurd mem List.not_mem_nil, ?_⟩, fun i _ _ => ?_⟩
  · show _ ∧ _ ∧ ((Phone.reset.line i).state = .queued ∨ (Phone.reset.line i).state = .held) → _
    rw [Phone.line_reset]
    rintro ⟨_, _, queued | held⟩
    · cases queued
    · cases held
  · show (Phone.reset.line i).studio ≠ none ↔ (Phone.reset.line i).state = .onAir
    rw [Phone.line_reset]
    exact ⟨fun given => absurd rfl given, fun onAir => nomatch onAir⟩

/-- No clip of either store is LOADING at reset, and no load goes on (R82, R192). -/
theorem loadsMatchClips_reset : LoadsMatchClips State.reset := by
  have notLoading (c : Nat) : ((Store.ofPages 0).clip c).state ≠ .loading := by
    rw [Store.ofPages_clip]
    decide
  refine ⟨List.length_replicate, Nat.zero_le 4, List.nodup_nil, fun c => ?_, fun l mem => absurd mem List.not_mem_nil,
    List.length_replicate, fun c => ?_⟩
  · exact ⟨fun loading => absurd loading (notLoading c), fun ⟨_, mem, _⟩ => nomatch mem⟩
  · exact ⟨fun loading => absurd loading (notLoading c), fun ⟨receiving, _⟩ => nomatch receiving⟩

/-- Settles O4: the invariants, and then each unit's reset value, the tables entry by entry. -/
theorem resetState : Obligations.ResetState := by
  refine ⟨rfl, rfl, rfl, callerQueueExact_reset, loadsMatchClips_reset,
    ⟨Store.covered_ofPages 0, Store.covered_ofPages 0⟩, ⟨rfl, rfl⟩, ?bus, ?streams, ?mixer, ?meters, ?store, ?cue,
    ?air, ?phone, ?alert, ?link, ?site, rfl, rfl, rfl, rfl, rfl, rfl, all_replicate 8 ⟨rfl, rfl⟩⟩
  case bus =>
    refine ⟨rfl, rfl, rfl, rfl, rfl, rfl, rfl, rfl, rfl, rfl, rfl, rfl, rfl, rfl, all_replicate 30 ?_⟩
    exact ⟨rfl, rfl, rfl, rfl, rfl, rfl, rfl, rfl, rfl⟩
  case streams =>
    exact ⟨rfl, rfl, rfl, all_replicate 8 ⟨rfl, rfl, rfl, rfl, rfl⟩, all_replicate 2 rfl, all_replicate 8 rfl,
      all_replicate 8 ⟨rfl, rfl, rfl, rfl, rfl, rfl, rfl⟩⟩
  case mixer => exact ⟨rfl, rfl, rfl, rfl, rfl, rfl, rfl, rfl, rfl, rfl, rfl, rfl, rfl, rfl⟩
  case meters =>
    exact ⟨rfl, all_replicate 13 ⟨rfl, rfl, rfl, rfl, rfl, rfl, rfl⟩⟩
  case store => exact ⟨List.length_replicate, rfl, rfl, all_replicate 256 ⟨rfl, rfl, rfl, rfl⟩⟩
  case cue => exact ⟨rfl, rfl, rfl, rfl, rfl, all_replicate 2 ⟨rfl, rfl, rfl, rfl, rfl⟩⟩
  case air =>
    exact ⟨rfl, rfl, rfl, rfl, rfl, rfl, rfl, rfl, rfl, rfl, rfl, all_replicate 31 ⟨rfl, rfl⟩⟩
  case phone =>
    refine ⟨rfl, rfl, rfl, rfl, rfl, rfl, rfl, rfl, all_replicate 4 ?_⟩
    exact ⟨rfl, rfl, rfl, rfl, rfl, rfl, rfl, rfl, rfl, rfl, rfl, rfl⟩
  case alert => exact ⟨rfl, rfl, rfl, rfl, rfl, rfl, rfl, rfl, rfl⟩
  case link => exact ⟨rfl, rfl, rfl, rfl, rfl, rfl, rfl, rfl, rfl, rfl, rfl, rfl, rfl, rfl, rfl, rfl⟩
  case site =>
    exact ⟨rfl, rfl, rfl, rfl, rfl, rfl, rfl, rfl, rfl, rfl, rfl, rfl, rfl, rfl, List.length_replicate,
      all_replicate 256 ⟨rfl, rfl⟩, rfl, rfl, rfl, rfl, rfl, rfl, rfl⟩

end Sys2Proof.Machine
end

section
/-! PROOFS. The configuration record, its reading, and the entry to LISTEN and to RUN (sections 11.5 and 11.6, R199,
R200). -/

namespace Sys2Proof.Machine

/-! ## The settings of a record (section 11.5, R39, R59, R61, R64, R185) -/

/-- Entry `i` of a table made of so many fields of the record. -/
theorem getD_map_range {α : Type} (f : Nat → α) {count i : Nat} (h : i < count) (z : α) :
    ((List.range count).map f).getD i z = f i := by
  rw [List.getD_eq_getElem?_getD, List.getElem?_map, List.getElem?_range h]
  rfl

/-- A value kept within two limits (R39, R59, R185). -/
theorem max_min_eq {lo hi : Nat} (h : lo ≤ hi) (v : Nat) :
    max lo (min v hi) = if v < lo then lo else if hi < v then hi else v := by
  split
  · omega
  · split <;> omega

theorem min_eq_ite (v hi : Nat) : min v hi = if hi < v then hi else v := by split <;> omega

theorem pagesOfMib_eq (mib : Nat) :
    pagesOfMib mib =
      if mib < 32 then 1024 else if mib < 64 then 2048 else if mib < 128 then 4096 else if mib < 256 then 8192
      else 16384 := by
  unfold pagesOfMib
  split_ifs <;> omega

section
variable (r : List Byte)

theorem settingsOf_startDepth :
    (settingsOf r).startDepth =
      if byteAt r 58 = 255 then 3 else if byteAt r 58 < 1 then 1 else if 8 < byteAt r 58 then 8 else byteAt r 58 :=
  congrArg (fun v => if byteAt r 58 = 255 then 3 else v) (max_min_eq (by decide) (byteAt r 58))

theorem settingsOf_startDepth_le : (settingsOf r).startDepth ≤ 8 := by
  rw [settingsOf_startDepth]
  split_ifs <;> omega

/-- The start depth leaves room for a high mark of 15, so the two limits of the high mark never cross (R39). -/
theorem settingsOf_highMark :
    (settingsOf r).highMark =
      if byteAt r 59 = 255 then 10 else if 15 < byteAt r 59 then 15
      else if byteAt r 59 < (settingsOf r).startDepth + 2 then (settingsOf r).startDepth + 2 else byteAt r 59 := by
  have depth := settingsOf_startDepth_le r
  show (if byteAt r 59 = 255 then 10 else min 15 (max (byteAt r 59) ((settingsOf r).startDepth + 2))) = _
  split_ifs <;> omega

theorem bankOfBytes_gains {i : Nat} (h : i < 8) (start : Nat) :
    (bankOfBytes (r.drop start)).gains.getD i 0 = fieldAt r (start + 2 * i) 2 := by
  unfold bankOfBytes
  rw [getD_map_range _ h, fieldAt_drop]

theorem bankOfBytes_duckDepth (start : Nat) :
    (bankOfBytes (r.drop start)).duckDepth = fieldAt r (start + 16) 2 := fieldAt_drop r start 16 2

theorem settingsOf_keyFns {i : Nat} (h : i < 8) :
    (settingsOf r).keyFns.getD i .none = keyFnOf (byteAt r (109 + i)) :=
  getD_map_range (fun k => keyFnOf (byteAt r (109 + k))) h KeyFn.none

theorem settingsOf_tallyFns {i : Nat} (h : i < 8) :
    (settingsOf r).tallyFns.getD i .none = tallyFnOf (byteAt r (117 + i)) :=
  getD_map_range (fun k => tallyFnOf (byteAt r (117 + k))) h TallyFn.none

end

/-! ## The reading of the record (R199) -/

theorem rolesGood_iff (n : Nat) : rolesGood n = true ↔ n = 16 ∨ (1 ≤ n ∧ n ≤ 15) := by
  simp only [rolesGood, Bool.and_eq_true, Bool.or_eq_true, decide_eq_true_eq]
  omega

/-- SITE is the role set 16 among those that pass the check of R199. -/
theorem rolesOfByte_site {n : Nat} (h : n = 16 ∨ (1 ≤ n ∧ n ≤ 15)) : (rolesOfByte n).site = true ↔ n = 16 := by
  have limit : n < 17 := by omega
  revert h
  show _ → (n.testBit 4 = true ↔ n = 16)
  revert n
  decide

section
variable {r : List Byte}

theorem recordRead_iff :
    recordRead r = true ↔
      crcBytes (r.take (r.length - 4)) = r.drop (r.length - 4) ∧ byteAt r 2 = 1 ∧ 1 ≤ byteAt r 3 ∧ byteAt r 3 ≤ 30 ∧
        (byteAt r 4 = 16 ∨ (1 ≤ byteAt r 4 ∧ byteAt r 4 ≤ 15)) := by
  simp only [recordRead, Bool.and_eq_true, decide_eq_true_eq, rolesGood_iff, and_assoc]

theorem recordGood_iff :
    recordGood r = true ↔
      recordRead r = true ∧ (byteAt r 50 ≤ 1 ∧ byteAt r 57 ≤ 1 ∧ byteAt r 56 ≤ 30 ∧ byteAt r 72 ≤ 15) ∧
        ∀ i, i < 8 → byteAt r (109 + i) ≤ 10 ∧ byteAt r (117 + i) ≤ 8 := by
  simp only [recordGood, Bool.and_eq_true, decide_eq_true_eq, List.all_eq_true, List.mem_range, and_assoc,
    Nat.lt_succ_iff]

/-- A good record of the role set 16, and no other good record, is that of a SITE chip. -/
theorem settingsOf_site (good : recordGood r = true) : (settingsOf r).roles.site = true ↔ byteAt r 4 = 16 := by
  obtain ⟨read, _⟩ := recordGood_iff.mp good
  obtain ⟨_, _, _, _, roles⟩ := recordRead_iff.mp read
  exact rolesOfByte_site roles

end

section
variable {mem : List Byte} {len : Nat}

theorem recordBytesOf_eq (hl : beNat (memoryBytes mem 2) = len) :
    recordBytesOf mem = if 129 ≤ len ∧ len ≤ 512 then some (memoryBytes mem len) else none := by
  subst hl
  rfl

theorem readRecord_good (hl : beNat (memoryBytes mem 2) = len) (range : 129 ≤ len ∧ len ≤ 512)
    (good : recordGood (memoryBytes mem len) = true) :
    readRecord mem = some (settingsOf (memoryBytes mem len)) := by
  unfold readRecord
  rw [recordBytesOf_eq hl, if_pos range]
  exact if_pos good

theorem readRecord_bad (hl : beNat (memoryBytes mem 2) = len)
    (bad : ¬ ((129 ≤ len ∧ len ≤ 512) ∧ recordGood (memoryBytes mem len) = true)) : readRecord mem = none := by
  unfold readRecord
  rw [recordBytesOf_eq hl]
  by_cases range : 129 ≤ len ∧ len ≤ 512
  · rw [if_pos range]
    exact if_neg fun good => bad ⟨range, good⟩
  · rw [if_neg range]

/-- The record passes the first four checks of R199 and its role set is SITE (log 22). -/
theorem siteRecord_iff (hl : beNat (memoryBytes mem 2) = len) :
    siteRecord mem = true ↔
      (129 ≤ len ∧ len ≤ 512) ∧ recordRead (memoryBytes mem len) = true ∧ byteAt (memoryBytes mem len) 4 = 16 := by
  unfold siteRecord
  rw [recordBytesOf_eq hl]
  by_cases range : 129 ≤ len ∧ len ≤ 512
  · rw [if_pos range]
    simp only [range, true_and, Bool.and_eq_true]
    refine and_congr_right fun read => rolesOfByte_site ?_
    obtain ⟨_, _, _, _, roles⟩ := recordRead_iff.mp read
    exact roles
  · rw [if_neg range]
    exact ⟨fun absent => absurd absent Bool.false_ne_true, fun ⟨within, _⟩ => absurd within range⟩

end

/-! ## The end of the reading (R200) -/

section
variable {n : Node} {bytes : List Byte}

theorem configRead_otherState (h : n.station ≠ .config) : configRead bytes n = n := if_neg h

theorem configRead_bad (h : n.station = .config) (bad : readRecord bytes = none) :
    configRead bytes n = { n with station := .unconfigured, badSite := siteRecord bytes } := by
  unfold configRead
  rw [if_pos h, bad]

theorem configRead_site {c : Settings} (h : n.station = .config) (read : readRecord bytes = some c)
    (site : c.roles.site = true) : configRead bytes n = startSite c (takeSettings c n) := by
  unfold configRead
  rw [if_pos h, read]
  exact if_pos site

theorem configRead_station {c : Settings} (h : n.station = .config) (read : readRecord bytes = some c)
    (site : c.roles.site = false) : configRead bytes n = enterListen (takeSettings c n) := by
  unfold configRead
  rw [if_pos h, read]
  exact if_neg (ne_true_of_eq_false site)

end

/-- CONFIG_READ_DONE between two boundaries. -/
theorem exec_configReadDone {s : State} {bytes : List Byte} {m : Node} (q : Quiet s)
    (h : configRead bytes s.node = m) : exec (.configReadDone bytes) s = .next (settle { s with node := m }) := by
  refine congrArg Host.Outcome.next ((onNode_quiet q _).trans ?_)
  rw [h]

/-! ## The entry to RUN (R200, R24) -/

/-- Whether an index of the outgoing set becomes ACTIVE at the entry to RUN is its role's. -/
theorem activateOut_eq {i : Nat} {role : Bool} {n : Node} (h : sendsIndex n.cfg.roles i = role) :
    activateOut i n =
      if role then
        { n with
          streams :=
            { n.streams with outgoing := n.streams.outgoing.modify i (fun o => { o with state := .active }) } }
      else n := by
  subst h
  rfl

theorem activateOut_cfg (i : Nat) (n : Node) : (activateOut i n).cfg = n.cfg := by
  unfold activateOut
  rw [requestOut_frame]

theorem windowDue_of {n : Node} (listen : n.station = .listen) (ended : 500 ≤ n.windowCount) :
    n.windowDue = true := by
  unfold Node.windowDue
  rw [decide_eq_true listen, decide_eq_true ended]
  rfl

/-- Settles O57: the settings field by field, the pin reset, the three outcomes of a reading, the entry to RUN. -/
theorem startUpDecided : Obligations.StartUpDecided := by
  refine ⟨fun r => ?settings, fun s => rfl, fun s bytes q => ?reading, fun s rest place listen ended => ?window⟩
  case settings =>
    refine ⟨rfl, ⟨rfl, rfl, rfl, rfl, rfl⟩, pagesOfMib_eq _, rfl, rfl, rfl, rfl, rfl, rfl, rfl, rfl, rfl,
      settingsOf_startDepth r, settingsOf_highMark r, ?_, ?_, ?_, ?_, rfl, rfl, rfl, fun i h => ?_,
      bankOfBytes_duckDepth r 73, bankOfBytes_duckDepth r 91, fun i h => ?_⟩
    · exact congrArg (fun v => if fieldAt r 60 3 = 0xFFFFFF then 0 else v) (min_eq_ite _ _)
    · exact congrArg (fun v => if fieldAt r 63 2 = 0xFFFF then 2000 else v) (max_min_eq (by decide) _)
    · exact congrArg (fun v => if fieldAt r 65 3 = 0xFFFFFF then 8388608 else v) (min_eq_ite _ _)
    · exact congrArg (fun v => if fieldAt r 68 2 = 0xFFFF then 1250 else v) (max_min_eq (by decide) _)
    · exact ⟨bankOfBytes_gains r h 73, bankOfBytes_gains r h 91⟩
    · exact ⟨settingsOf_keyFns r h, settingsOf_tallyFns r h⟩
  case reading =>
    intro n gives first len r crcOk rolesOk rangesOk functionsOk good c
    have readIff : recordRead r = true ↔ crcOk ∧ byteAt r 2 = 1 ∧ 1 ≤ byteAt r 3 ∧ byteAt r 3 ≤ 30 ∧ rolesOk :=
      recordRead_iff
    have goodIff : good ↔ (129 ≤ len ∧ len ≤ 512) ∧ recordGood r = true := by
      rw [recordGood_iff, readIff]
      simp only [good, rangesOk, functionsOk, and_assoc]
    have readsGood (h : good) : readRecord bytes = some c :=
      readRecord_good rfl (goodIff.mp h).1 (goodIff.mp h).2
    have siteRoles (h : good) : c.roles.site = true ↔ byteAt r 4 = 16 := settingsOf_site (goodIff.mp h).2
    have siteIff : siteRecord bytes = true ↔ (129 ≤ len ∧ len ≤ 512) ∧ recordRead r = true ∧ byteAt r 4 = 16 :=
      siteRecord_iff rfl
    refine ⟨fun other => ?_, fun config notGood => ?_, fun config fine site => ?_, fun config fine site => ?_⟩
    · exact exec_configReadDone q (configRead_otherState other)
    · have unconfigured := exec_configReadDone q (configRead_bad config (readRecord_bad rfl (mt goodIff.mpr notGood)))
      intro bad asSite
      have isSite : siteRecord bytes = true ↔ asSite := by
        rw [siteIff, readIff]
        simp only [asSite, and_assoc]
        exact ⟨fun ⟨h1, h2, h3, h4, h5, h6, _, role⟩ => ⟨h1, h2, h3, h4, h5, h6, role⟩,
          fun ⟨h1, h2, h3, h4, h5, h6, role⟩ => ⟨h1, h2, h3, h4, h5, h6, .inl role, role⟩⟩
      refine ⟨fun h => ?_, fun h => ?_⟩
      · rw [isSite.mpr h] at unconfigured
        exact unconfigured
      · rw [Bool.eq_false_iff.mpr fun shown => h (isSite.mp shown)] at unconfigured
        exact unconfigured
    · exact exec_configReadDone q (configRead_site config (readsGood fine) ((siteRoles fine).mpr site))
    · have station : c.roles.site = false := Bool.eq_false_iff.mpr fun h => site ((siteRoles fine).mp h)
      exact exec_configReadDone q (configRead_station config (readsGood fine) station)
  case window =>
    intro starts roles
    refine exec_atStage rfl place (windowDue_of listen ended) ?_
    have studio := activateOut_eq (i := 0) (role := roles.studio)
      (n := { s.node with station := .run, bus := { s.node.bus with rollCountdown := some 1 } }) rfl
    have link := activateOut_eq (i := 5) (role := roles.link)
      (n := activateOut 0 { s.node with station := .run, bus := { s.node.bus with rollCountdown := some 1 } })
      (congrArg (fun c => sendsIndex c.roles 5) (activateOut_cfg _ _))
    rw [studio] at link
    exact congrArg select link

end Sys2Proof.Machine
end

section
/-! PROOFS. RESTART, what brings the soft restart, and what it leaves of each unit (sections 11.4 and 11.7, R198, R201). -/

namespace Sys2Proof.Machine

/-! ## RESTART (R198) -/

theorem restartGood_iff (c : Settings) (a : List Byte) :
    restartGood c a = true ↔ a.getD 0 0 ^^^ a.getD 1 0 = 0xFF ∧ a.getD 0 0 = c.restartCode := by
  simp only [restartGood, Bool.and_eq_true, decide_eq_true_eq]

section
variable {a : List Byte} {n : Node}

/-- A RESTART accepted where none is pending. -/
theorem ownRestart_starts (good : restartGood n.cfg a = true) (idle : n.restart = none) :
    ownRestart a n = .ok .none { n with restart := some 0 } := by
  unfold ownRestart
  rw [if_pos good, idle]

/-- A RESTART accepted while one is pending leaves its time as it is. -/
theorem ownRestart_again (good : restartGood n.cfg a = true) (pending : n.restart ≠ none) :
    ownRestart a n = .ok .none n := by
  unfold ownRestart
  rw [if_pos good]
  obtain ⟨k, count⟩ := Option.ne_none_iff_exists'.mp pending
  simp only [count]
  rw [← count]

theorem ownRestart_refused (bad : restartGood n.cfg a = false) :
    ownRestart a n =
      .refuse .badField (mapBusCounters (fun c => { c with restartRefusals := satInc c.restartRefusals }) n) :=
  if_neg (ne_true_of_eq_false bad)

/-- A RESTART of two argument bytes or more is decided by the start-up block at every station (R10). -/
theorem decideRequest_restart (src : Nat) (tag : Byte) (args : 2 ≤ a.length) :
    decideRequest 19 src tag a n = ownRestart a n := decideRequest_owner (by decide) (by decide) rfl args

end

/-- RESTART at its owner: the decision and its answer, which may be the one that brings the soft restart. -/
theorem exec_restart_asked {src dst : Nat} {tag : Byte} {a : List Byte} {s : State} {r : Reply}
    (asked : Asked src dst a.length s) (args : 2 ≤ a.length) (reply : ownRestart a s.node.heard = r) :
    exec (.restart src dst tag a) s =
      .next
        (settle
          { s with
            node :=
              offerPacket src (.answer 19 tag r.result r.data) (decide (r.result = .ok) && s.node.restart.isNone)
                r.node }) := by
  rw [exec_request rfl, onRequest_asked asked]
  have decided : decideRequest (19 : Byte).toNat src tag a s.node.heard = r :=
    (decideRequest_restart src tag args).trans reply
  simp only [decided, bringsRestart, heard_restart]
  rfl

/-! ## What brings the soft restart (R198) -/

theorem restartDue_of {n : Node} {k : Nat} (h : n.restart = some k) (tenth : 10 ≤ k) : n.restartDue = true := by
  unfold Node.restartDue
  rw [h]
  exact decide_eq_true tenth

/-- The end of the sending of the OK answer that a pending soft restart waits for. -/
theorem sendingComplete_restarts {n : Node} {cls : Nat} {wire : List Byte} {p : Packet} {rest : List Packet}
    (hl : n.bus.line = .sending cls wire) (hq : n.bus.queue cls = p :: rest) (ok : p.restartOk = true)
    (pending : n.restart ≠ none) : sendingComplete n = softRestart { n with bus := n.bus.sentHead cls } := by
  have hh : n.bus.head cls = some p := by unfold Bus.head; rw [hq]; rfl
  have both : (p.restartOk && n.restart.isSome) = true := by
    rw [ok, Option.isSome_iff_ne_none.mpr pending]
    rfl
  unfold sendingComplete
  simp only [hl, hh, both]
  rfl

/-! ## The clip store (R82) -/

section
variable {d : Store} {k : Nat} {ls : List LoadContext}

theorem emptyClip_of_empty (h : (d.clip k).state = .empty) : d.emptyClip k = d := if_pos h

theorem emptyClip_same (h : (d.clip k).state ≠ .empty) : (d.emptyClip k).clip k = (d.clip k).toEmpty := by
  unfold Store.emptyClip
  rw [if_neg h]
  exact (clip_setClip d k k _).trans (if_pos ⟨rfl, clip_in h⟩)

theorem emptyClip_other {c : Nat} (h : k ≠ c) : (d.emptyClip c).clip k = d.clip k := by
  by_cases empty : (d.clip c).state = .empty
  · rw [emptyClip_of_empty empty]
  · unfold Store.emptyClip
    rw [if_neg empty]
    exact (clip_setClip d c k _).trans (if_neg fun both => h both.1)

/-- The store after every load of a list has been ended. -/
def Store.endLoads (d : Store) (ls : List LoadContext) : Store := ls.foldl (fun x l => x.emptyClip l.clip) d

@[simp] theorem endLoads_nil : d.endLoads [] = d := rfl

@[simp] theorem endLoads_cons (l : LoadContext) : d.endLoads (l :: ls) = (d.emptyClip l.clip).endLoads ls := rfl

@[simp] theorem endLoads_dir_length : (d.endLoads ls).dir.length = d.dir.length := by
  induction ls generalizing d with
  | nil => rfl
  | cons l ls ih => rw [endLoads_cons, ih, emptyClip_dir_length]

@[simp] theorem endLoads_counters : (d.endLoads ls).counters = d.counters := by
  induction ls generalizing d with
  | nil => rfl
  | cons l ls ih => rw [endLoads_cons, ih, emptyClip_counters]

theorem endLoads_other (h : ∀ l ∈ ls, l.clip ≠ k) : (d.endLoads ls).clip k = d.clip k := by
  induction ls generalizing d with
  | nil => rfl
  | cons l ls ih =>
    obtain ⟨first, later⟩ := List.forall_mem_cons.mp h
    rw [endLoads_cons, ih later, emptyClip_other first.symm]

theorem endLoads_of_empty (h : (d.clip k).state = .empty) : (d.endLoads ls).clip k = d.clip k := by
  induction ls generalizing d with
  | nil => rfl
  | cons l ls ih =>
    have kept : (d.emptyClip l.clip).clip k = d.clip k := by
      by_cases here : k = l.clip
      · rw [← here, emptyClip_of_empty h]
      · exact emptyClip_other here
    rw [endLoads_cons, ih (kept ▸ h), kept]

/-- A clip with a load is emptied once, whatever other loads are ended with it. -/
theorem endLoads_named (h : ∃ l ∈ ls, l.clip = k) (stored : (d.clip k).state ≠ .empty) :
    (d.endLoads ls).clip k = (d.clip k).toEmpty := by
  induction ls generalizing d with
  | nil => obtain ⟨_, mem, _⟩ := h; cases mem
  | cons l ls ih =>
    rw [endLoads_cons]
    by_cases here : k = l.clip
    · have emptied := emptyClip_same stored
      rw [← here, endLoads_of_empty (by rw [emptied]; rfl), emptied]
    · have later : ∃ x ∈ ls, x.clip = k := by
        obtain ⟨x, mem, named⟩ := h
        rcases List.mem_cons.mp mem with rfl | mem
        · exact absurd named.symm here
        · exact ⟨x, mem, named⟩
      have kept : (d.emptyClip l.clip).clip k = d.clip k := emptyClip_other here
      rw [ih later (kept ▸ stored), kept]

end

section
variable (d : Store)

theorem Store.soft_dir : d.soft.dir = (d.endLoads d.loads).dir.map (fun e => { e with useCount := 0 }) := rfl

theorem Store.soft_free : d.soft.free = (d.endLoads d.loads).free := rfl

theorem Store.soft_counters : d.soft.counters = d.counters := endLoads_counters

theorem Store.soft_dir_length : d.soft.dir.length = d.dir.length := by
  rw [Store.soft_dir, List.length_map, endLoads_dir_length]

theorem Store.soft_useCount : ∀ e ∈ d.soft.dir, e.useCount = 0 := by
  rw [Store.soft_dir]
  rintro _ mem
  obtain ⟨_, _, rfl⟩ := List.mem_map.mp mem
  rfl

theorem Store.soft_clip (k : Nat) : d.soft.clip k = { (d.endLoads d.loads).clip k with useCount := 0 } := by
  unfold Store.clip
  rw [Store.soft_dir]
  exact List.getD_map _ ClipEntry.reset (fun e : ClipEntry => { e with useCount := 0 })

/-- A clip that is not loading keeps all but its use count. -/
theorem Store.soft_clip_kept {k : Nat} (h : ∀ l ∈ d.loads, l.clip ≠ k) :
    d.soft.clip k = { d.clip k with useCount := 0 } := by
  rw [Store.soft_clip, endLoads_other h]

/-- A clip that was loading is EMPTY, with its serial and its last failure. -/
theorem Store.soft_clip_ended {k : Nat} (h : ∃ l ∈ d.loads, l.clip = k) (stored : (d.clip k).state ≠ .empty) :
    d.soft.clip k =
      { ClipEntry.reset with serial := (d.clip k).serial, lastFailure := (d.clip k).lastFailure } := by
  rw [Store.soft_clip, endLoads_named h stored]
  rfl

end

/-! ## The bus unit (R23) -/

/-- With no sending to end first, every queue is emptied at once. -/
theorem Bus.soft_queues {b : Bus} (h : ∀ cls wire, b.line ≠ .sending cls wire) :
    b.soft.q0 = [] ∧ b.soft.q1 = [] ∧ b.soft.q2 = [] ∧ b.soft.q3 = [] := by
  unfold Bus.soft
  cases line : b.line with
  | sending cls wire => exact absurd line (h cls wire)
  | _ => exact ⟨rfl, rfl, rfl, rfl⟩

/-- The queues apart, a sending in progress makes no difference to what the soft restart leaves. -/
theorem Bus.soft_tables (b : Bus) :
    b.soft.consecutive = 0 ∧ b.soft.presence = List.replicate 30 .absent ∧ b.soft.linkStation = none ∧
      b.soft.rollCountdown = none ∧ b.soft.requesters = [] ∧ b.soft.tagCounter = 0 ∧
      b.soft.counters = b.counters := by
  unfold Bus.soft
  cases b.line <;> exact ⟨rfl, rfl, rfl, rfl, rfl, rfl, rfl⟩

/-- Settles O58: RESTART by its code, the two events that bring the soft restart, and the soft restart block by
block. -/
theorem restartDecided : Obligations.RestartDecided := by
  refine ⟨fun s src dst tag a asked args => ?restart, fun s rest k place pending tenth => ?deadline,
    fun s cls wire p rest q hl hq drain ok pending site => ?sent, fun n => ?soft⟩
  case restart =>
    intro n accepted
    have goodIff : restartGood n.cfg a = true ↔ accepted := by
      rw [restartGood_iff, heard_cfg]
    refine ⟨fun good idle => ?_, fun good again => ?_, fun bad => ?_⟩
    · have reply := ownRestart_starts (goodIff.mpr good) ((heard_restart s.node).trans idle)
      rw [exec_restart_asked asked args reply, idle]
      rfl
    · have reply := ownRestart_again (goodIff.mpr good) (by rw [heard_restart]; exact again)
      rw [exec_restart_asked asked args reply, Option.isNone_eq_false_iff.mpr (Option.isSome_iff_ne_none.mpr again)]
      rfl
    · have reply := ownRestart_refused (Bool.eq_false_iff.mpr (mt goodIff.mp bad))
      rw [exec_restart_asked asked args reply]
      rfl
  case deadline => exact exec_atStage rfl place (restartDue_of pending tenth) rfl
  case sent =>
    intro b
    refine congrArg Host.Outcome.next ((onNode_onLine_station q site _).trans ?_)
    rw [sendingComplete_restarts hl hq ok pending, sentHead_eq hq drain]
  case soft =>
    refine ⟨⟨rfl, rfl, rfl, rfl, rfl⟩, Bus.soft_queues, Bus.soft_tables n.bus, rfl, ?mixer, ?store, ?cue, ?air,
      ?phone, ⟨rfl, rfl, rfl⟩, ?alert, ?link, rfl, rfl, rfl, rfl, rfl, rfl, rfl⟩
    case mixer => exact ⟨rfl, rfl, rfl, rfl, rfl, rfl, rfl, rfl, rfl, rfl, rfl⟩
    case store =>
      exact ⟨rfl, Store.soft_useCount _, Store.soft_counters _, Store.soft_dir_length _, Store.soft_free _,
        fun c => ⟨Store.soft_clip_kept _, Store.soft_clip_ended _⟩⟩
    case cue => exact ⟨rfl, rfl, rfl, rfl, rfl, rfl, rfl⟩
    case air => exact ⟨rfl, rfl, rfl, rfl, rfl, rfl, rfl, rfl, rfl⟩
    case phone => exact ⟨rfl, rfl, rfl, rfl⟩
    case alert => exact ⟨rfl, rfl, rfl, rfl, rfl, rfl, rfl, rfl⟩
    case link => exact ⟨rfl, rfl, rfl, rfl, rfl, rfl, rfl, rfl, rfl, rfl, rfl, rfl, rfl, rfl, rfl⟩

end Sys2Proof.Machine
end

section
/-! PROOFS. What a key press does (section 11.1, R194). -/

namespace Sys2Proof.Machine

/-! ## The gates of a press (R194) -/

section
variable {role : Bool} {key : Nat} {act : Node → Node} {n : Node}

theorem gateKey_outside (run : n.inRun = false) : gateKey role key act n = refuse key .notReady n := by
  unfold gateKey
  rw [run]
  rfl

theorem gateKey_wrongRole (run : n.inRun = true) (lacks : role = false) :
    gateKey role key act n = refuse key .wrongRole n := by
  unfold gateKey
  rw [run, lacks]
  rfl

theorem gateKey_acts (run : n.inRun = true) (has : role = true) : gateKey role key act n = act n := by
  unfold gateKey
  rw [run, has]
  rfl

theorem gateTake_outside (run : n.inRun = false) :
    gateTake key act n = if n.cfg.roles.studio then refuseTake key .notReady n else refuse key .notReady n := by
  unfold gateTake
  rw [run]
  rfl

theorem gateTake_wrongRole (run : n.inRun = true) (lacks : n.cfg.roles.studio = false) :
    gateTake key act n = refuse key .wrongRole n := by
  unfold gateTake
  rw [run, lacks]
  rfl

theorem gateTake_acts (run : n.inRun = true) (has : n.cfg.roles.studio = true) : gateTake key act n = act n := by
  unfold gateTake
  rw [run, has]
  rfl

end

/-! ## The configured phone station -/

section
variable {n : Node}

theorem phoneTarget_some (present : n.cfg.phoneStation ≠ 0 ∧ (n.bus.entry n.cfg.phoneStation).present = true) :
    n.phoneTarget = some n.cfg.phoneStation := if_pos present

theorem phoneTarget_none (absent : ¬ (n.cfg.phoneStation ≠ 0 ∧ (n.bus.entry n.cfg.phoneStation).present = true)) :
    n.phoneTarget = none := if_neg absent

end

/-! ## The take path (R143, R144) -/

section
variable {n : Node} {t : TakePath}

/-- The channel that a take is for: the lower-numbered FREE one. -/
theorem freeChannel_some (h : t.ch1.state = .free ∨ t.ch2.state = .free) :
    t.freeChannel = some (if t.ch1.state = .free then 1 else 2) := by
  unfold TakePath.freeChannel
  by_cases one : t.ch1.state = .free
  · rw [if_pos one, if_pos one]
  · rw [if_neg one, if_neg one, if_pos (h.resolve_left one)]

theorem freeChannel_none (h : ¬ (t.ch1.state = .free ∨ t.ch2.state = .free)) : t.freeChannel = none := by
  obtain ⟨one, two⟩ := not_or.mp h
  unfold TakePath.freeChannel
  rw [if_neg one, if_neg two]

theorem takeNext_noChannel {key : Nat} (h : n.take.freeChannel = none) : takeNext key n = refuseTake key .full n := by
  unfold takeNext
  rw [h]

section
variable {key ch : Nat} (h : n.take.freeChannel = some ch)
include h

theorem takeNext_own (own : n.cfg.roles.phone = true) : takeNext key n = localTake ch key n := by
  unfold takeNext
  rw [h]
  exact if_pos own

theorem takeNext_across (across : n.cfg.roles.phone = false) : takeNext key n = busTake ch key n := by
  unfold takeNext
  rw [h]
  exact if_neg (ne_true_of_eq_false across)

end
end

section
variable {ch key : Nat} {n : Node}

theorem localTake_refused {r : Reply} (reply : decideTake .own 0 (ch + 5) n = r) (h : r.result ≠ .ok) :
    localTake ch key n = refuseTake key r.result r.node := by
  unfold localTake mixMinusIndex
  rw [reply]
  dsimp only
  split
  case h_1 ok _ => exact absurd ok h
  case h_2 => rfl

theorem localTake_taken {r : Reply} {line : Nat} {flag : Bool} {label : List Byte}
    (reply : decideTake .own 0 (ch + 5) n = r) (ok : r.result = .ok) (data : r.data = .taken line flag label) :
    localTake ch key n =
      activateCaller ch (.line line)
        (setTake ch { TakeRecord.reset with state := .onAir, phone := some .own, line := some line } r.node) := by
  unfold localTake mixMinusIndex
  rw [reply]
  simp only [ok, data]

theorem busTake_noPhone (h : n.phoneTarget = none) : busTake ch key n = refuseTake key .notReady n := by
  unfold busTake
  rw [h]

theorem busTake_noEntry {s : Nat} (h : n.phoneTarget = some s)
    (few : n.streams.freeEntries < 1 + n.take.taking) : busTake ch key n = refuseTake key .full n := by
  unfold busTake
  rw [h]
  exact if_pos few

section
variable {s : Nat} {m : Node} (h : n.phoneTarget = some s) (room : 1 + n.take.taking ≤ n.streams.freeEntries)
include h room

theorem busTake_dropped
    (dropped : sendRequest 13 s [0, BitVec.ofNat 8 (ch + 5)] (.take ch key) n = (.dropped, m)) :
    busTake ch key n = refuse key .full m := by
  unfold busTake mixMinusIndex
  rw [h]
  dsimp only
  rw [if_neg (Nat.not_lt.mpr room), dropped]

theorem busTake_sent {tag : Byte}
    (sent : sendRequest 13 s [0, BitVec.ofNat 8 (ch + 5)] (.take ch key) n = (.sent tag, m)) :
    busTake ch key n =
      mapTakeCounters (fun c => { c with sent := satInc c.sent })
        (setTake ch { TakeRecord.reset with state := .taking, phone := some (.station s), tag := some tag } m) := by
  unfold busTake mixMinusIndex
  rw [h]
  dsimp only
  rw [if_neg (Nat.not_lt.mpr room), sent]

end
end

/-! ## Drops (R147) -/

section
variable {ch key : Nat} {n : Node}

theorem dropChannel_own (state : (n.take.channel ch).state = .onAir) (own : (n.take.channel ch).phone = some .own) :
    dropChannel ch key n = (decideDrop ((n.take.channel ch).line.getD 0) n).node := by
  unfold dropChannel Node.takeRec
  simp only [state, own]

/-- A press for a channel that is not ON_AIR is refused with a free code (log 4). -/
theorem dropChannel_refused (h : (n.take.channel ch).state ≠ .onAir) :
    dropChannel ch key n =
      refuseKey key (n.cfg.keyFn key) (.code (Config.unstatedRefusalCode n.fresh))
        (mapTakeCounters (fun c => { c with keyRefused := satInc c.keyRefused })
          { n with fresh := n.fresh + 1 }) := by
  unfold dropChannel Node.takeRec
  dsimp only
  split
  case h_1 onAir _ => exact absurd onAir h
  case h_2 onAir _ => exact absurd onAir h
  case h_3 => rfl

section
variable {s : Nat} {m : Node} (state : (n.take.channel ch).state = .onAir)
  (across : (n.take.channel ch).phone = some (.station s))
include state across

theorem dropChannel_dropped
    (dropped :
      sendRequest 15 s [BitVec.ofNat 8 ((n.take.channel ch).line.getD 0)] (.drop ch key) n = (.dropped, m)) :
    dropChannel ch key n = refuse key .full m := by
  unfold dropChannel Node.takeRec
  simp only [state, across, dropped]

theorem dropChannel_sent {tag : Byte}
    (sent : sendRequest 15 s [BitVec.ofNat 8 ((n.take.channel ch).line.getD 0)] (.drop ch key) n = (.sent tag, m)) :
    dropChannel ch key n =
      setTake ch
        { n.take.channel ch with tag := some tag, drops := (n.take.channel ch).drops ++ [tag] } m := by
  unfold dropChannel Node.takeRec
  simp only [state, across, sent]

end
end

/-! ## ANSWER_NEXT_LINE (R194) -/

section
variable {key : Nat} {n : Node}

theorem answerNextAct_outside (run : n.inRun = false) : answerNextAct key n = refuse key .notReady n := by
  unfold answerNextAct
  rw [run]
  rfl

theorem answerNextAct_own (run : n.inRun = true) (phone : n.cfg.roles.phone = true) :
    answerNextAct key n = keyResult key (decideAnswer 0 n) := by
  unfold answerNextAct
  rw [run, phone]
  rfl

theorem answerNextAct_across (run : n.inRun = true) (phone : n.cfg.roles.phone = false) :
    answerNextAct key n = answerAcross key n := by
  unfold answerNextAct
  rw [run, phone]
  rfl

theorem answerAcross_noPhone (h : n.phoneTarget = none) : answerAcross key n = refuse key .notReady n := by
  unfold answerAcross
  rw [h]

section
variable {s : Nat} {m : Node} (h : n.phoneTarget = some s)
include h

theorem answerAcross_dropped (dropped : sendRequest 11 s [0] (.answerKey key) n = (.dropped, m)) :
    answerAcross key n = refuse key .full m := by
  unfold answerAcross
  rw [h]
  simp only [dropped]

theorem answerAcross_sent {tag : Byte} (sent : sendRequest 11 s [0] (.answerKey key) n = (.sent tag, m)) :
    answerAcross key n = m := by
  unfold answerAcross
  rw [h]
  simp only [sent]

end
end

/-! ## The rows of the keys at their places in a boundary -/

/-- A row of a key function where some key of it is pressed: every such key acts, and the presses are spent. -/
theorem exec_keyRow {c : Instr} {st : Stage} {rest : List Stage} {s : State} {fns : KeyFn → Bool}
    {act : Nat → Node → Node} (row : eventStage c = some st) (place : AtStage st rest s)
    (due : stageDue st s.node = s.node.keyDue fns) (runs : stageRun st s.mem s.node = actKeys fns act s.node)
    (pressed : s.node.pressedWith fns ≠ []) :
    exec c s = .next (settle { s with agenda := rest, node := actKeys fns act s.node }) :=
  exec_atStage row place (due.trans (keyDue_of pressed)) runs

/-- Settles O59: each row at its place, and each key function outside RUN, without the role, and in RUN. -/
theorem keyPressesAct : Obligations.KeyPressesAct := by
  refine ⟨fun s rest c st fns act row place => ?rows, fun n key => ?presses⟩
  case rows =>
    intro pressed someKey m
    have stage : eventStage c = some st ∧ (∀ n, stageDue st n = n.keyDue fns) ∧
        ∀ mem n, stageRun st mem n = actKeys fns act n := by
      rcases row with ⟨rfl, rfl, rfl, rfl⟩ | ⟨rfl, rfl, rfl, rfl⟩ | ⟨rfl, rfl, rfl, rfl⟩ | ⟨rfl, rfl, rfl, rfl⟩ |
        ⟨rfl, rfl, rfl, rfl⟩ | ⟨rfl, rfl, rfl, rfl⟩ | ⟨rfl, rfl, rfl, rfl⟩
      all_goals exact ⟨rfl, fun _ => rfl, fun _ _ => rfl⟩
    obtain ⟨event, due, runs⟩ := stage
    exact exec_keyRow event place (due s.node) (runs s.mem s.node) someKey
  case presses =>
    intro fn run studio notReady wrongRole level free ch takes phone phoneThere dropped d
    refine ⟨fun outside => ?outside, fun inRun lacks => ?lacks, fun inRun has => ?studio, fun inRun own => ?own,
      fun inRun across => ?across⟩
    case outside =>
      have off : n.inRun = false := Bool.eq_false_iff.mpr outside
      refine ⟨gateKey_outside off, gateKey_outside off, gateKey_outside off, gateKey_outside off,
        answerNextAct_outside off, fun has => ?_, fun lacks => ?_⟩
      · exact ⟨(gateTake_outside off).trans (if_pos has), (gateTake_outside off).trans (if_pos has)⟩
      · exact ⟨(gateTake_outside off).trans (if_neg lacks), (gateTake_outside off).trans (if_neg lacks)⟩
    case lacks =>
      have no : n.cfg.roles.studio = false := Bool.eq_false_iff.mpr lacks
      exact ⟨gateKey_wrongRole inRun no, gateKey_wrongRole inRun no, gateKey_wrongRole inRun no,
        gateKey_wrongRole inRun no, gateTake_wrongRole inRun no, gateTake_wrongRole inRun no⟩
    case studio =>
      have take : takeNextAct key n = takeNext key n := gateTake_acts inRun has
      have drop : dropAct key n = dropChannel dropped key n := gateTake_acts inRun has
      rw [take, drop]
      refine ⟨gateKey_acts inRun has, gateKey_acts inRun has, gateKey_acts inRun has, gateKey_acts inRun has,
        fun full => takeNext_noChannel (freeChannel_none full), fun anyFree own => ?_, fun anyFree across => ?_,
        dropChannel_own, fun k state across => ⟨fun h => ?_, fun t h => ?_⟩, dropChannel_refused⟩
      · rw [takeNext_own (freeChannel_some anyFree) own]
        exact ⟨localTake_refused rfl, fun line flag label ok data => localTake_taken rfl ok data⟩
      · rw [takeNext_across (freeChannel_some anyFree) across]
        refine ⟨fun absent => busTake_noPhone (phoneTarget_none absent),
          fun there few => busTake_noEntry (phoneTarget_some there) few,
          fun there room => ⟨fun h => ?_, fun t h => ?_⟩⟩
        · exact busTake_dropped (phoneTarget_some there) room (Prod.ext h rfl)
        · exact busTake_sent (phoneTarget_some there) room (Prod.ext h rfl)
      · exact dropChannel_dropped state across (Prod.ext h rfl)
      · exact dropChannel_sent state across (Prod.ext h rfl)
    case own => exact answerNextAct_own inRun own
    case across =>
      rw [answerNextAct_across inRun across]
      refine ⟨fun absent => answerAcross_noPhone (phoneTarget_none absent), fun there => ⟨fun h => ?_, fun t h => ?_⟩⟩
      · exact answerAcross_dropped (phoneTarget_some there) (Prod.ext h rfl)
      · exact answerAcross_sent (phoneTarget_some there) (Prod.ext h rfl)

end Sys2Proof.Machine
end

section
/-! PROOFS. What the queue and the boundary do with a command (sections 0 and 5.2, R88, log 1 and log 10): a step takes
the front of the queue, every command acts between two boundaries by one of three shapes or is a reset, a boundary or
one of its events, and each keeps the sample memory canonical (R64, log 6). -/

namespace Sys2Proof.Machine

/-! ## A step takes the front of the queue -/

theorem step_cons {s : State} {c : Instr} {rest : List Instr} (front : s.pending = c :: rest) :
    step s = exec c { s with pending := rest } := by
  unfold step
  rw [front]

theorem step_nil {s : State} (empty : s.pending = []) : step s = .next s := by
  unfold step
  rw [empty]

/-- The table gives no row any bits, so that the decoder finds no command in a word. -/
theorem withFetchWord_eq (s : State) (nbits w : Nat) : s.withFetchWord nbits w = s := rfl

/-- Settles O1: the queue with a command in front and the empty queue, and the decoder. -/
theorem stepTakesTheFront : Obligations.StepTakesTheFront :=
  ⟨fun _ _ _ => step_cons, fun _ => step_nil, withFetchWord_eq⟩

/-! ## The shapes of the commands -/

/-- The meanings that act between two boundaries: on the part, by a packet's reception, and by bytes at the link
port of a SITE chip. -/
inductive BetweenShape : (State → State) → Prop
  | part (f : Memory → Node → Node) : BetweenShape (onNode f)
  | packet (f : Node → Node × Option SegmentWrite) : BetweenShape (onPacket f)
  | sitePort (bs : List Byte) : BetweenShape (onSitePort bs)

theorem actsBetween_iff (c : Instr) :
    actsBetween c = true ↔ eventStage c = none ∧ c ≠ .pinReset ∧ c ≠ .blockBoundary := by
  simp only [actsBetween, Bool.and_eq_true, Option.isNone_iff_eq_none, decide_eq_true_eq, and_assoc]

/-- Every command that acts between two boundaries has one of the three shapes. -/
theorem exec_between {c : Instr} (h : actsBetween c = true) :
    ∃ g, BetweenShape g ∧ ∀ s, exec c s = .next (g s) := by
  obtain ⟨noEvent, notReset, notBoundary⟩ := (actsBetween_iff c).mp h
  cases request : requestParts c with
  | some r => exact ⟨onRequest r.src r.dst r.code r.tag r.args, .packet _, exec_request request⟩
  | none =>
    cases c <;> simp only [eventStage, requestParts, reduceCtorEq] at noEvent request
    case pinReset => exact absurd rfl notReset
    case blockBoundary => exact absurd rfl notBoundary
    case configReadDone | sampleSetInstant | deferralExpiry | carrierAppears | sendComplete | sendCollision |
        alertLineByte | alertLineRecord | linkFrameSent | returnFrame =>
      exact ⟨_, .part _, fun _ => rfl⟩
    case packetDiscarded | block | claim | rollcall | answer | alert | clipseg =>
      exact ⟨_, .packet _, fun _ => rfl⟩
    case siteLinkFrame | siteLinkByte => exact ⟨_, .sitePort _, fun _ => rfl⟩

/-! ## The sample memory (R64, log 6) -/

section
variable {m : Memory} (canonical : m.wf = true)
include canonical

theorem applySegment_wf (w : Option SegmentWrite) : (applySegment w m).wf = true := by
  cases w with
  | none => exact canonical
  | some x => exact Memory.wf_writeAll m x.first x.words canonical

theorem applyWrite_wf (w : Option ByteWrite) : (applyWrite w m).wf = true := by
  cases w with
  | none => exact canonical
  | some x => exact Memory.wf_writeBytes m x.firstPage x.offset x.bytes canonical

theorem siteBytes_wf (bs : List Byte) (n : Node) : (siteBytes bs m n).1.wf = true := by
  induction bs generalizing m n with
  | nil => exact canonical
  | cons b bs ih => exact ih (applyWrite_wf canonical (siteByte b n).2) (siteByte b n).1

end

/-- Between two boundaries the sample memory changes by a CLIPSEG's words and by an attachment's bytes alone. -/
theorem BetweenShape.mem_wf {g : State → State} (shape : BetweenShape g) {s : State} (canonical : s.mem.wf = true) :
    (g s).mem.wf = true := by
  cases shape with
  | part f => rw [onNode_mem]; exact canonical
  | packet f => exact applySegment_wf canonical _
  | sitePort bs => exact siteBytes_wf canonical bs _

theorem exec_mem_wf {c : Instr} {s t : State} (canonical : s.mem.wf = true) (run : exec c s = .next t) :
    t.mem.wf = true := by
  by_cases between : actsBetween c = true
  · obtain ⟨g, shape, meaning⟩ := exec_between between
    rw [meaning] at run
    cases run
    exact shape.mem_wf canonical
  · rw [actsBetween_iff] at between
    cases event : eventStage c with
    | some st =>
      rw [exec_event event] at run
      cases run
      rw [boundaryRow_mem]
      exact canonical
    | none =>
      have either : c = .pinReset ∨ c = .blockBoundary := by
        by_contra neither
        exact between ⟨event, not_or.mp neither⟩
      rcases either with rfl | rfl
      · cases run
        exact canonical
      · cases run
        rw [wholeBoundary_mem]
        exact canonical

/-- Settles O3: an empty queue leaves the memory, and the command at the front of any other keeps its form. -/
theorem memoryStaysCanonical : Obligations.MemoryStaysCanonical := by
  intro s t canonical run
  cases queue : s.pending with
  | nil =>
    rw [step_nil queue] at run
    cases run
    exact canonical
  | cons c rest =>
    rw [step_cons queue] at run
    exact exec_mem_wf (s := { s with pending := rest }) canonical run

/-! ## A boundary in progress runs out (log 1) -/

/-- A command between two boundaries does on a boundary in progress what it does on that boundary run out. -/
theorem BetweenShape.finishBoundary {g : State → State} (shape : BetweenShape g) (s : State) :
    g s = g (finishBoundary s) := by
  cases shape with
  | part f => simp only [onNode, finishBoundary_idem]
  | packet f => simp only [onPacket, finishBoundary_idem]
  | sitePort bs => simp only [onSitePort, finishBoundary_idem]

theorem exec_finishBoundary {c : Instr} (between : actsBetween c = true) (s : State) :
    exec c s = exec c (finishBoundary s) := by
  obtain ⟨g, shape, meaning⟩ := exec_between between
  rw [meaning, meaning, shape.finishBoundary]

/-! ## A whole boundary, and the rest of one (R88) -/

theorem exec_blockBoundary (s : State) : exec .blockBoundary s = .next (wholeBoundary s) := rfl

theorem wholeBoundary_quiet {s : State} (quiet : s.agenda = []) :
    wholeBoundary s = settle { s with node := runStages s.mem s.node.stages s.node } := by
  unfold wholeBoundary
  rw [quiet]

theorem wholeBoundary_begun {s : State} (begun : s.agenda ≠ []) : wholeBoundary s = settle (finishBoundary s) := by
  unfold wholeBoundary
  split
  · next quiet => exact absurd quiet begun
  · rfl

/-! ## A row at its place in a boundary (log 1) -/

section
variable {st : Stage} {before after : List Stage}

theorem takeWhile_until (first : st ∉ before) :
    (before ++ st :: after).takeWhile (fun a => decide (a ≠ st)) = before := by
  rw [List.takeWhile_append_of_pos fun a ha => decide_eq_true (ne_of_mem_of_not_mem ha first)]
  simp

theorem dropWhile_until (first : st ∉ before) :
    (before ++ st :: after).dropWhile (fun a => decide (a ≠ st)) = st :: after := by
  rw [List.dropWhile_append_of_pos fun a ha => decide_eq_true (ne_of_mem_of_not_mem ha first)]
  simp

/-- Where the stage is still to come the row belongs to the boundary in progress. -/
theorem openBoundary_begun {s : State} (place : s.agenda = before ++ st :: after) :
    openBoundary st s = { s with agenda := before ++ st :: after } := by
  unfold openBoundary
  rw [if_pos (by simp [place]), ← place]

/-- Between two boundaries the row begins a new one. -/
theorem openBoundary_quiet {s : State} (quiet : Quiet s) (settled : settle s = s)
    (place : s.node.stages = before ++ st :: after) :
    openBoundary st s = { s with agenda := before ++ st :: after } := by
  have noAgenda : s.agenda = [] := quiet
  unfold openBoundary
  rw [if_neg (by simp [noAgenda]), finishBoundary_quiet quiet, settled, ← place]

section
variable {s : State} (opens : openBoundary st s = { s with agenda := before ++ st :: after }) (first : st ∉ before)
include opens first

/-- The row's event is due at its place: it takes place, and the stages after it are still to come. -/
theorem boundaryRow_due (due : stageDue st (runStages s.mem before s.node) = true) :
    boundaryRow st s =
      settle { s with agenda := after, node := stageRun st s.mem (runStages s.mem before s.node) } := by
  unfold boundaryRow
  rw [opens]
  simp only [takeWhile_until first, dropWhile_until first, due]
  simp

theorem boundaryRow_idle (idle : stageDue st (runStages s.mem before s.node) = false) : boundaryRow st s = s := by
  unfold boundaryRow
  rw [opens]
  simp only [takeWhile_until first, idle]
  simp

end

/-- The stages after an event that took place, run out: the boundary as a whole. -/
theorem wholeBoundary_afterStage {s : State} (more : after ≠ [])
    (due : stageDue st (runStages s.mem before s.node) = true) :
    wholeBoundary
        (settle { s with agenda := after, node := stageRun st s.mem (runStages s.mem before s.node) }) =
      settle { s with agenda := [], node := runStages s.mem (before ++ st :: after) s.node } := by
  rw [wholeBoundary_begun more, runStages_append, runStages_cons, runStage_due due]
  rfl

/-- A row that opens a boundary at its place: due, not due, and followed by BLOCK_BOUNDARY. -/
theorem row_takesPart {c : Instr} {s : State} (row : eventStage c = some st) (first : st ∉ before)
    (opens : openBoundary st s = { s with agenda := before ++ st :: after })
    (whole : wholeBoundary s =
      settle { s with agenda := [], node := runStages s.mem (before ++ st :: after) s.node }) :
    let n := runStages s.mem before s.node
    (stageDue st n = true → exec c s = .next (settle { s with agenda := after, node := stageRun st s.mem n })) ∧
      (stageDue st n = false → exec c s = .next s) ∧
      ∀ t, exec c s = .next t → after ≠ [] → exec .blockBoundary t = exec .blockBoundary s := by
  intro n
  rw [exec_event row]
  refine ⟨fun due => by rw [boundaryRow_due opens first due], fun idle => by rw [boundaryRow_idle opens first idle],
    fun t run more => ?_⟩
  cases run
  cases due : stageDue st n with
  | true =>
    rw [boundaryRow_due opens first due, exec_blockBoundary, exec_blockBoundary, wholeBoundary_afterStage more due,
      whole]
  | false => rw [boundaryRow_idle opens first due]

end

/-- Settles O2: the commands between boundaries, BLOCK_BOUNDARY with and without a boundary in progress, and a row of
the boundary in progress and of a new one. -/
theorem boundaryAndItsRows : Obligations.BoundaryAndItsRows := by
  refine ⟨fun c s between => exec_finishBoundary between s, fun s => ⟨fun quiet => ?quiet, fun begun => ?begun⟩,
    fun c st row => ⟨fun s before after place first => ?inProgress,
      fun s before after quiet settled place first => ?new⟩⟩
  case quiet => rw [exec_blockBoundary, wholeBoundary_quiet quiet]
  case begun =>
    rw [exec_blockBoundary, wholeBoundary_begun begun]
    rfl
  case inProgress =>
    refine row_takesPart row first (openBoundary_begun place) ?_
    rw [wholeBoundary_begun (by simp [place]), ← place]
    rfl
  case new =>
    refine row_takesPart row first (openBoundary_quiet quiet settled place) ?_
    have noAgenda : s.agenda = [] := quiet
    rw [wholeBoundary_quiet noAgenda, ← place, ← noAgenda]

end Sys2Proof.Machine
end

section
/-! PROOFS. What leaves the caller queue, the clips and the site's transfer alone, said once for each operation of
the part: the invariants of R67, R71, R133 and R188 read nothing else. -/

namespace Sys2Proof.Machine

/-! ## The tables that the invariants read -/

/-- What the caller queue's invariant reads of a line (R133). -/
def LineRecord.place (l : LineRecord) : LineState × Option Party := (l.state, l.studio)

/-- What the invariants of the clip stores read of a directory entry (R66). -/
def ClipEntry.held (e : ClipEntry) : ClipEntry := { e with received := 0, useCount := 0, lastFailure := .none }

/-- What the invariant of the loads reads of a load context (R71). -/
def LoadContext.named (l : LoadContext) : Nat × Nat := (l.clip, l.serial)

/-- The queue and the states of the lines stand as they were. -/
structure SamePhone (p q : Phone) : Prop where
  queue : q.queue = p.queue
  lines : q.lines.map LineRecord.place = p.lines.map LineRecord.place

/-- The clips, their pages and the loads stand as they were: use counts, sets received, last failures, CRCs and ages
may differ. -/
structure SameClips (d x : Store) : Prop where
  pages : x.pages = d.pages
  free : x.free = d.free
  dir : x.dir.map ClipEntry.held = d.dir.map ClipEntry.held
  loads : x.loads.map LoadContext.named = d.loads.map LoadContext.named

/-- The site's clips and what its transfer loads stand as they were. -/
structure SameSite (s x : Site) : Prop where
  clips : SameClips s.store x.store
  state : x.transfer.state = s.transfer.state
  clip : x.transfer.clip = s.transfer.clip

/-- The caller queue, the clips and the site's transfer stand as they were. -/
structure Untouched (n m : Node) : Prop where
  phone : SamePhone n.phone m.phone
  store : SameClips n.store m.store
  site : SameSite n.site m.site

theorem SamePhone.refl (p : Phone) : SamePhone p p := ⟨rfl, rfl⟩

theorem SamePhone.trans {p q r : Phone} (h : SamePhone p q) (k : SamePhone q r) : SamePhone p r :=
  ⟨k.queue.trans h.queue, k.lines.trans h.lines⟩

theorem SameClips.refl (d : Store) : SameClips d d := ⟨rfl, rfl, rfl, rfl⟩

theorem SameClips.trans {a b c : Store} (h : SameClips a b) (k : SameClips b c) : SameClips a c :=
  ⟨k.pages.trans h.pages, k.free.trans h.free, k.dir.trans h.dir, k.loads.trans h.loads⟩

theorem SameSite.refl (s : Site) : SameSite s s := ⟨.refl _, rfl, rfl⟩

theorem SameSite.trans {a b c : Site} (h : SameSite a b) (k : SameSite b c) : SameSite a c :=
  ⟨h.clips.trans k.clips, k.state.trans h.state, k.clip.trans h.clip⟩

namespace Untouched

theorem refl (n : Node) : Untouched n n := ⟨.refl _, .refl _, .refl _⟩

theorem trans {a b c : Node} (h : Untouched a b) (k : Untouched b c) : Untouched a c :=
  ⟨h.phone.trans k.phone, h.store.trans k.store, h.site.trans k.site⟩

/-- A change of other units alone. -/
theorem of_rest {n m : Node} (phone : m.phone = n.phone) (store : m.store = n.store) (site : m.site = n.site) :
    Untouched n m :=
  ⟨phone ▸ .refl _, store ▸ .refl _, site ▸ .refl _⟩

/-- `trans`, with the last change first, so that what is changed last is read off the goal. -/
theorem onto {n m x : Node} (h : Untouched m x) (k : Untouched n m) : Untouched n x := k.trans h

/-- A change of other units alone, and then `h`. -/
theorem after {n m x : Node} (h : Untouched m x) (phone : m.phone = n.phone) (store : m.store = n.store)
    (site : m.site = n.site) : Untouched n x :=
  (of_rest phone store site).trans h

theorem of_phone {n m : Node} (phone : SamePhone n.phone m.phone) (store : m.store = n.store)
    (site : m.site = n.site) : Untouched n m :=
  ⟨phone, store ▸ .refl _, site ▸ .refl _⟩

theorem of_store {n m : Node} (phone : m.phone = n.phone) (store : SameClips n.store m.store)
    (site : m.site = n.site) : Untouched n m :=
  ⟨phone ▸ .refl _, store, site ▸ .refl _⟩

theorem of_site {n m : Node} (phone : m.phone = n.phone) (store : m.store = n.store)
    (site : SameSite n.site m.site) : Untouched n m :=
  ⟨phone ▸ .refl _, store ▸ .refl _, site⟩

theorem of_airReach {n m : Node} (h : AirReach n m) : Untouched n m := by
  rw [h.1]
  exact .of_rest rfl rfl rfl

theorem foldl {α : Type} {f : Node → α → Node} (h : ∀ m x, Untouched m (f m x)) (l : List α) (n : Node) :
    Untouched n (l.foldl f n) := by
  induction l generalizing n with
  | nil => exact .refl n
  | cons x l ih => exact (h n x).trans (ih _)

theorem nat_repeat {f : Node → Node} (h : ∀ m, Untouched m (f m)) (k : Nat) (n : Node) :
    Untouched n (Nat.repeat f k n) := by
  induction k with
  | zero => exact .refl n
  | succ k ih => exact ih.trans (h _)

end Untouched

/-! ## Operations of a clip store -/

section
variable (d : Store) (c : Nat)

theorem setClip_sameClips {e : ClipEntry} (h : e.held = (d.clip c).held) : SameClips d (d.setClip c e) := by
  refine ⟨rfl, rfl, ?_, rfl⟩
  show (d.dir.set c e).map _ = _
  rw [List.map_set, h]
  unfold Store.clip
  by_cases inside : c < d.dir.length
  · rw [List.getD_eq_getElem _ _ inside, ← List.getElem_map ClipEntry.held (h := by simpa using inside)]
    exact List.set_getElem_self _
  · exact List.set_eq_of_length_le (by simpa using inside)

theorem acquire_sameClips {x : Store} (h : d.acquire c = some x) : SameClips d x := by
  unfold Store.acquire at h
  dsimp only at h
  split at h
  · cases h
    exact setClip_sameClips d c rfl
  · cases h

theorem release_sameClips : SameClips d (d.release c) := setClip_sameClips d c rfl

theorem mapLoads_sameClips {f : LoadContext → LoadContext} (h : ∀ l ∈ d.loads, (f l).named = l.named) :
    SameClips d { d with loads := d.loads.map f } := by
  refine ⟨rfl, rfl, rfl, ?_⟩
  rw [List.map_map]
  exact List.map_congr_left h

theorem counters_sameClips (k : StoreCounters) : SameClips d { d with counters := k } := ⟨rfl, rfl, rfl, rfl⟩

end

/-! ## Shared operations (R3, R12, R24 to R30, R77, R194) -/

section
variable (n : Node)

theorem offerPacket_untouched (dst : Nat) (body : PacketBody) (ok : Bool) :
    Untouched n (offerPacket dst body ok n) := by
  rw [offerPacket_frame]
  exact .of_rest rfl rfl rfl

theorem offer_untouched (dst : Nat) (body : PacketBody) : Untouched n (offer dst body n) :=
  offerPacket_untouched n dst body false

theorem sendRequest_untouched (code target : Nat) (args : List Byte) (o : Originator) :
    Untouched n (sendRequest code target args o n).2 := by
  rw [sendRequest_frame]
  exact .of_rest rfl rfl rfl

theorem untouched_of_sendRequest {code target : Nat} {args : List Byte} {o : Originator} {n m : Node}
    {out : SendOutcome} (h : sendRequest code target args o n = (out, m)) : Untouched n m := by
  have sent := sendRequest_untouched n code target args o
  rw [h] at sent
  exact sent

theorem addListen_untouched (station index : Nat) (p : Purpose) : Untouched n (addListen station index p n).2 :=
  .of_airReach (addListen_reach _ _ _ n)

theorem untouched_of_addListen {station index : Nat} {p : Purpose} {n m : Node} {out : AddOutcome}
    (h : addListen station index p n = (out, m)) : Untouched n m := by
  have asked := addListen_untouched n station index p
  rw [h] at asked
  exact asked

theorem removeListen_untouched (i : Nat) : Untouched n (removeListen i n) := .of_airReach (removeListen_reach i n)

theorem removeListenOpt_untouched (i : Option Nat) : Untouched n (removeListen? i n) := by
  cases i with
  | none => exact .refl n
  | some i => exact removeListen_untouched n i

theorem requestOut_untouched (i : Nat) (f : OutIndex → OutIndex) : Untouched n (requestOut i f n) := by
  rw [requestOut_frame]
  exact .of_rest rfl rfl rfl

theorem startOut_untouched (i line : Nat) : Untouched n (startOut i line n) := requestOut_untouched n i _

theorem stopOut_untouched (i : Nat) : Untouched n (stopOut i n) := requestOut_untouched n i _

theorem activateOut_untouched (i : Nat) : Untouched n (activateOut i n) := requestOut_untouched n i _

theorem releaseClip_untouched (c : Nat) : Untouched n (releaseClip c n) :=
  .of_store rfl (release_sameClips n.store c) rfl

theorem acquireClip_untouched (c : Nat) : Untouched n (acquireClip c n).1 := by
  unfold acquireClip
  split
  · exact .refl n
  · split
    · next granted => exact .of_store rfl (acquire_sameClips n.store c granted) rfl
    · exact .refl n

theorem refuseKey_untouched (key : Nat) (fn : KeyFn) (r : KeyResult) : Untouched n (refuseKey key fn r n) :=
  .of_rest rfl rfl rfl

theorem refuse_untouched (key : Nat) (r : Result) : Untouched n (refuse key r n) := .of_rest rfl rfl rfl

theorem settled_untouched : Untouched n n.settled := .of_rest rfl rfl rfl

theorem refreshStanding_untouched : Untouched n (refreshStanding n) := .of_rest rfl rfl rfl

/-! ## The stream unit (R25, R31 to R37) -/

theorem makeBlocks_untouched : Untouched n (makeBlocks n) := by
  refine .foldl (fun m i => ?_) _ n
  unfold makeBlock
  dsimp only
  split
  · exact .after (offer_untouched _ 31 _) rfl rfl rfl
  · exact .of_rest rfl rfl rfl

theorem blockArrives_untouched (src : Nat) (f : BlockFields) : Untouched n (blockArrives src f n) := by
  unfold blockArrives
  split
  · exact .refl n
  · exact .of_rest rfl rfl rfl

/-! ## The air unit (chapter 6) -/

theorem rollcallClaim_untouched (station level : Nat) (serial : Byte) :
    Untouched n (rollcallClaim station level serial n) := by
  have heard := Untouched.of_airReach (claimHeard_reach station level serial n)
  unfold rollcallClaim retryUnreachable
  dsimp only
  split
  · split
    · exact heard.trans (.of_airReach ((setClaimState_reach _ _ _).trans (evaluate_reach _ _)))
    · exact heard
  · exact heard

theorem setOwnClaim_untouched (level : Nat) : Untouched n (setOwnClaim level n) := by
  unfold setOwnClaim
  split
  · exact .refl n
  · have claimed := offer_untouched { n with air := { n.air with ownLevel := level, ownSerial := n.air.ownSerial + 1 } }
      31 (.claim level (n.air.ownSerial + 1))
    refine .after (claimed.trans ?_) rfl rfl rfl
    exact .trans (.of_airReach (applyClaim_reach _ _ _ _ _)) (refreshStanding_untouched _)

theorem markHolderSilent_untouched : Untouched n (markHolderSilent n) := by
  unfold markHolderSilent
  split
  · exact .trans
      (.of_airReach ((((holderOut_reach _).trans (setClaimState_reach _ _ _)).trans (mapAirCounters_reach _ _)).trans
        (select_reach _)))
      (refreshStanding_untouched _)
  · exact .refl n

theorem airSlotEnded_untouched (r : SlotReport) : Untouched n (airSlotEnded r n) := by
  unfold airSlotEnded
  split
  · exact markHolderSilent_untouched n
  · exact .refl n

theorem recover_untouched (k : Nat) : Untouched n (recover k n) := by
  unfold recover
  split
  · exact .trans
      (.of_airReach (((setClaimState_reach _ _ _).trans (mapAirCounters_reach _ _)).trans (evaluate_reach _ _)))
      (refreshStanding_untouched _)
  · exact .refl n

theorem memberLeaves_untouched (i : Nat) : Untouched n (memberLeaves i n) := by
  unfold memberLeaves
  extract_lets st keep
  split
  · exact .of_airReach ((changePurpose_reach _ _ _).trans (mapEntry_reach _ _ _))
  · exact .of_airReach ((mapEntry_reach _ _ _).trans (removeListen_reach _ _))

theorem outgoingExpiry_untouched : Untouched n (outgoingExpiry n) :=
  .after (.foldl (fun m (x : OutMember) => memberLeaves_untouched m x.entry) _ _) rfl rfl rfl

theorem alertIdChanges_untouched (id : Nat) : Untouched n (alertIdChanges id n) := by
  have handed (m : Node) (h : Untouched n m) :
      Untouched n (handOver (mapClaim 0 (fun c => { c with alertId := id }) m)) :=
    h.trans (.of_airReach ((mapClaim_reach _ _ _).trans (handOver_reach _)))
  unfold alertIdChanges
  split
  · exact handed _ (.of_rest rfl rfl rfl)
  · exact handed _ (.refl n)

/-! ## The alert unit (chapter 8) -/

theorem writeHistory_untouched (r : AlertRecord) (issuer : Nat) (o : AlertOutcome) (f : HistFlags) :
    Untouched n (writeHistory r issuer o f n) := .of_rest rfl rfl rfl

theorem mapAlertCounters_untouched (f : AlertCounters → AlertCounters) : Untouched n (mapAlertCounters f n) :=
  .of_rest rfl rfl rfl

theorem releaseClipOpt_untouched (c : Option Nat) : Untouched n (releaseClip? c n) := by
  cases c with
  | none => exact .refl n
  | some c => exact releaseClip_untouched n c

theorem releaseMessage_untouched (has : Bool) (r : AlertRecord) : Untouched n (releaseMessage has r n) := by
  unfold releaseMessage
  split
  · exact releaseClip_untouched n _
  · exact .refl n

theorem startMessage_untouched (r : AlertRecord) : Untouched n (startMessage r n) :=
  (acquireClip_untouched n r.clip).trans (.of_rest rfl rfl rfl)

theorem startActive_untouched (a : ActiveAlert) : Untouched n (startActive a n) := by
  unfold startActive
  dsimp only
  split
  · exact .after (startMessage_untouched _ _) rfl rfl rfl
  · exact .of_rest rfl rfl rfl

theorem stopPlayerClip_untouched : Untouched n (stopPlayerClip n) :=
  (releaseClipOpt_untouched n _).trans (.of_rest rfl rfl rfl)

theorem activateFrom_untouched (held : Bool) (q : List QueuedAlert) : Untouched n (activateFrom held q n) := by
  induction q generalizing n with
  | nil =>
    unfold activateFrom
    split
    · exact .of_airReach (alertReleases_reach n)
    · exact .refl n
  | cons a q ih =>
    have toned : Untouched n
        (acquireClip (n.cfg.toneClip a.record.cls) { n with alert := { n.alert with queue := q } }).1 :=
      .after (acquireClip_untouched _ _) rfl rfl rfl
    unfold activateFrom
    dsimp only
    split
    · exact .onto (ih _) (.onto (mapAlertCounters_untouched _ _) (.onto (writeHistory_untouched _ _ _ _ _) toned))
    · refine .onto (startActive_untouched _ _) ?_
      split
      · exact .onto (alertIdChanges_untouched _ _) (toned.trans (.of_rest rfl rfl rfl))
      · exact .onto (.of_airReach (alertClaims_reach _ _)) (toned.trans (.of_rest rfl rfl rfl))

theorem activateNext_untouched (held : Bool) : Untouched n (activateNext held n) := activateFrom_untouched n held _

theorem completeAlert_untouched : Untouched n (completeAlert n) := by
  unfold completeAlert
  split
  · exact .refl n
  · next a _ =>
    have released := (stopPlayerClip_untouched n).trans (releaseMessage_untouched _ a.hasMessage a.record)
    exact .onto (activateNext_untouched _ true) (released.trans (.of_rest rfl rfl rfl))

theorem enterQueue_untouched (r : AlertRecord) (issuer : Nat) : Untouched n (enterQueue r issuer n) :=
  (acquireClip_untouched n r.clip).trans (.of_rest rfl rfl rfl)

theorem evictLowest_untouched : Untouched n (evictLowest n) := by
  unfold evictLowest
  split
  · exact .onto (mapAlertCounters_untouched _ _)
      (.onto (writeHistory_untouched _ _ _ _ _) (.after (releaseMessage_untouched _ _ _) rfl rfl rfl))
  · exact .refl n

theorem queueAlert_untouched (r : AlertRecord) (issuer : Nat) : Untouched n (queueAlert r issuer n) := by
  unfold queueAlert
  split
  · exact enterQueue_untouched n r issuer
  · split
    · split
      · exact (evictLowest_untouched n).trans (enterQueue_untouched _ r issuer)
      · exact .of_rest rfl rfl rfl
    · exact enterQueue_untouched n r issuer

theorem supersede_untouched (a : ActiveAlert) (r : AlertRecord) (issuer : Nat) :
    Untouched n (supersede a r issuer n) := by
  have clips : Untouched n (acquireClip (n.cfg.toneClip r.cls) (acquireClip r.clip n).1).1 :=
    (acquireClip_untouched n _).trans (acquireClip_untouched _ _)
  unfold supersede
  dsimp only
  split
  · exact .of_rest rfl rfl rfl
  · have released := (clips.trans (stopPlayerClip_untouched _)).trans
      (releaseMessage_untouched _ a.hasMessage a.record)
    exact .onto (alertIdChanges_untouched _ _) (released.trans (.of_rest rfl rfl rfl))

theorem judgeStart_untouched (r : AlertRecord) (issuer : Nat) : Untouched n (judgeStart r issuer n) := by
  unfold judgeStart admitStart
  split
  · exact .of_rest rfl rfl rfl
  split
  · exact .of_rest rfl rfl rfl
  split
  · exact .of_rest rfl rfl rfl
  split
  · split
    · exact supersede_untouched n _ r issuer
    · exact queueAlert_untouched n r issuer
  · exact queueAlert_untouched n r issuer

theorem cancelQueued_untouched (r : AlertRecord) : Untouched n (cancelQueued r n) := by
  unfold cancelQueued
  split
  · exact .onto (mapAlertCounters_untouched _ _)
      (.onto (writeHistory_untouched _ _ _ _ _) (.after (releaseMessage_untouched _ _ _) rfl rfl rfl))
  · exact .of_rest rfl rfl rfl

theorem judgeEnd_untouched (r : AlertRecord) : Untouched n (judgeEnd r n) := by
  unfold judgeEnd
  split
  · split
    · split
      · exact .of_rest rfl rfl rfl
      · exact .of_rest rfl rfl rfl
    · exact cancelQueued_untouched n r
  · exact cancelQueued_untouched n r

theorem judgeAlert_untouched (r : AlertRecord) (issuer : Nat) : Untouched n (judgeAlert r issuer n) := by
  unfold judgeAlert
  split
  · exact .of_rest rfl rfl rfl
  split
  · exact judgeStart_untouched n r issuer
  · exact judgeEnd_untouched n r

theorem alertPacket_untouched (src : Nat) (p : List Byte) : Untouched n (alertPacket src p n) := by
  unfold alertPacket
  split
  · split
    · exact (judgeAlert_untouched n _ src).trans (.of_rest rfl rfl rfl)
    · exact .of_rest rfl rfl rfl
  · exact .refl n

theorem relayRecord_untouched (r : AlertRecord) : Untouched n (relayRecord r n) := by
  have relayed (f : AlertCounters → AlertCounters) : Untouched n (mapAlertCounters f (offer 31 (.alert r) n)) :=
    (offer_untouched n 31 _).trans (.of_rest rfl rfl rfl)
  unfold relayRecord
  dsimp only
  split
  · exact (relayed _).trans (judgeAlert_untouched _ r _)
  · exact relayed _

theorem judgeLine_untouched (bs : List Byte) : Untouched n (judgeLine bs n) := by
  unfold judgeLine
  dsimp only
  split
  · exact .of_rest rfl rfl rfl
  split
  · exact .after (relayRecord_untouched _ _) rfl rfl rfl
  · exact .of_rest rfl rfl rfl

theorem alertByte_untouched (b : Byte) (stop : Bool) : Untouched n (alertByte b stop n) := by
  unfold alertByte
  split
  · exact .refl n
  split
  · split <;> exact .of_rest rfl rfl rfl
  split
  · exact .of_rest rfl rfl rfl
  dsimp only
  split
  · exact .after (judgeLine_untouched _ _) rfl rfl rfl
  · exact .of_rest rfl rfl rfl

theorem playerDone_untouched : Untouched n (playerDone n) :=
  .onto (completeAlert_untouched _) ((releaseClipOpt_untouched n n.alert.player.clip).trans (.of_rest rfl rfl rfl))

theorem alertClipDone_untouched : Untouched n (alertClipDone n) := by
  unfold alertClipDone
  split
  · exact .refl n
  dsimp only
  split
  · split
    · exact .onto (startMessage_untouched _ _)
        ((releaseClipOpt_untouched n n.alert.player.clip).trans (.of_rest rfl rfl rfl))
    · exact playerDone_untouched n
  · split
    · exact .of_rest rfl rfl rfl
    · exact playerDone_untouched n
  · exact .refl n

theorem alertCap_untouched : Untouched n (alertCap n) := by
  unfold alertCap
  split <;> exact .of_rest rfl rfl rfl

theorem alertStartNext_untouched : Untouched n (alertStartNext n) := by
  unfold alertStartNext
  split
  · split
    · exact startActive_untouched n _
    · exact .refl n
  · exact .refl n

theorem ownAlertEndLocal_untouched (a : List Byte) : Untouched n (ownAlertEndLocal a n).node := by
  unfold ownAlertEndLocal
  split
  · exact .refl n
  split
  · exact .refl n
  dsimp only
  split <;> exact .of_rest rfl rfl rfl

/-! ## The link unit (chapter 9) -/

theorem sourceChange_untouched : Untouched n (sourceChange n) := by
  rw [sourceChange_frame]
  exact .of_rest rfl rfl rfl

theorem reserveStop_untouched : Untouched n (reserveStop n) := by
  unfold reserveStop
  split
  · exact .after (releaseClip_untouched _ _) rfl rfl rfl
  · exact .refl n

theorem reserveStart_untouched : Untouched n (reserveStart n) := by
  unfold reserveStart
  split
  · next granted => exact .of_store rfl (acquire_sameClips n.store _ granted) rfl
  · exact .refl n

theorem linkFrameMade_untouched (m : Memory) : Untouched n (linkFrameMade m n) := .of_rest rfl rfl rfl

theorem linkFrameSent_untouched : Untouched n (linkFrameSent n) := by
  unfold linkFrameSent
  dsimp only
  split
  · exact .of_rest rfl rfl rfl
  · split
    · exact .of_rest rfl rfl rfl
    · exact .refl n

theorem ownSiteClipSend_untouched (a : List Byte) : Untouched n (ownSiteClipSend a n).node := by
  unfold ownSiteClipSend
  dsimp only
  split
  · exact .refl n
  next granted =>
    split
    · exact .refl n
    split
    · exact .refl n
    · exact .of_store rfl (acquire_sameClips n.store _ granted) rfl

theorem endTransfer_untouched (r : TransferResult) : Untouched n (endTransfer r n) := by
  unfold endTransfer
  dsimp only
  split
  · exact .refl n
  · exact .trans (.after (releaseClip_untouched _ _) rfl rfl rfl) (.of_rest rfl rfl rfl)

theorem applyReturn_untouched (f : ReturnFrame) : Untouched n (applyReturn f n) := by
  unfold applyReturn
  split
  · split
    · exact endTransfer_untouched n _
    · exact endTransfer_untouched n _
    · exact endTransfer_untouched n _
    · exact .refl n
  · exact .refl n

theorem returnFrameHeard_untouched (bs : List Byte) : Untouched n (returnFrameHeard bs n) := by
  unfold returnFrameHeard
  split
  · exact .refl n
  split
  · exact .after (applyReturn_untouched _ _) rfl rfl rfl
  · exact .of_rest rfl rfl rfl

theorem returnLoss_untouched : Untouched n (returnLoss n) :=
  .after (endTransfer_untouched _ _) rfl rfl rfl

/-! ## The mixer (chapter 3) -/

theorem ownSceneWrite_untouched (a : List Byte) : Untouched n (ownSceneWrite a n).node := by
  unfold ownSceneWrite
  dsimp only
  split
  · exact .refl n
  · split <;> exact .of_rest rfl rfl rfl

theorem sceneSwapFor_untouched (raw : Nat) : Untouched n (sceneSwapFor raw n).node := by
  unfold sceneSwapFor
  dsimp only
  split <;> exact .of_rest rfl rfl rfl

theorem activateCaller_untouched (ch : Nat) (src : CallerSource) : Untouched n (activateCaller ch src n) :=
  .of_rest rfl rfl rfl

theorem releaseCaller_untouched (ch : Nat) : Untouched n (releaseCaller ch n).1 := by
  unfold releaseCaller
  dsimp only
  split <;> exact .of_rest rfl rfl rfl

theorem mixerTargets_untouched : Untouched n (mixerTargets n) := by
  unfold mixerTargets
  split <;> exact .of_rest rfl rfl rfl

/-! ## The cue engine (chapter 5) -/

theorem setPlayer_untouched (b : Bool) (p : Player) : Untouched n (setPlayer b p n) := .of_rest rfl rfl rfl

theorem setFader_untouched (b : Bool) (r : Ramp) : Untouched n (setFader b r n) := .of_rest rfl rfl rfl

theorem eachPlayer_untouched {f : Bool → Node → Node} (h : ∀ b m, Untouched m (f b m)) :
    Untouched n (eachPlayer f n) := (h false n).trans (h true _)

theorem releaseEntry_untouched (e : CueEntry) : Untouched n (releaseEntry e n) := by
  unfold releaseEntry
  split
  · exact releaseClip_untouched n _
  · exact .refl n

theorem ownCueAdd_untouched (a : List Byte) : Untouched n (ownCueAdd a n).node := by
  unfold ownCueAdd
  dsimp only
  split
  · exact .refl n
  split
  · exact .refl n
  split
  · exact .refl n
  split
  · exact .of_rest rfl rfl rfl
  · split
    · exact .refl n
    next granted =>
      split
      · exact .refl n
      · exact .of_store rfl (acquire_sameClips n.store _ granted) rfl

theorem ownCueRemove_untouched (a : List Byte) : Untouched n (ownCueRemove a n).node := by
  unfold ownCueRemove
  dsimp only
  split
  · exact .after (releaseEntry_untouched _ _) rfl rfl rfl
  · split <;> exact .refl n

theorem ownCueClear_untouched : Untouched n (ownCueClear n).node :=
  .trans (.foldl (fun m e => releaseEntry_untouched m e) _ n) (.of_rest rfl rfl rfl)

theorem decidePlay_untouched : Untouched n (decidePlay n).node := by
  unfold decidePlay
  dsimp only
  split
  · exact .of_rest rfl rfl rfl
  split
  · exact .of_rest rfl rfl rfl
  split
  · exact .of_rest rfl rfl rfl
  · split <;> exact .refl n

theorem releaseItem_untouched (p : Player) : Untouched n (releaseItem p n) := by
  unfold releaseItem
  split
  · split
    · exact releaseClip_untouched n _
    · exact removeListenOpt_untouched n _
  · exact .refl n

theorem endItem_untouched (b : Bool) (k : EndKind) : Untouched n (endItem b k n) :=
  (releaseItem_untouched n _).trans (setPlayer_untouched _ _ _)

theorem stopPlayer_untouched (b : Bool) : Untouched n (stopPlayer b n).1 := by
  have release : Untouched n (countStopped (endItem b .stopped n)) :=
    (endItem_untouched n b .stopped).trans (.of_rest rfl rfl rfl)
  unfold stopPlayer
  dsimp only
  split
  · exact .refl n
  · exact release
  · exact .of_rest rfl rfl rfl
  · split
    · exact release
    · exact .of_rest rfl rfl rfl
  · exact .refl n

theorem stopBoth_untouched : Untouched n (stopBoth n).1 :=
  .trans ((stopPlayer_untouched n false).trans (stopPlayer_untouched _ true)) (.of_rest rfl rfl rfl)

theorem stopReply_node (r : Node × Bool) : (stopReply r).node = r.1 := by
  unfold stopReply
  split <;> rfl

theorem ownStop_untouched (a : List Byte) : Untouched n (ownStop a n).node := by
  unfold ownStop
  split
  · rw [stopReply_node]; exact stopPlayer_untouched n false
  · rw [stopReply_node]; exact stopPlayer_untouched n true
  · rw [stopReply_node]; exact stopBoth_untouched n
  · exact .refl n

theorem cueReports_untouched : Untouched n (cueReports n) := by
  unfold cueReports
  dsimp only
  split <;> exact .of_rest rfl rfl rfl

theorem countdownLower_untouched : Untouched n (countdownLower n) := by
  unfold countdownLower
  split <;> exact .of_rest rfl rfl rfl

theorem naturalEnd_untouched (b : Bool) : Untouched n (naturalEnd b n) := by
  unfold naturalEnd
  dsimp only
  split
  · have ended := endItem_untouched n b (if decide ((n.player b).state = .stopping) then .stopped else .complete)
    split <;> split <;> exact ended.trans (.of_rest rfl rfl rfl)
  · exact .refl n

theorem streamItemEnd_untouched (b : Bool) : Untouched n (streamItemEnd b n) := by
  unfold streamItemEnd
  dsimp only
  split
  · have ended := endItem_untouched n b (if decide ((n.player b).state = .stopping) then .stopped else .streamEnded)
    split <;> split <;> exact ended.trans (.of_rest rfl rfl rfl)
  · exact .refl n

theorem faderReport_untouched (b : Bool) : Untouched n (faderReport b n) := by
  have reported : Untouched n (setFader b (n.fader b).reported n) := setFader_untouched n b _
  unfold faderReport
  dsimp only
  split
  · split
    · split
      · exact (reported.trans (endItem_untouched _ b .stopped)).trans (.of_rest rfl rfl rfl)
      · exact reported
    · split
      · exact reported.trans (setPlayer_untouched _ _ _)
      · exact reported
    · exact reported.trans (setPlayer_untouched _ _ _)
  · exact .refl n

theorem cueArm_untouched : Untouched n (cueArm n) := by
  unfold cueArm
  dsimp only
  split
  · split
    · exact .of_rest rfl rfl rfl
    · split
      · next added => exact .onto (setPlayer_untouched _ _ _) (.after (untouched_of_addListen added) rfl rfl rfl)
      · next refused =>
        exact .trans (.after (untouched_of_addListen refused) rfl rfl rfl) (.of_rest rfl rfl rfl)
  · exact .of_rest rfl rfl rfl

theorem takeSegue_untouched : Untouched n (takeSegue n) := by
  unfold takeSegue
  split <;> exact .of_rest rfl rfl rfl

theorem cueResume_untouched : Untouched n (cueResume n) :=
  .after (.nat_repeat takeSegue_untouched _ _) rfl rfl rfl

theorem segueTake_untouched (b : Bool) : Untouched n (segueTake b n) := by
  unfold segueTake
  dsimp only
  split
  · exact .trans (setPlayer_untouched _ _ _) (takeSegue_untouched _)
  · exact .refl n

theorem countdownDone_untouched : Untouched n (countdownDone n) :=
  .after (takeSegue_untouched _) rfl rfl rfl

theorem playStart_untouched (b : Bool) : Untouched n (playStart b n) := by
  unfold playStart
  dsimp only
  split
  · split <;> exact .of_rest rfl rfl rfl
  · exact .refl n

theorem faderTarget_untouched (b : Bool) : Untouched n (faderTarget b n) := by
  unfold faderTarget
  dsimp only
  split
  · exact .refl n
  · split <;> exact .of_rest rfl rfl rfl
  · split <;> exact .of_rest rfl rfl rfl
  · exact .of_rest rfl rfl rfl

theorem fadeOutStart_untouched (b : Bool) : Untouched n (fadeOutStart b n) := by
  unfold fadeOutStart
  dsimp only
  split <;> exact .of_rest rfl rfl rfl

end

end Sys2Proof.Machine
end

section
/-! PROOFS. What a step can do to the caller queue (R131 to R142), to the clips (R66 to R78, R82) and to the site's
clips (R188, R189), said once. -/

namespace Sys2Proof.Machine

/-! ## The changes -/

/-- The states and studios of the lines. -/
def Phone.places (p : Phone) : List (LineState × Option Party) := p.lines.map LineRecord.place

/-- A line waits in the caller queue (R133). -/
def LineState.queues (s : LineState) : Prop := s = .queued ∨ s = .held

/-- A change of the phone unit as its queue and its lines see it. -/
inductive PhoneChange (p q : Phone) : Prop
  | same (h : p.lines.length = 4 → SamePhone p q)
  /-- A line off the air and out of the queue rings, or its caller gives up. -/
  | rings (i : Nat) (s : LineState) (line : 1 ≤ i ∧ i ≤ 4)
      (before : ¬ (p.line i).state.queues ∧ (p.line i).state ≠ .onAir) (after : ¬ s.queues ∧ s ≠ .onAir)
      (queue : q.queue = p.queue) (lines : q.places = p.places.set (i - 1) (s, (p.line i).studio))
  /-- A line joins the queue: answered, or back from the air. -/
  | joins (i : Nat) (s : LineState) (x : Option Party) (line : 1 ≤ i ∧ i ≤ 4)
      (before : ¬ (p.line i).state.queues) (after : s.queues)
      (studio : x = none ∨ (x = (p.line i).studio ∧ (p.line i).state ≠ .onAir))
      (queue : q.queue.Perm (i :: p.queue)) (lines : q.places = p.places.set (i - 1) (s, x))
  /-- A line leaves the queue: taken, or cleared. -/
  | leaves (i : Nat) (s : LineState) (x : Option Party) (line : i ∈ p.queue ∨ (1 ≤ i ∧ i ≤ 4))
      (after : ¬ s.queues) (studio : x ≠ none ↔ s = .onAir)
      (queue : q.queue = p.queue.filter (fun j => decide (j ≠ i))) (lines : q.places = p.places.set (i - 1) (s, x))
  /-- Every line IDLE after a reset (R149). -/
  | clears (queue : q.queue = []) (length : q.lines.length = 4 ∨ q.lines.length = p.lines.length)
      (lines : ∀ x ∈ q.places, x = (.idle, none))

/-- A clip's pages given back and its load given up. -/
def Store.freed (d : Store) (c : Nat) : Store := (d.emptyClip c).dropLoad c

/-- A change of a station's clip store as its clips, pages and loads see it. -/
inductive StoreChange (d x : Store) : Prop
  | same (h : SameClips d x)
  | freed (c : Nat) (h : x = d.freed c)
  | emptied (c : Nat) (before : (d.clip c).state ≠ .loading) (h : x = d.emptyClip c)
  | opened (c p first : Nat) (rest : List Extent) (e : ClipEntry) (l : LoadContext) (number : c < 256)
      (room : d.loads.length < 4 ∨ ∃ k ∈ d.loads, k.clip = c)
      (pages : allocate p (d.freed c).free = some (first, rest))
      (entry : e.state = .loading ∧ e.firstPage = first ∧ e.pageCount = p)
      (context : l.clip = c ∧ l.serial = e.serial)
      (h : x = { (d.freed c).setClip c e with free := rest, loads := (d.freed c).loads ++ [l] })
  | marked (k l : LoadContext) (loading : k ∈ d.loads) (named : l.named = k.named)
      (h : x = d.mapLoad l.clip (fun _ => l))
  | completed (c : Nat) (loading : ∃ l ∈ d.loads, l.clip = c)
      (h : x = (d.setClip c { d.clip c with state := .ready }).dropLoad c)
  | restarted (h : x = d.soft)
  | fresh (pages : Nat) (h : x = .ofPages pages)

/-- A change of the site unit as its clips and its transfer see it. -/
inductive SiteChange (s x : Site) : Prop
  | same (h : SameSite s x)
  | opened (o : OpenFields) (number : o.clip < 256) (h : x = s.openLoad o)
  | failed (receiving : s.transfer.state = .receiving) (h : x = s.failTransfer)
  | completed (receiving : s.transfer.state = .receiving)
      (h : x = { s with
        store := s.store.setClip s.transfer.clip { s.store.clip s.transfer.clip with state := .ready },
        transfer := { s.transfer with state := .done } })
  | fresh (pages : Nat) (h : x = { Site.reset with store := .ofPages pages })

/-- A part that comes of another by changes of these kinds, and by changes of its other units. -/
structure Reaches (n m : Node) : Prop where
  phone : Relation.ReflTransGen PhoneChange n.phone m.phone
  store : Relation.ReflTransGen StoreChange n.store m.store
  site : Relation.ReflTransGen SiteChange n.site m.site

namespace Reaches

theorem refl (n : Node) : Reaches n n := ⟨.refl, .refl, .refl⟩

theorem trans {a b c : Node} (h : Reaches a b) (k : Reaches b c) : Reaches a c :=
  ⟨h.phone.trans k.phone, h.store.trans k.store, h.site.trans k.site⟩

/-- `trans`, with the last change first. -/
theorem onto {a b c : Node} (k : Reaches b c) (h : Reaches a b) : Reaches a c := h.trans k

theorem of_untouched {n m : Node} (h : Untouched n m) : Reaches n m :=
  ⟨.single (.same fun _ => h.phone), .single (.same h.store), .single (.same h.site)⟩

/-- A change of other units, and then `h`. -/
theorem after {n m x : Node} (h : Reaches m x) (phone : m.phone = n.phone) (store : m.store = n.store)
    (site : m.site = n.site) : Reaches n x :=
  (of_untouched (.of_rest phone store site)).trans h

theorem of_phone {n m : Node} (phone : PhoneChange n.phone m.phone) (store : SameClips n.store m.store)
    (site : SameSite n.site m.site) : Reaches n m :=
  ⟨.single phone, .single (.same store), .single (.same site)⟩

theorem of_store {n m : Node} (phone : m.phone = n.phone) (store : StoreChange n.store m.store)
    (site : m.site = n.site) : Reaches n m :=
  ⟨.single (.same fun _ => phone ▸ .refl _), .single store, .single (.same (site ▸ .refl _))⟩

theorem of_site {n m : Node} (phone : m.phone = n.phone) (store : m.store = n.store)
    (site : SiteChange n.site m.site) : Reaches n m :=
  ⟨.single (.same fun _ => phone ▸ .refl _), .single (.same (store ▸ .refl _)), .single site⟩

theorem foldl {α : Type} {f : Node → α → Node} (h : ∀ m x, Reaches m (f m x)) (l : List α) (n : Node) :
    Reaches n (l.foldl f n) := by
  induction l generalizing n with
  | nil => exact .refl n
  | cons x l ih => exact (h n x).trans (ih _)

end Reaches

/-! ## The lines of the phone unit -/

section
variable (n : Node)

theorem setLine_places (i : Nat) (l : LineRecord) :
    (setLine i l n).phone.places = n.phone.places.set (i - 1) l.place := List.map_set

/-- A line changed but for its state and its studio. -/
theorem setLine_untouched {i : Nat} {l : LineRecord} (h : l.place = (n.lineRec i).place) :
    Untouched n (setLine i l n) := by
  refine .of_phone ⟨rfl, ?_⟩ rfl rfl
  show (n.phone.lines.set (i - 1) l).map _ = _
  rw [List.map_set, h]
  unfold Node.lineRec Phone.line
  by_cases inside : i - 1 < n.phone.lines.length
  · rw [List.getD_eq_getElem _ _ inside, ← List.getElem_map LineRecord.place (h := by simpa using inside)]
    exact List.set_getElem_self _
  · exact List.set_eq_of_length_le (by simpa using inside)

theorem mapLines_untouched {f : LineRecord → LineRecord} (h : ∀ l, (f l).place = l.place) :
    Untouched n { n with phone := { n.phone with lines := n.phone.lines.map f } } := by
  refine .of_phone ⟨rfl, ?_⟩ rfl rfl
  show (n.phone.lines.map f).map _ = _
  rw [List.map_map]
  exact List.map_congr_left fun l _ => h l

theorem mapPhoneCounters_untouched (f : PhoneCounters → PhoneCounters) : Untouched n (mapPhoneCounters f n) :=
  .of_phone ⟨rfl, rfl⟩ rfl rfl

theorem addHold_untouched : Untouched n (addHold n) := by
  unfold addHold
  split
  · next added => exact .trans (untouched_of_addListen added) (.of_phone ⟨rfl, rfl⟩ rfl rfl)
  · next refused => exact (untouched_of_addListen refused).trans (mapPhoneCounters_untouched _ _)

theorem dropHold_untouched : Untouched n (dropHold n) :=
  .trans (removeListenOpt_untouched n n.phone.holdEntry) (.of_phone ⟨rfl, rfl⟩ rfl rfl)

theorem judgeHoldFeed_untouched : Untouched n (judgeHoldFeed n) := by
  unfold judgeHoldFeed
  split
  · split
    · exact addHold_untouched n
    · exact .refl n
  · split
    · exact dropHold_untouched n
    split
    · exact .refl n
    · exact (dropHold_untouched n).trans (addHold_untouched _)

/-! ## The take path -/

theorem setTake_untouched (ch : Nat) (r : TakeRecord) : Untouched n (setTake ch r n) := .of_rest rfl rfl rfl

theorem mapTakeCounters_untouched (f : TakeCounters → TakeCounters) : Untouched n (mapTakeCounters f n) :=
  .of_rest rfl rfl rfl

theorem releaseComplete_untouched (ch : Nat) : Untouched n (releaseComplete ch n) := by
  unfold releaseComplete
  split
  · exact .onto (setTake_untouched _ _ _) (removeListenOpt_untouched n _)
  · exact .refl n

theorem releaseChannel_untouched (ch : Nat) : Untouched n (releaseChannel ch n) := by
  have stopped : Untouched n (stopOut (mixMinusIndex ch) (releaseCaller ch n).1) :=
    (releaseCaller_untouched n ch).trans (stopOut_untouched _ _)
  unfold releaseChannel
  dsimp only
  split
  · have counted (f : TakeCounters → TakeCounters) (r : TakeRecord) :=
      (stopped.trans (setTake_untouched _ ch r)).trans (mapTakeCounters_untouched _ f)
    split
    · exact (counted _ _).trans (releaseComplete_untouched _ ch)
    · exact counted _ _
  · exact .refl n

theorem localLineGone_untouched (i : Nat) : Untouched n (localLineGone i n) := by
  have gone (ch : Nat) (m : Node) :
      Untouched m
        (if (m.takeRec ch).state = .onAir ∧ (m.takeRec ch).phone = some .own ∧ (m.takeRec ch).line = some i then
          releaseChannel ch m
        else m) := by
    split
    · exact releaseChannel_untouched m ch
    · exact .refl m
  exact (gone 1 n).trans (gone 2 _)

theorem callerReleases_untouched : Untouched n (callerReleases n) := by
  have one (ch : Nat) (m : Node) :
      Untouched m
        (if (m.mixer.caller ch).releaseOver then
          releaseComplete ch { m with mixer := m.mixer.setCaller ch (m.mixer.caller ch).released }
        else m) := by
    split
    · exact .after (releaseComplete_untouched _ ch) rfl rfl rfl
    · exact .refl m
  exact (one 1 n).trans (one 2 _)

theorem leaveAir_untouched (i : Nat) (l : LineRecord) : Untouched n (leaveAir i l n) := by
  unfold leaveAir
  split
  · exact (stopOut_untouched n i).trans (removeListenOpt_untouched _ _)
  · exact localLineGone_untouched n i
  · exact .refl n

theorem callerSlotEnded_untouched (r : SlotReport) : Untouched n (callerSlotEnded r n) := by
  have one (ch : Nat) (m : Node) :
      Untouched m (if (m.takeRec ch).entry = some r.entry then releaseChannel ch m else m) := by
    split
    · exact releaseChannel_untouched m ch
    · exact .refl m
  exact (one 1 n).trans (one 2 _)

theorem callerWatchExpiries_untouched : Untouched n (callerWatchExpiries n) := by
  have one (ch : Nat) (m : Node) :
      Untouched m
        (if (m.takeRec ch).watchFails then
          mapTakeCounters (fun c => { c with callerWatchExpiries := satInc c.callerWatchExpiries })
            (releaseChannel ch m)
        else m) := by
    split
    · exact (releaseChannel_untouched m ch).trans (mapTakeCounters_untouched _ _)
    · exact .refl m
  exact (one 1 n).trans (one 2 _)

theorem refuseTake_untouched (key : Nat) (r : Result) : Untouched n (refuseTake key r n) := .of_rest rfl rfl rfl

theorem busTake_untouched (ch key : Nat) : Untouched n (busTake ch key n) := by
  unfold busTake
  split
  · exact refuseTake_untouched n key _
  split
  · exact refuseTake_untouched n key _
  split
  · next sent =>
    have asked := untouched_of_sendRequest sent
    exact .onto (mapTakeCounters_untouched _ _) (.onto (setTake_untouched _ _ _) asked)
  · next dropped => exact .onto (refuse_untouched _ key _) (untouched_of_sendRequest dropped)
  · next notSent => exact untouched_of_sendRequest notSent

theorem takeAnswered_untouched (ch key src result : Nat) (data : List Byte) :
    Untouched n (takeAnswered ch key src result data n) := by
  unfold takeAnswered
  dsimp only
  split
  · exact .refl n
  split
  · split
    · next added =>
      exact .onto (startOut_untouched _ _ _) (.onto (activateCaller_untouched _ _ _)
        (.onto (setTake_untouched _ _ _) (.after (untouched_of_addListen added) rfl rfl rfl)))
    · next refused =>
      exact .onto (mapTakeCounters_untouched _ _)
        (.onto (setTake_untouched _ _ _) (.after (untouched_of_addListen refused) rfl rfl rfl))
  · exact .of_rest rfl rfl rfl

theorem takeTimedOut_untouched (ch key : Nat) : Untouched n (takeTimedOut ch key n) := by
  unfold takeTimedOut
  split <;> exact .of_rest rfl rfl rfl

theorem clearTag_untouched (ch : Nat) (tag : Byte) : Untouched n (clearTag ch tag n) := setTake_untouched n ch _

theorem dropFailed_untouched (ch key : Nat) (tag : Byte) (r : KeyResult) : Untouched n (dropFailed ch key tag r n) := by
  unfold dropFailed
  dsimp only
  split
  · exact .onto (releaseChannel_untouched _ _) (.onto (clearTag_untouched _ _ _) (refuseKey_untouched n _ _ _))
  · exact refuseKey_untouched n _ _ _

theorem dropAnswered_untouched (ch key : Nat) (tag : Byte) (result : Nat) :
    Untouched n (dropAnswered ch key tag result n) := by
  unfold dropAnswered
  split
  · split
    · exact clearTag_untouched n ch tag
    · exact .refl n
  · exact dropFailed_untouched n ch key tag _

theorem answerKeyAnswered_untouched (key result : Nat) : Untouched n (answerKeyAnswered key result n) := by
  unfold answerKeyAnswered
  split
  · exact .refl n
  · exact refuseKey_untouched n _ _ _

theorem handOutcome_untouched (e : Requester) (answer : Option (Nat × List Byte)) :
    Untouched n (handOutcome e answer n) := by
  unfold handOutcome
  split
  · exact takeAnswered_untouched n _ _ _ _ _
  · exact takeTimedOut_untouched n _ _
  · exact dropAnswered_untouched n _ _ _ _
  · exact dropFailed_untouched n _ _ _ _
  · exact answerKeyAnswered_untouched n _ _
  · exact refuseKey_untouched n _ _ _

/-! ## Lines that change (R130 to R142) -/

theorem setLine_line_or (i : Nat) (l : LineRecord) :
    (setLine i l n).phone.line i = l ∨ (setLine i l n).phone.line i = .reset := by
  unfold setLine Phone.line
  simp only [List.getD_eq_getElem?_getD, List.getElem?_set_self']
  cases n.phone.lines[i - 1]? with
  | none => exact .inr rfl
  | some _ => exact .inl rfl

/-- A line that is neither in the queue nor ON_AIR is answered (R131). -/
theorem answerLine_reaches {i : Nat} (line : 1 ≤ i ∧ i ≤ 4)
    (state : ¬ (n.lineRec i).state.queues ∧ (n.lineRec i).state ≠ .onAir) (f : PhoneCounters → PhoneCounters) :
    Reaches n (answerLine i f n) := by
  refine .onto (.of_untouched (.onto (judgeHoldFeed_untouched _) (mapPhoneCounters_untouched _ f))) ?_
  exact .of_phone
    (.joins i .queued (n.lineRec i).studio line state.1 (.inl rfl) (.inr ⟨rfl, state.2⟩) (insert_perm _ _ _)
      (setLine_places n i _))
    (.refl _) (.refl _)

/-- A line is cleared (R132). -/
theorem clearLine_reaches {i : Nat} (line : 1 ≤ i ∧ i ≤ 4) (why : ClearReason) : Reaches n (clearLine i why n) := by
  have left (r : LineRecord) (idle : r.place = (.idle, none)) : Reaches n (leaveQueue i (setLine i r n)) := by
    refine .of_phone (.leaves i .idle none (.inr line) ?_ ?_ rfl (idle ▸ setLine_places n i r)) (.refl _) (.refl _)
    · rintro (h | h) <;> cases h
    · exact ⟨fun h => absurd rfl h, fun h => by cases h⟩
  refine .onto (.of_untouched (judgeHoldFeed_untouched _)) ?_
  split
  · exact (left _ rfl).trans (.of_untouched (leaveAir_untouched _ i _))
  · exact left _ rfl

/-- An ON_AIR line returns to HELD (R139). -/
theorem returnHeld_reaches {i : Nat} (line : 1 ≤ i ∧ i ≤ 4) (state : (n.lineRec i).state = .onAir) :
    Reaches n (returnHeld i n) := by
  refine .onto (.of_untouched (judgeHoldFeed_untouched _)) ?_
  have left (r : LineRecord) : Untouched (setLine i r n) (leaveAir i (n.lineRec i) (setLine i r n)) :=
    leaveAir_untouched _ i _
  refine .of_phone
    (.joins i .held none line ?_ (.inr rfl) (.inl rfl) ((insert_perm _ _ _).trans ?_) ?_) (left _).store (left _).site
  · rintro (h | h) <;> exact absurd (state.symm.trans h) (by decide)
  · rw [(left _).phone.queue]
    exact List.Perm.refl _
  · exact (left _).phone.lines.trans (setLine_places n i _)

/-- A line is taken (R137). -/
theorem makeTake_reaches {i : Nat} (line : i ∈ n.phone.queue ∨ (1 ≤ i ∧ i ≤ 4)) (who : Party) (index : Nat)
    (entry : Option Nat) : Reaches n (makeTake i who index entry n) := by
  have left (r : LineRecord) (air : r.place = (.onAir, some who)) : Reaches n (leaveQueue i (setLine i r n)) := by
    refine .of_phone (.leaves i .onAir (some who) line ?_ ?_ rfl (air ▸ setLine_places n i r)) (.refl _) (.refl _)
    · rintro (h | h) <;> cases h
    · exact ⟨fun _ => rfl, fun _ h => by cases h⟩
  refine .onto (.of_untouched (.onto (judgeHoldFeed_untouched _) (mapPhoneCounters_untouched _ _))) ?_
  split
  · exact .onto (.of_untouched (startOut_untouched _ i 0)) (left _ rfl)
  · exact left _ rfl

/-- A line off the air and out of the queue rings or falls silent (R130). -/
theorem setLine_reaches {i : Nat} (line : 1 ≤ i ∧ i ≤ 4)
    (before : ¬ (n.lineRec i).state.queues ∧ (n.lineRec i).state ≠ .onAir) {l : LineRecord}
    (after : ¬ l.state.queues ∧ l.state ≠ .onAir) (studio : l.studio = (n.lineRec i).studio) :
    Reaches n (setLine i l n) := by
  refine .of_phone (.rings i l.state line before after rfl ?_) (.refl _) (.refl _)
  have place : (l.state, (n.lineRec i).studio) = l.place := by rw [← studio]; rfl
  exact place ▸ setLine_places n i l

theorem idle_offQueue {s : LineState} (h : s = .idle ∨ s = .ringing) : ¬ s.queues ∧ s ≠ .onAir := by
  unfold LineState.queues
  rcases h with rfl | rfl <;> decide

theorem ringStart_reaches {i : Nat} (line : 1 ≤ i ∧ i ≤ 4) (idle : (n.lineRec i).state = .idle) :
    Reaches n (ringStart i n) := by
  have rung (r : LineRecord) (ringing : r.state = .ringing) (studio : r.studio = (n.lineRec i).studio)
      (f : PhoneCounters → PhoneCounters) : Reaches n (mapPhoneCounters f (setLine i r n)) :=
    .onto (.of_untouched (mapPhoneCounters_untouched _ f))
      (setLine_reaches n line (idle_offQueue (.inl idle)) (idle_offQueue (.inr ringing)) studio)
  unfold ringStart
  extract_lets old l m
  have ringing : Reaches n m := rung l rfl rfl _
  split
  · refine .onto (answerLine_reaches m line (idle_offQueue ?_) _) ringing
    exact (setLine_line_or n i _).elim (fun h => .inr (congrArg _ h)) (fun h => .inl (congrArg _ h))
  · exact ringing

theorem eachLine_reaches {p : Node → Nat → Bool} {f : Nat → Node → Node}
    (h : ∀ m i, 1 ≤ i ∧ i ≤ 4 → p m i = true → Reaches m (f i m)) : Reaches n (eachLine p f n) := by
  have one (m : Node) (i : Nat) (line : 1 ≤ i ∧ i ≤ 4) : Reaches m (if p m i then f i m else m) := by
    split
    · next due => exact h m i line due
    · exact .refl m
  exact (((one n 1 (by decide)).trans (one _ 2 (by decide))).trans (one _ 3 (by decide))).trans
    (one _ 4 (by decide))

theorem ringStarts_reaches : Reaches n (ringStarts n) := by
  refine eachLine_reaches n fun m i line due => ringStart_reaches m line ?_
  simp only [Node.rings, Bool.and_eq_true, decide_eq_true_eq] at due
  exact due.1.2

theorem giveUps_reaches : Reaches n (giveUps n) := by
  refine eachLine_reaches n fun m i line due => ?_
  simp only [Node.gaveUp, Bool.and_eq_true, decide_eq_true_eq] at due
  exact .onto (.of_untouched (mapPhoneCounters_untouched _ _))
    (setLine_reaches m line (idle_offQueue (.inr due.1)) (idle_offQueue (.inl rfl)) rfl)

theorem hangUps_reaches : Reaches n (hangUps n) :=
  eachLine_reaches n fun m _ line _ =>
    .onto (.of_untouched (mapPhoneCounters_untouched _ _)) (clearLine_reaches m line _)

/-- The lines that a report finds ON_AIR return to HELD, each counted. -/
theorem eachReturn_reaches {p : Node → Nat → Bool} (onAir : ∀ m i, p m i = true → (m.lineRec i).state = .onAir)
    (f : PhoneCounters → PhoneCounters) :
    Reaches n (eachLine p (fun i m => mapPhoneCounters f (returnHeld i m)) n) :=
  eachLine_reaches n fun m i line due =>
    .onto (.of_untouched (mapPhoneCounters_untouched _ f)) (returnHeld_reaches m line (onAir m i due))

theorem takeWatchExpiries_reaches : Reaches n (takeWatchExpiries n) :=
  eachReturn_reaches n (fun _ _ due => of_decide_eq_true (Bool.and_eq_true_iff.mp due).1) _

theorem studioAbsent_reaches (k : Nat) : Reaches n (studioAbsent k n) :=
  eachReturn_reaches n (fun _ _ due => of_decide_eq_true (Bool.and_eq_true_iff.mp due).1) _

theorem mixMinusSlotEnded_reaches (r : SlotReport) : Reaches n (mixMinusSlotEnded r n) :=
  eachReturn_reaches n (fun _ _ due => of_decide_eq_true (Bool.and_eq_true_iff.mp due).1) _

/-! ## Requests of the phone unit -/

theorem Reply.refuse_node (r : Result) : (Reply.refuse r n).node = n := rfl

theorem Reply.ok_node (d : ResultData) : (Reply.ok d n).node = n := rfl

/-- The choice of NEXT between the line found so far and another RINGING line. -/
def Phone.rungFirst (p : Phone) (best : Option Nat) (i : Nat) : Option Nat :=
  match best with
  | none => some i
  | some j => if p.rangBefore i j then some i else some j

theorem nextRinging_eq (p : Phone) :
    p.nextRinging = (lineNumbers.filter (fun i => decide ((p.line i).state = .ringing))).foldl p.rungFirst none := rfl

theorem rungFirst_mem {p : Phone} {l : List Nat} {b j : Nat} (h : l.foldl p.rungFirst (some b) = some j) :
    j ∈ b :: l := by
  induction l generalizing b with
  | nil =>
    cases h
    exact List.mem_singleton_self _
  | cons x l ih =>
    rw [List.foldl_cons, Phone.rungFirst] at h
    split at h
    · exact List.mem_cons_of_mem _ (ih h)
    · exact (List.mem_cons.mp (ih h)).elim (fun e => e ▸ List.mem_cons_self)
        (fun m => List.mem_cons_of_mem _ (List.mem_cons_of_mem _ m))

theorem mem_ringing {p : Phone} {i : Nat} :
    i ∈ lineNumbers.filter (fun i => decide ((p.line i).state = .ringing)) ↔
      1 ≤ i ∧ i ≤ 4 ∧ (p.line i).state = .ringing := by
  rw [List.mem_filter, decide_eq_true_eq, ← and_assoc]
  refine and_congr_left fun _ => ?_
  simp only [lineNumbers, List.mem_cons, List.not_mem_nil, or_false]
  omega

theorem nextRinging_ringing {p : Phone} {i : Nat} (h : p.nextRinging = some i) :
    1 ≤ i ∧ i ≤ 4 ∧ (p.line i).state = .ringing := by
  rw [nextRinging_eq] at h
  rw [← mem_ringing]
  cases ringing : lineNumbers.filter (fun i => decide ((p.line i).state = .ringing)) with
  | nil =>
    rw [ringing] at h
    cases h
  | cons b l =>
    rw [ringing] at h
    exact rungFirst_mem h

theorem decideAnswer_reaches (arg : Nat) : Reaches n (decideAnswer arg n).node := by
  unfold decideAnswer
  split
  · exact .refl n
  split
  · exact .refl n
  next outside _ i named =>
    have line : 1 ≤ i ∧ i ≤ 4 := by
      split at named
      · have := nextRinging_ringing named
        omega
      · cases named; omega
    split
    · next ringing => exact answerLine_reaches n line (idle_offQueue (.inr ringing)) _
    · exact .refl n

theorem ownCallScreen_untouched (a : List Byte) : Untouched n (ownCallScreen a n).node := by
  unfold ownCallScreen
  dsimp only
  split
  · exact .refl n
  split
  · exact .refl n
  · exact setLine_untouched n rfl

theorem takeLine_reaches {i : Nat} (line : i ∈ n.phone.queue ∨ (1 ≤ i ∧ i ≤ 4)) (who : Party) (index : Nat) :
    Reaches n (takeLine i who index n).node := by
  have no (m : Node) (h : Untouched n m) (r : Result) (f : PhoneCounters → PhoneCounters) :
      Reaches n (Reply.refuse r (mapPhoneCounters f m)).node :=
    .of_untouched (h.trans (mapPhoneCounters_untouched _ f))
  unfold takeLine
  extract_lets l no_
  split
  · split
    · exact no n (.refl n) _ _
    split
    · exact .refl n
    · exact no n (.refl n) _ _
  split
  · exact no n (.refl n) _ _
  split
  · exact no n (.refl n) _ _
  split
  · exact makeTake_reaches n line .own index none
  · split
    · next added =>
      have kept := untouched_of_addListen added
      rw [← kept.phone.queue] at line
      rw [Reply.ok_node]
      exact (Reaches.of_untouched kept).trans (makeTake_reaches _ line _ index _)
    · next refused => exact no _ (untouched_of_addListen refused) _ _

theorem nextCaller_mem {p : Phone} {i : Nat} (h : p.nextCaller = some i) : i ∈ p.queue := by
  unfold Phone.nextCaller at h
  split at h
  · next found =>
    cases h
    exact List.mem_of_find?_eq_some found
  · exact List.mem_of_mem_head? h

theorem decideTake_reaches (who : Party) (line index : Nat) : Reaches n (decideTake who line index n).node := by
  unfold decideTake
  dsimp only
  split
  · rw [Reply.refuse_node]
    exact .of_untouched (mapPhoneCounters_untouched n _)
  split
  · rw [Reply.refuse_node]
    exact .of_untouched (mapPhoneCounters_untouched n _)
  next outside _ i named =>
    refine takeLine_reaches n ?_ who index
    split at named
    · exact .inl (nextCaller_mem named)
    · cases named
      exact .inr (by omega)

theorem decideHold_reaches (who : Party) (line : Nat) : Reaches n (decideHold who line n).node := by
  unfold decideHold
  split
  · exact .refl n
  split
  · exact .refl n
  next outside onAir =>
    split
    · exact .refl n
    · rw [not_or, not_not] at onAir
      rw [Reply.ok_node]
      exact .onto (.of_untouched (mapPhoneCounters_untouched _ _)) (returnHeld_reaches n (by omega) onAir.2)

theorem decideDrop_reaches (line : Nat) : Reaches n (decideDrop line n).node := by
  unfold decideDrop
  split
  · exact .refl n
  split
  · exact .refl n
  next inside named =>
    rw [Reply.ok_node]
    exact .onto (.of_untouched (mapPhoneCounters_untouched _ _)) (clearLine_reaches n (by omega) _)

theorem localTake_reaches (ch key : Nat) : Reaches n (localTake ch key n) := by
  have taken := decideTake_reaches n .own 0 (mixMinusIndex ch)
  unfold localTake
  dsimp only
  split
  · exact .onto (.of_untouched (.onto (activateCaller_untouched _ _ _) (setTake_untouched _ _ _))) taken
  · exact .onto (.of_untouched (refuseTake_untouched _ _ _)) taken

theorem takeNext_reaches (key : Nat) : Reaches n (takeNext key n) := by
  unfold takeNext
  split
  · exact .of_untouched (refuseTake_untouched n key _)
  split
  · exact localTake_reaches n _ key
  · exact .of_untouched (busTake_untouched n _ key)

theorem dropChannel_reaches (ch key : Nat) : Reaches n (dropChannel ch key n) := by
  unfold dropChannel
  dsimp only
  split
  · exact decideDrop_reaches n _
  · split
    · next sent => exact .of_untouched (.onto (setTake_untouched _ _ _) (untouched_of_sendRequest sent))
    · next dropped => exact .of_untouched (.onto (refuse_untouched _ key _) (untouched_of_sendRequest dropped))
    · next notSent => exact .of_untouched (untouched_of_sendRequest notSent)
  · exact .of_untouched (.of_rest rfl rfl rfl)

/-! ## Keys (R194) -/

theorem actKeys_reaches {p : KeyFn → Bool} {act : Nat → Node → Node} (h : ∀ k m, Reaches m (act k m)) :
    Reaches n (actKeys p act n) :=
  .trans (.foldl (fun m k => h k m) (n.pressedWith p) n) (.of_untouched (.of_rest rfl rfl rfl))

theorem keyResult_reaches {r : Reply} (key : Nat) (h : Reaches n r.node) : Reaches n (keyResult key r) := by
  unfold keyResult
  split
  · exact h
  · exact .onto (.of_untouched (refuse_untouched _ key _)) h

theorem gateKey_reaches (role : Bool) (key : Nat) {act : Node → Node} (h : Reaches n (act n)) :
    Reaches n (gateKey role key act n) := by
  unfold gateKey
  split
  · exact .of_untouched (refuse_untouched n key _)
  split
  · exact .of_untouched (refuse_untouched n key _)
  · exact h

theorem gateTake_reaches (key : Nat) {act : Node → Node} (h : Reaches n (act n)) : Reaches n (gateTake key act n) := by
  unfold gateTake
  split
  · split
    · exact .of_untouched (refuseTake_untouched n key _)
    · exact .of_untouched (refuse_untouched n key _)
  split
  · exact .of_untouched (refuse_untouched n key _)
  · exact h

theorem answerAcross_untouched (key : Nat) : Untouched n (answerAcross key n) := by
  unfold answerAcross
  split
  · exact refuse_untouched n key _
  split
  · next sent => exact untouched_of_sendRequest sent
  · next dropped => exact .onto (refuse_untouched _ key _) (untouched_of_sendRequest dropped)
  · next notSent => exact untouched_of_sendRequest notSent

theorem answerNextAct_reaches (key : Nat) : Reaches n (answerNextAct key n) := by
  unfold answerNextAct
  split
  · exact .of_untouched (refuse_untouched n key _)
  split
  · exact keyResult_reaches n key (decideAnswer_reaches n 0)
  · exact .of_untouched (answerAcross_untouched n key)

end

end Sys2Proof.Machine
end

section
/-! PROOFS. Every step brings a part to one that it reaches: the requests, the packets, the site port, start-up and
the stages of a boundary. -/

namespace Sys2Proof.Machine

section
variable (n : Node)

/-! ## The clip store (R70 to R78) -/

theorem reaches_of_storeChanges {d : Store} (h : Relation.ReflTransGen StoreChange n.store d) :
    Reaches n { n with store := d } := ⟨.refl, h, .refl⟩

theorem storeChange_counters (d : Store) (k : StoreCounters) : StoreChange d { d with counters := k } :=
  .same (counters_sameClips d k)

theorem failLoad_reaches (l : LoadContext) (r : LoadFailure) : Reaches n (failLoad l r n) := by
  have failed : SameClips (n.store.freed l.clip)
      ((n.store.freed l.clip).setClip l.clip { (n.store.freed l.clip).clip l.clip with lastFailure := r }) :=
    setClip_sameClips _ _ rfl
  have freed := reaches_of_storeChanges n (.single (.freed l.clip rfl))
  refine .onto (.of_untouched (offer_untouched _ _ _)) (freed.trans ?_)
  exact ⟨.refl, .head (.same failed) (.single (storeChange_counters _ _)), .refl⟩

theorem completeLoad_reaches {l : LoadContext} (loading : ∃ k ∈ n.store.loads, k.clip = l.clip) :
    Reaches n (completeLoad l n) :=
  .onto (.of_untouched (offer_untouched _ _ _))
    (reaches_of_storeChanges n (.head (.completed l.clip loading rfl) (.single (storeChange_counters _ _))))

theorem closeLoad_reaches {l : LoadContext} (loading : ∃ k ∈ n.store.loads, k.clip = l.clip) :
    Reaches n (closeLoad l n) := by
  unfold closeLoad
  dsimp only
  split
  · split
    · exact completeLoad_reaches n loading
    · exact failLoad_reaches n l _
  · exact failLoad_reaches n l _

theorem mem_mapLoad {d : Store} {k l : LoadContext} (mem : k ∈ d.loads) (same : k.clip = l.clip) :
    l ∈ (d.mapLoad l.clip (fun _ => l)).loads :=
  List.mem_map.mpr ⟨k, mem, if_pos same⟩

theorem loadOf_some {d : Store} {c : Nat} {l : LoadContext} (h : d.loadOf c = some l) :
    l ∈ d.loads ∧ l.clip = c := by
  unfold Store.loadOf at h
  exact ⟨List.mem_of_find?_eq_some h, by simpa using List.find?_some h⟩

/-- A segment of a load that the store holds (R73). -/
theorem judgeSegment_reaches {l : LoadContext} (loading : l ∈ n.store.loads) (p : List Byte) :
    Reaches n (judgeSegment l p n).1 := by
  unfold judgeSegment
  extract_lets e off count bytes d k l1 s1 n1
  split
  · exact reaches_of_storeChanges n (.single (storeChange_counters _ _))
  split
  · exact failLoad_reaches n l _
  split
  · exact failLoad_reaches n l _
  · have counted : SameClips n.store (n.store.setClip l.clip { e with received := e.received + count }) :=
      setClip_sameClips _ _ rfl
    have marked : Reaches n n1 :=
      reaches_of_storeChanges n (.head (.same counted) (.single (.marked l l1 loading rfl rfl)))
    dsimp only
    split
    · exact .onto (closeLoad_reaches _ ⟨l1, mem_mapLoad (l := l1) loading rfl, rfl⟩) marked
    · exact marked

theorem clipSegment_reaches (p : List Byte) : Reaches n (clipSegment p n).1 := by
  have bad (k : StoreCounters) : Reaches n { n with store := { n.store with counters := k } } :=
    reaches_of_storeChanges n (.single (storeChange_counters _ k))
  unfold clipSegment
  dsimp only
  split
  · exact bad _
  split
  · exact bad _
  next l found =>
    obtain ⟨loading, same⟩ := loadOf_some found
    split
    · exact bad _
    split
    · exact bad _
    · rw [← same]
      exact .onto (judgeSegment_reaches _ (mem_mapLoad (l := { l with idleAge := 0 }) loading rfl) p)
        (reaches_of_storeChanges n (.single (.marked l { l with idleAge := 0 } loading rfl rfl)))

theorem loadTimeouts_reaches : Reaches n (loadTimeouts n) := .foldl (fun m l => failLoad_reaches m l _) _ n

theorem loadAges_untouched : Untouched n (loadAges n) :=
  .of_store rfl (mapLoads_sameClips n.store fun _ _ => rfl) rfl

theorem storeChange_openClip (d : Store) (opener : Nat) (tag : Byte) {o : OpenArgs} (number : o.clip < 256) :
    Relation.ReflTransGen StoreChange d (d.openClip opener tag o).2.2 := by
  unfold Store.openClip
  extract_lets e wasLoading abandon s1 p
  split
  · exact .refl
  split
  · exact .refl
  split
  · exact .refl
  next notFull =>
    split
    · exact .head (.freed o.clip rfl) (.single (storeChange_counters _ _))
    · next first rest fits =>
      have room : d.loads.length < 4 ∨ ∃ k ∈ d.loads, k.clip = o.clip := by
        rcases Nat.lt_or_ge d.loads.length 4 with few | many
        · exact .inl few
        · obtain ⟨k, found⟩ := Option.ne_none_iff_exists'.mp fun absent =>
            notFull ⟨many, Option.isNone_iff_eq_none.mpr absent⟩
          exact .inr ⟨k, loadOf_some found⟩
      exact .head (.opened o.clip p first rest _ _ number room fits ⟨rfl, rfl, rfl⟩ ⟨rfl, rfl⟩ rfl)
        (.single (storeChange_counters _ _))

theorem storeChange_deleteClip (d : Store) (c : Nat) :
    Relation.ReflTransGen StoreChange d (d.deleteClip c).2 := by
  unfold Store.deleteClip
  dsimp only
  split
  · exact .refl
  · split
    · exact .refl
    · exact .head (.freed c rfl) (.single (storeChange_counters _ _))
  · next ready =>
    split
    · exact .refl
    · exact .single (.emptied c (fun loading => by cases ready.symm.trans loading) rfl)

theorem ownClipOpen_reaches (src : Nat) (tag : Byte) (a : List Byte) : Reaches n (ownClipOpen src tag a n).node :=
  reaches_of_storeChanges n (storeChange_openClip n.store src tag (BitVec.isLt _))

theorem ownClipDelete_reaches (a : List Byte) : Reaches n (ownClipDelete a n).node :=
  reaches_of_storeChanges n (storeChange_deleteClip n.store _)

/-! ## The site unit (R182 to R190) -/

/-- A change of the site unit but for its clips and its transfer. -/
theorem mapSite_untouched {f : Site → Site} (store : (f n.site).store = n.site.store)
    (transfer : (f n.site).transfer = n.site.transfer) : Untouched n (mapSite f n) :=
  .of_site rfl rfl ⟨store ▸ .refl _, congrArg _ transfer, congrArg _ transfer⟩

theorem restartSiteOutput_untouched : Untouched n (restartSiteOutput n) := .of_rest rfl rfl rfl

theorem enterReserve_untouched (why : ReserveReason) : Untouched n (enterReserve why n) :=
  .onto (restartSiteOutput_untouched _) (mapSite_untouched n rfl rfl)

theorem enterConcealing_untouched : Untouched n (enterConcealing n) :=
  .onto (restartSiteOutput_untouched _) (mapSite_untouched n rfl rfl)

theorem leaveConcealing_untouched : Untouched n (leaveConcealing n) :=
  .onto (restartSiteOutput_untouched _) (mapSite_untouched n rfl rfl)

theorem testReturn_untouched : Untouched n (testReturn n) := by
  unfold testReturn
  split
  · exact .onto (restartSiteOutput_untouched _) (mapSite_untouched n rfl rfl)
  · exact .refl n

theorem siteOutputSilent_untouched : Untouched n (siteOutputSilent n) := by
  unfold siteOutputSilent
  split
  · exact enterReserve_untouched n _
  · exact .refl n

theorem countAccepted_untouched : Untouched n (countAccepted n) := by
  have counted : Untouched n (mapSite (fun s => { s with accepted := (n.site.accepted + 1) % 25 }) n) :=
    mapSite_untouched n rfl rfl
  unfold countAccepted
  dsimp only
  split
  · exact counted.trans (mapSite_untouched _ rfl rfl)
  · exact counted

theorem badFrame_untouched : Untouched n (badFrame n) := mapSite_untouched n rfl rfl

theorem siteChange_data (s : Site) (off : Nat) (bs : List Byte) (last : Bool) :
    Relation.ReflTransGen SiteChange s (s.data off bs last).1 := by
  unfold Site.data
  extract_lets t e got s1
  split
  · exact .refl
  next receiving =>
    rw [not_not] at receiving
    split
    · exact .refl
    split
    · exact .single (.failed receiving rfl)
    · have counted : SiteChange s s1 := .same ⟨setClip_sameClips _ _ rfl, rfl, rfl⟩
      dsimp only
      split
      · refine .head counted (.single ?_)
        unfold Site.closeTransfer
        dsimp only
        split
        · exact .completed receiving rfl
        · exact .failed receiving rfl
      · exact .single counted

theorem siteChange_attachment (s : Site) (f : LinkFrame) :
    Relation.ReflTransGen SiteChange s (s.attachment f).1 := by
  unfold Site.attachment
  split
  · exact .single (.opened (openOfBytes f.attachment) (BitVec.isLt _) rfl)
  · exact siteChange_data s _ _ _
  · dsimp only
    split
    · next receiving => exact .single (.failed receiving rfl)
    · exact .refl

theorem acceptFrame_reaches (f : LinkFrame) : Reaches n (acceptFrame f n).1 := by
  have attached : Reaches n { n with site := (n.site.attachment f).1 } := ⟨.refl, .refl, siteChange_attachment _ f⟩
  have offered : Reaches n { n with site := (n.site.attachment f).1.offerFrame f } :=
    attached.trans (.of_untouched (.of_site rfl rfl ⟨.refl _, rfl, rfl⟩))
  exact .onto (.of_untouched (.onto (countAccepted_untouched _) (testReturn_untouched _))) offered

theorem siteByte_reaches (b : Byte) : Reaches n (siteByte b n).1 := by
  have hunting : Untouched n (mapSite (fun s => { s with receiver := .hunting false, stall := 0 }) n) :=
    mapSite_untouched n rfl rfl
  unfold siteByte frameComplete
  split
  · exact .refl n
  split
  · exact .of_untouched (.of_site rfl rfl ⟨.refl _, rfl, rfl⟩)
  · dsimp only
    split
    · exact .of_untouched (.onto (badFrame_untouched _) hunting)
    split
    · split
      · exact .onto (acceptFrame_reaches _ _) (.of_untouched hunting)
      · exact .of_untouched (.onto (badFrame_untouched _) hunting)
    · exact .of_untouched (.of_site rfl rfl ⟨.refl _, rfl, rfl⟩)

theorem siteReserveStop_untouched : Untouched n (siteReserveStop n) := by
  unfold siteReserveStop
  split
  · exact .of_site rfl rfl ⟨release_sameClips _ _, rfl, rfl⟩
  · exact .refl n

theorem siteReserveStart_untouched : Untouched n (siteReserveStart n) := by
  unfold siteReserveStart
  split
  · next granted => exact .of_site rfl rfl ⟨acquire_sameClips _ _ granted, rfl, rfl⟩
  · exact .refl n

theorem siteStall_untouched : Untouched n (siteStall n) := by
  unfold siteStall
  split
  · exact mapSite_untouched n rfl rfl
  · exact .refl n

theorem siteFrame_untouched : Untouched n (siteFrame n) := by
  have read : Untouched n
      { n with
        site :=
          { n.site with
            phase := 0, buffer := n.site.buffer.boundary.1, lost := satAdd n.site.lost n.site.buffer.boundary.2,
            noFrame := min (n.site.noFrame + 1) 50 } } :=
    .of_site rfl rfl ⟨.refl _, rfl, rfl⟩
  unfold siteFrame
  dsimp only
  split
  · split
    · exact read.trans (leaveConcealing_untouched _)
    · exact read.trans (mapSite_untouched _ rfl rfl)
  · exact read

/-! ## The instant (R42) -/

theorem linesInstant_untouched : Untouched n (linesInstant n) := by
  unfold linesInstant
  split
  · exact .of_phone ⟨rfl, rfl⟩ rfl rfl
  · exact .refl n

theorem stationInstant_untouched (m : Memory) (inp : Inputs) : Untouched n (stationInstant m inp n) := by
  have mixed : Untouched n
      (if n.cfg.roles.studio then mixInstant m inp { n with mixer := n.mixer.advance } else n) := by
    split <;> exact .of_rest rfl rfl rfl
  have selected (link : Bool) (x : Node) : Untouched x (if link then selectorInstant m (advanceLink x) else x) := by
    split <;> exact .of_rest rfl rfl rfl
  have gathered (x : Node) : Untouched x (gatherAudio inp (slotMeters x)) := .of_rest rfl rfl rfl
  exact .onto (gathered _) (.onto (linesInstant_untouched _) (.onto (selected _ _) mixed))

theorem siteInstant_untouched (m : Memory) : Untouched n (siteInstant m n) := .of_site rfl rfl ⟨.refl _, rfl, rfl⟩

theorem instant_untouched (m : Memory) (inp : Inputs) : Untouched n (instant m inp n) := by
  unfold instant
  dsimp only
  split
  · exact .after (stationInstant_untouched _ m inp) rfl rfl rfl
  split
  · exact .after (siteInstant_untouched _ m) rfl rfl rfl
  · exact .of_rest rfl rfl rfl

/-! ## Reports (R37, R60) -/

theorem reportSlotEnd_reaches (r : SlotReport) : Reaches n (reportSlotEnd r n) := by
  unfold reportSlotEnd
  split
  · exact .of_untouched (airSlotEnded_untouched n r)
  · exact .of_untouched (airSlotEnded_untouched n r)
  · exact .of_untouched (callerSlotEnded_untouched n r)
  · exact mixMinusSlotEnded_reaches n r
  · exact .refl n
  · exact .of_untouched (.of_rest rfl rfl rfl)

theorem slotTimeouts_reaches : Reaches n (slotTimeouts n) :=
  .after (.foldl (fun m r => reportSlotEnd_reaches m r) _ _) rfl rfl rfl

theorem slotReads_reaches : Reaches n (slotReads n) :=
  .after (.foldl (fun m r => reportSlotEnd_reaches m r) _ _) rfl rfl rfl

theorem closeStudio_untouched : Untouched n (closeStudio n) := by
  unfold closeStudio
  dsimp only
  split
  · exact .after (recover_untouched _ _) rfl rfl rfl
  · exact .of_rest rfl rfl rfl

theorem closeSlot_untouched (i : Nat) : Untouched n (closeSlot i n) := by
  unfold closeSlot
  dsimp only
  split
  · exact .after (recover_untouched _ _) rfl rfl rfl
  · exact .of_rest rfl rfl rfl

theorem closeHolder_untouched : Untouched n (closeHolder n) := by
  have point (t : Meters) : Untouched n { sourceChange n with meters := t } :=
    (sourceChange_untouched n).trans (.of_rest rfl rfl rfl)
  unfold closeHolder
  dsimp only
  split
  · exact .onto (markHolderSilent_untouched _) (point _)
  · exact point _

theorem closeLinkOutput_untouched : Untouched n (closeLinkOutput n) := by
  unfold closeLinkOutput
  dsimp only
  split <;> exact .of_rest rfl rfl rfl

theorem closeSiteOutput_untouched : Untouched n (closeSiteOutput n) := by
  unfold closeSiteOutput
  dsimp only
  split
  · exact .after (siteOutputSilent_untouched _) rfl rfl rfl
  · exact .of_rest rfl rfl rfl

theorem closeIncoming_untouched : Untouched n (closeIncoming n) := by
  unfold closeIncoming
  dsimp only
  split
  · exact .after (testReturn_untouched _) rfl rfl rfl
  · exact .of_rest rfl rfl rfl

theorem meterWindows_untouched : Untouched n (meterWindows n) := by
  unfold meterWindows
  extract_lets m
  have slots : Untouched n m := (closeStudio_untouched n).trans (.foldl (fun x i => closeSlot_untouched x i) _ _)
  exact .onto (closeIncoming_untouched _) (.onto (closeSiteOutput_untouched _)
    (.onto (closeLinkOutput_untouched _) (.onto (closeHolder_untouched _) slots)))

/-! ## The bus unit (R1, R2, R9 to R20) -/

theorem rollcallOffered_untouched : Untouched n (rollcallOffered n) :=
  (offer_untouched n 31 (.rollcall n.rollcall)).trans (.of_rest rfl rfl rfl)

theorem rollcallHeard_untouched (r : Rollcall) : Untouched n (rollcallHeard r n) := by
  have fed (d : Node × Bool) (h : Untouched n d.1) (b : Bool) :
      Untouched n (if b then judgeHoldFeed d.1 else d.1) := by
    split
    · exact h.trans (judgeHoldFeed_untouched _)
    · exact h
  unfold rollcallHeard
  dsimp only
  refine .onto (rollcallClaim_untouched _ _ _ _) (.onto (refreshStanding_untouched _) (fed _ ?_ _))
  split <;> exact .of_rest rfl rfl rfl

theorem claimPacket_untouched (src : Nat) (p : List Byte) : Untouched n (claimPacket src p n) :=
  .after (.of_airReach (claimHeard_reach _ _ _ _)) rfl rfl rfl

theorem determineLink_untouched : Untouched n (determineLink n).1 := .of_rest rfl rfl rfl

theorem stationGone_reaches (k : Nat) : Reaches n (stationGone k n) := by
  have gone : Reaches n (studioAbsent k (stationAbsent k { n with bus := n.bus.setEntry k .absent })) :=
    .onto (studioAbsent_reaches _ k) (.of_untouched (.after (.of_airReach (stationAbsent_reach _ _)) rfl rfl rfl))
  unfold stationGone
  extract_lets m d
  have determined : Reaches n d.1 := gone.trans (.of_untouched (determineLink_untouched _))
  refine .onto (.of_untouched (refreshStanding_untouched _)) ?_
  split
  · exact determined.trans (.of_untouched (judgeHoldFeed_untouched _))
  · exact determined

theorem presenceExpiry_reaches : Reaches n (presenceExpiry n) := by
  refine .foldl (fun m i => ?_) _ n
  split
  · exact stationGone_reaches m i
  · exact .refl m

theorem answerPacket_untouched (src : Nat) (p : List Byte) : Untouched n (answerPacket src p n) := by
  unfold answerPacket
  dsimp only
  split
  · split
    · exact .after (handOutcome_untouched _ _ _) rfl rfl rfl
    · exact .of_rest rfl rfl rfl
  · exact .of_rest rfl rfl rfl

theorem requestTimeouts_untouched : Untouched n (requestTimeouts n) :=
  .after (.foldl (fun m e => handOutcome_untouched m e none) _ _) rfl rfl rfl

theorem recordIf_node (b : Bool) (d : ResultData) : (recordIf b d n).node = n := by
  unfold recordIf
  split <;> rfl

theorem statusReply_node (kind index : Nat) : (statusReply kind index n).node = n := by
  unfold statusReply
  split <;> simp only [recordIf_node, Reply.ok_node, Reply.refuse_node]

theorem ownRestart_untouched (a : List Byte) : Untouched n (ownRestart a n).node := by
  unfold ownRestart
  split <;> exact .of_rest rfl rfl rfl

theorem ownClaimSet_untouched (a : List Byte) : Untouched n (ownClaimSet a n).node := by
  unfold ownClaimSet
  dsimp only
  split
  · exact .refl n
  · exact setOwnClaim_untouched n _

theorem ownerReply_reaches (code src : Nat) (tag : Byte) (a : List Byte) :
    Reaches n (ownerReply code src tag a n).node := by
  unfold ownerReply
  split
  · exact .of_untouched (ownCueAdd_untouched n a)
  · exact .of_untouched (ownCueRemove_untouched n a)
  · exact .of_untouched (ownCueClear_untouched n)
  · exact .of_untouched (decidePlay_untouched n)
  · exact .of_untouched (ownStop_untouched n a)
  · exact .of_untouched (ownSceneWrite_untouched n a)
  · exact .of_untouched (sceneSwapFor_untouched n _)
  · exact ownClipOpen_reaches n src tag a
  · exact ownClipDelete_reaches n a
  · exact .of_untouched (ownClaimSet_untouched n a)
  · exact decideAnswer_reaches n _
  · exact .of_untouched (ownCallScreen_untouched n a)
  · exact decideTake_reaches n _ _ _
  · exact decideHold_reaches n _ _
  · exact decideDrop_reaches n _
  · exact .of_untouched (ownAlertEndLocal_untouched n a)
  · exact .of_untouched (ownSiteClipSend_untouched n a)
  · rw [statusReply_node]
    exact .refl n
  · exact .of_untouched (ownRestart_untouched n a)

theorem requestPacket_reaches (src dst : Nat) (p : List Byte) : Reaches n (requestPacket src dst p n) := by
  have decided (code : Nat) (tag : Byte) (a : List Byte) : Reaches n (decideRequest code src tag a n).node := by
    unfold decideRequest
    split
    · exact .of_untouched (.of_rest rfl rfl rfl)
    split
    · exact .refl n
    split
    · exact .refl n
    · exact ownerReply_reaches n code src tag a
  unfold requestPacket
  dsimp only
  split
  · exact .onto (.of_untouched (offerPacket_untouched _ _ _ _)) (decided _ _ _)
  · exact .refl n

theorem deliver_reaches (kind src dst : Nat) (p : List Byte) : Reaches n (deliver kind src dst p n).1 := by
  unfold deliver
  split
  · split
    · exact .of_untouched (blockArrives_untouched n src _)
    · exact .refl n
  · exact .of_untouched (claimPacket_untouched n src p)
  · split
    · exact .of_untouched (rollcallHeard_untouched n _)
    · exact .refl n
  · exact requestPacket_reaches n src dst p
  · exact .of_untouched (answerPacket_untouched n src p)
  · exact .of_untouched (alertPacket_untouched n src p)
  · split
    · exact clipSegment_reaches n p
    · exact .refl n
  · exact .refl n

theorem checkPacket_reaches (kind src dst : Nat) (p : List Byte) : Reaches n (checkPacket kind src dst p n).1 := by
  have counted (f : BusCounters → BusCounters) : Reaches n (mapBusCounters f n) :=
    .of_untouched (.of_rest rfl rfl rfl)
  have ownHeard : Reaches n (ownNumber kind n) := by
    unfold ownNumber
    split
    · exact .of_untouched (.of_rest rfl rfl rfl)
    · exact counted _
  unfold checkPacket
  split
  · exact .of_untouched (.of_rest rfl rfl rfl)
  split
  · exact .of_untouched (.of_rest rfl rfl rfl)
  split
  · exact .refl n
  split
  · exact ownHeard
  split
  · exact .refl n
  · exact .onto (deliver_reaches _ kind src dst p) (counted _)

theorem startSending_untouched (cls : Nat) : Untouched n (startSending cls n) := by
  unfold startSending
  split <;> exact .of_rest rfl rfl rfl

theorem idleGaps_untouched (g : Nat) : Untouched n (idleGaps g n).1 := by
  unfold idleGaps
  dsimp only
  split
  · split
    · exact .after (startSending_untouched _ _) rfl rfl rfl
    · exact .of_rest rfl rfl rfl
  · exact .of_rest rfl rfl rfl

theorem gapsPass_untouched (g : Nat) : Untouched n (gapsPass g n).1 := by
  unfold gapsPass
  split
  · exact idleGaps_untouched n g
  · split
    · exact .refl n
    · exact .after (idleGaps_untouched _ g) rfl rfl rfl
  · exact .refl n

theorem carrier_untouched (g : Nat) : Untouched n (carrier g n) := by
  unfold carrier
  dsimp only
  split
  · exact gapsPass_untouched n g
  · split
    · exact (gapsPass_untouched n g).trans (.of_rest rfl rfl rfl)
    · exact gapsPass_untouched n g

theorem collide_untouched : Untouched n (collide n) := by
  unfold collide
  dsimp only
  split
  · split
    · exact .of_rest rfl rfl rfl
    · split <;> exact .of_rest rfl rfl rfl
  · exact .refl n

theorem packetEnd_untouched : Untouched n (packetEnd n) := by
  unfold packetEnd
  split <;> exact .of_rest rfl rfl rfl

/-! ## Start-up and resets (R82, R149, R192, R198 to R200) -/

theorem softRestart_reaches : Reaches n (softRestart n) where
  phone := by
    refine .single (.clears rfl (.inr (List.length_map _)) fun x mem => ?_)
    obtain ⟨l, soft, rfl⟩ := List.mem_map.mp mem
    obtain ⟨_, _, rfl⟩ := List.mem_map.mp (show l ∈ n.phone.lines.map _ from soft)
    rfl
  store := .single (.restarted rfl)
  site := .refl

theorem sendingComplete_reaches : Reaches n (sendingComplete n) := by
  have sent (b : Bus) : Reaches n { n with bus := b } := .of_untouched (.of_rest rfl rfl rfl)
  unfold sendingComplete
  split
  · dsimp only
    split
    · split
      · exact .onto (softRestart_reaches _) (sent _)
      · exact sent _
    · exact sent _
  · exact .refl n

theorem configRead_reaches (bs : List Byte) : Reaches n (configRead bs n) := by
  unfold configRead
  split
  · split
    · next c _ =>
      have taken : Reaches n (takeSettings c n) := .of_store rfl (.fresh c.memPages rfl) rfl
      split
      · exact taken.trans (.of_site rfl rfl (.fresh c.memPages rfl))
      · exact taken.trans (.of_untouched (.of_rest rfl rfl rfl))
    · exact .of_untouched (.of_rest rfl rfl rfl)
  · exact .refl n

theorem enterRun_untouched : Untouched n (enterRun n) :=
  .onto (.of_airReach (select_reach _)) (.onto (activateOut_untouched _ 5)
    (.after (activateOut_untouched _ 0) rfl rfl rfl))

theorem pinReset_reaches : Reaches n (pinResetNode n) where
  phone := by
    refine .single (.clears rfl (.inl rfl) fun x mem => ?_)
    obtain ⟨l, fresh, rfl⟩ := List.mem_map.mp mem
    rw [(List.mem_replicate.mp (show l ∈ List.replicate 4 _ from fresh)).2]
    rfl
  store := .single (.fresh 0 rfl)
  site := .single (.fresh 0 rfl)

/-! ## The stages of a boundary -/

theorem takeWatches_untouched : Untouched n (takeWatches n) := mapLines_untouched n fun _ => rfl

theorem count_place (l : LineRecord) (ring loop : Bool) : (l.count ring loop).place = l.place := by
  unfold LineRecord.count
  split <;> rfl

/-- The counts of the four lines leave their states and studios. -/
theorem phoneCounts_samePhone (four : n.phone.lines.length = 4) : SamePhone n.phone (phoneCounts n).phone := by
  cases phone : n.cfg.roles.phone with
  | false =>
    simp only [phoneCounts, phone, Bool.false_eq_true, if_false]
    exact ⟨rfl, rfl⟩
  | true =>
    simp only [phoneCounts, phone, if_true]
    refine ⟨rfl, ?_⟩
    simp only [List.map_map, Function.comp_def, count_place]
    refine List.ext_getElem (by simp [lineNumbers, four]) fun k inside _ => ?_
    have isLine : lineNumbers[k]'(by simpa using inside) = k + 1 := by
      match k, inside with
      | 0, _ | 1, _ | 2, _ | 3, _ => rfl
    simp only [List.getElem_map, isLine, Phone.line, Nat.add_sub_cancel]
    rw [List.getD_eq_getElem _ _ (by simpa [lineNumbers, four] using inside)]

theorem phoneCounts_reaches : Reaches n (phoneCounts n) := by
  have store : (phoneCounts n).store = n.store := rfl
  have site : (phoneCounts n).site = n.site := rfl
  exact .of_phone (.same (phoneCounts_samePhone n)) (store ▸ .refl _) (site ▸ .refl _)

theorem stageRun_reaches (st : Stage) (m : Memory) : Reaches n (stageRun st m n) := by
  have rest {x : Node} (phone : x.phone = n.phone) (store : x.store = n.store) (site : x.site = n.site) :
      Reaches n x := .of_untouched (.of_rest phone store site)
  cases st with
  | outgoingExpiry => exact .of_untouched (outgoingExpiry_untouched n)
  | requestTimeout => exact .of_untouched (requestTimeouts_untouched n)
  | presenceExpiry => exact presenceExpiry_reaches n
  | makeBlocks => exact .of_untouched (makeBlocks_untouched n)
  | slotTimeout => exact slotTimeouts_reaches n
  | slotRead => exact slotReads_reaches n
  | loadAges => exact .of_untouched (loadAges_untouched n)
  | loadTimeout => exact loadTimeouts_reaches n
  | meterWindowClose => exact .of_untouched (meterWindows_untouched n)
  | phoneCounts => exact phoneCounts_reaches n
  | ringStart => exact ringStarts_reaches n
  | giveUp => exact giveUps_reaches n
  | hangUp => exact hangUps_reaches n
  | takeWatch => exact .of_untouched (takeWatches_untouched n)
  | takeWatchExpiry => exact takeWatchExpiries_reaches n
  | callerWatchExpiry => exact .of_untouched (callerWatchExpiries_untouched n)
  | cueReports => exact .of_untouched (cueReports_untouched n)
  | countdownLower => exact .of_untouched (countdownLower_untouched n)
  | itemNaturalEnd => exact .of_untouched (eachPlayer_untouched n fun b x => naturalEnd_untouched x b)
  | streamItemEnds => exact .of_untouched (eachPlayer_untouched n fun b x => streamItemEnd_untouched x b)
  | faderRampDone => exact .of_untouched (eachPlayer_untouched n fun b x => faderReport_untouched x b)
  | cueArm => exact .of_untouched (cueArm_untouched n)
  | cueResume => exact .of_untouched (cueResume_untouched n)
  | segueDue => exact .of_untouched (eachPlayer_untouched n fun b x => segueTake_untouched x b)
  | segueCountdownDone => exact .of_untouched (countdownDone_untouched n)
  | playStarts => exact .of_untouched (eachPlayer_untouched n fun b x => playStart_untouched x b)
  | faderTargets => exact .of_untouched (eachPlayer_untouched n fun b x => faderTarget_untouched x b)
  | fadeOutStart => exact .of_untouched (eachPlayer_untouched n fun b x => fadeOutStart_untouched x b)
  | callerReleaseDone => exact .of_untouched (callerReleases_untouched n)
  | mixerTargets => exact .of_untouched (mixerTargets_untouched n)
  | alertClipDone => exact .of_untouched (alertClipDone_untouched n)
  | alertFadeDone => exact .of_untouched (completeAlert_untouched n)
  | alertCapDue => exact .of_untouched (alertCap_untouched n)
  | alertStartNext => exact .of_untouched (alertStartNext_untouched n)
  | alertActivation => exact .of_untouched (activateNext_untouched n false)
  | sourceChange => exact .of_untouched (sourceChange_untouched n)
  | reserveStop => exact .of_untouched (reserveStop_untouched n)
  | reservePlayerStart => exact .of_untouched (reserveStart_untouched n)
  | linkFrameMade => exact .of_untouched (linkFrameMade_untouched n m)
  | returnLost => exact .of_untouched (returnLoss_untouched n)
  | transferNoReport => exact .of_untouched (endTransfer_untouched n _)
  | claimKey =>
    exact actKeys_reaches n fun k x => gateKey_reaches x _ k (.of_untouched (setOwnClaim_untouched x _))
  | playNext =>
    exact actKeys_reaches n fun k x =>
      gateKey_reaches x _ k (keyResult_reaches x k (.of_untouched (decidePlay_untouched x)))
  | stopAll =>
    refine actKeys_reaches n fun k x => gateKey_reaches x _ k (keyResult_reaches x k ?_)
    rw [stopReply_node]
    exact .of_untouched (stopBoth_untouched x)
  | takeNextCaller => exact actKeys_reaches n fun k x => gateTake_reaches x k (takeNext_reaches x k)
  | dropCaller => exact actKeys_reaches n fun k x => gateTake_reaches x k (dropChannel_reaches x _ k)
  | keySceneSwap =>
    exact actKeys_reaches n fun k x =>
      gateKey_reaches x _ k (keyResult_reaches x k (.of_untouched (sceneSwapFor_untouched x 10)))
  | answerNextLine => exact actKeys_reaches n fun k x => answerNextAct_reaches x k
  | rollCount =>
    simp only [stageRun, rollCount]
    split <;> exact rest rfl rfl rfl
  | rollcallDue => exact .of_untouched (rollcallOffered_untouched n)
  | windowCount =>
    simp only [stageRun, windowCount]
    split <;> exact rest rfl rfl rfl
  | listenWindowEnd => exact .of_untouched (enterRun_untouched n)
  | restartDeadline => exact softRestart_reaches n
  | closeBoundary => exact .of_untouched (.after (mapLines_untouched _ fun _ => rfl) rfl rfl rfl)
  | siteStall => exact .of_untouched (siteStall_untouched n)
  | siteFrameStall => exact .of_untouched (.onto (badFrame_untouched _) (mapSite_untouched n rfl rfl))
  | siteContactChange | siteLegs | sitePhase => exact .of_untouched (.of_site rfl rfl ⟨.refl _, rfl, rfl⟩)
  | siteReserveStop => exact .of_untouched (siteReserveStop_untouched n)
  | siteReservePlayerStart => exact .of_untouched (siteReserveStart_untouched n)
  | siteFrameBoundary => exact .of_untouched (siteFrame_untouched n)
  | siteConceal => exact .of_untouched (enterConcealing_untouched n)
  | siteReserveEntry => exact .of_untouched (enterReserve_untouched n _)
  | tallyApply | keySample | voiceOpenRelease | voiceOpen | outgoingAges | requesterAges | presenceAges | slotAges |
      meterAdvance | callerWatch | cueCounts | swapCount | sceneSwapEnd | alertCounts | alertLineGapTimeout | legDrop |
      linkPhase | restartCount => exact rest rfl rfl rfl

end

/-- Whatever a part has reached, it has still reached after every step. -/
theorem reaches_keptBySteps (n : Node) : KeptBySteps (Reaches n) where
  settled _ h := h.trans (.of_untouched (settled_untouched _))
  stage st m _ h := h.trans (stageRun_reaches _ st m)
  gaps k _ h := h.trans (.of_untouched (gapsPass_untouched _ k))
  carrier k _ h := h.trans (.of_untouched (carrier_untouched _ k))
  sent _ h := h.trans (sendingComplete_reaches _)
  collided _ h := h.trans (.of_untouched (collide_untouched _))
  packet kind src dst p _ h := h.trans (checkPacket_reaches _ kind src dst p)
  counted _ _ h := h.trans (.of_untouched (.of_rest rfl rfl rfl))
  heard _ h := h.trans (.of_untouched (packetEnd_untouched _))
  alertByte b stop _ h := h.trans (.of_untouched (alertByte_untouched _ b stop))
  frameSent _ h := h.trans (.of_untouched (linkFrameSent_untouched _))
  returned bs _ h := h.trans (.of_untouched (returnFrameHeard_untouched _ bs))
  siteByte b _ h := h.trans (siteByte_reaches _ b)
  config bs _ h := h.trans (configRead_reaches _ bs)
  instant m inp _ h := h.trans (.of_untouched (instant_untouched _ m inp))
  reset _ h := h.trans (pinReset_reaches _)

/-- A step changes the caller queue, the clips and the site's clips in no other way. -/
theorem step_reaches {s t : State} (run : step s = .next t) : Reaches s.node t.node :=
  (reaches_keptBySteps s.node).step (.refl _) run

end Sys2Proof.Machine
end

section
/-! PROOFS. The free extents (section 4.3, R67 to R69): what freeing an extent and first fit do to the order of the
list, to the free page total, and to the pages that the list covers. -/

namespace Sys2Proof.Machine

/-- The order of the free extents: by page, with at least one page between two of them (R67). -/
abbrev ExtentsOrdered (l : List Extent) : Prop := l.Pairwise (fun a b => a.first + a.count < b.first)

/-- A page of an extent. -/
abbrev Extent.Holds (e : Extent) (page : Nat) : Prop := e.first ≤ page ∧ page < e.first + e.count

/-- How many of the extents hold a page. -/
def coverCount (page : Nat) (l : List Extent) : Nat := l.countP (fun e => decide (e.Holds page))

@[simp] theorem freeTotal_nil : freeTotal [] = 0 := rfl

@[simp] theorem freeTotal_cons (x : Extent) (l : List Extent) : freeTotal (x :: l) = x.count + freeTotal l := by
  simp only [freeTotal_eq_sum, List.map_cons, List.sum_cons]

@[simp] theorem freeTotal_append (l r : List Extent) : freeTotal (l ++ r) = freeTotal l + freeTotal r := by
  simp only [freeTotal_eq_sum, List.map_append, List.sum_append]

@[simp] theorem coverCount_nil (page : Nat) : coverCount page [] = 0 := rfl

@[simp] theorem coverCount_cons (page : Nat) (x : Extent) (l : List Extent) :
    coverCount page (x :: l) = coverCount page l + if x.Holds page then 1 else 0 := by
  unfold coverCount
  simp only [List.countP_cons, decide_eq_true_eq]

@[simp] theorem coverCount_append (page : Nat) (l r : List Extent) :
    coverCount page (l ++ r) = coverCount page l + coverCount page r := List.countP_append

/-- Two extents that touch, joined: the pages of the one or of the other. -/
theorem holds_join {a b c page : Nat} :
    (if a ≤ page ∧ page < a + (b + c) then 1 else 0) =
      (if a ≤ page ∧ page < a + b then 1 else 0) + (if a + b ≤ page ∧ page < a + b + c then 1 else 0) := by
  split <;> split <;> split <;> omega

/-! ## Freeing an extent (R68) -/

section
variable (e : Extent)

theorem freeTotal_freeExtent (l : List Extent) : freeTotal (freeExtent e l) = freeTotal l + e.count := by
  fun_induction freeExtent e l with
  | case1 => simp
  | case2 x xs _ _ => simp; omega
  | case3 x xs _ _ => simp; omega
  | case4 x _ _ => simp
  | case5 x y ys _ _ _ => simp; omega
  | case6 x y ys _ _ _ => simp; omega
  | case7 x xs _ _ ih => simp [ih]; omega

/-- The pages of the extent freed are covered once more. -/
theorem coverCount_freeExtent (page : Nat) (l : List Extent) :
    coverCount page (freeExtent e l) = coverCount page l + if e.Holds page then 1 else 0 := by
  unfold Extent.Holds
  fun_induction freeExtent e l with
  | case1 => simp
  | case2 x xs _ touch => simp only [coverCount_cons, Extent.Holds, holds_join, touch]; omega
  | case3 x xs _ _ => simp only [coverCount_cons, Extent.Holds]
  | case4 x _ touch => simp only [coverCount_cons, coverCount_nil, Extent.Holds, holds_join, touch]; omega
  | case5 x _ touch y ys next =>
    simp only [coverCount_cons, Extent.Holds, Nat.add_assoc x.count, holds_join, touch, next]; omega
  | case6 x _ touch y ys _ => simp only [coverCount_cons, Extent.Holds, holds_join, touch]; omega
  | case7 x xs _ _ ih => simp only [coverCount_cons, ih]; omega

/-- An extent of the list after is the extent freed, or one of the list before, or one of them made longer. -/
theorem freeExtent_extends (l : List Extent) :
    ∀ y ∈ freeExtent e l, ∃ z ∈ e :: l, z.first = y.first ∧ z.count ≤ y.count := by
  have kept {k : List Extent} (y : Extent) (mem : y ∈ k) : ∃ z ∈ k, z.first = y.first ∧ z.count ≤ y.count :=
    ⟨y, mem, rfl, Nat.le_refl _⟩
  fun_induction freeExtent e l with
  | case1 | case3 => exact kept
  | case2 x xs _ _ =>
    exact List.forall_mem_cons.mpr ⟨⟨e, List.mem_cons_self, rfl, Nat.le_add_right _ _⟩,
      fun y mem => kept y (List.mem_cons_of_mem _ (List.mem_cons_of_mem _ mem))⟩
  | case4 x _ _ =>
    exact List.forall_mem_singleton.mpr ⟨x, List.mem_cons_of_mem _ List.mem_cons_self, rfl, Nat.le_add_right _ _⟩
  | case5 x _ _ y ys _ =>
    have longer : x.count ≤ x.count + e.count + y.count := by omega
    exact List.forall_mem_cons.mpr ⟨⟨x, List.mem_cons_of_mem _ List.mem_cons_self, rfl, longer⟩,
      fun z mem => kept z (List.mem_cons_of_mem _ (List.mem_cons_of_mem _ (List.mem_cons_of_mem _ mem)))⟩
  | case6 x _ _ y ys _ =>
    exact List.forall_mem_cons.mpr ⟨⟨x, List.mem_cons_of_mem _ List.mem_cons_self, rfl, Nat.le_add_right _ _⟩,
      fun z mem => kept z (List.mem_cons_of_mem _ (List.mem_cons_of_mem _ mem))⟩
  | case7 x xs _ _ ih =>
    refine List.forall_mem_cons.mpr ⟨kept x (List.mem_cons_of_mem _ List.mem_cons_self), fun y mem => ?_⟩
    obtain ⟨z, before, longer⟩ := ih y mem
    refine ⟨z, ?_, longer⟩
    rcases List.mem_cons.mp before with rfl | before
    · exact List.mem_cons_self
    · exact List.mem_cons_of_mem _ (List.mem_cons_of_mem _ before)

theorem freeExtent_count (l : List Extent) (own : 0 < e.count) (all : ∀ x ∈ l, 0 < x.count) :
    ∀ y ∈ freeExtent e l, 0 < y.count := by
  intro y mem
  obtain ⟨z, before, -, longer⟩ := freeExtent_extends e l y mem
  have counts : ∀ x ∈ e :: l, 0 < x.count := List.forall_mem_cons.mpr ⟨own, all⟩
  exact Nat.lt_of_lt_of_le (counts z before) longer

/-- An extent that shares no page with the list is freed at its place: the order is kept. -/
theorem freeExtent_ordered (l : List Extent) (ordered : ExtentsOrdered l) (own : 0 < e.count)
    (all : ∀ x ∈ l, 0 < x.count)
    (apart : ∀ x ∈ l, e.first + e.count ≤ x.first ∨ x.first + x.count ≤ e.first) :
    ExtentsOrdered (freeExtent e l) := by
  fun_induction freeExtent e l with
  | case1 => exact List.pairwise_singleton _ _
  | case2 x xs below touch =>
    obtain ⟨after, later⟩ := List.pairwise_cons.mp ordered
    refine List.pairwise_cons.mpr ⟨fun z mem => ?_, later⟩
    have := after z mem
    dsimp only
    omega
  | case3 x xs below touch =>
    obtain ⟨after, later⟩ := List.pairwise_cons.mp ordered
    have := apart x List.mem_cons_self
    have := all x List.mem_cons_self
    refine List.pairwise_cons.mpr ⟨fun z mem => ?_, ordered⟩
    rcases List.mem_cons.mp mem with rfl | mem
    · omega
    · have := after z mem
      omega
  | case4 x below touch => exact List.pairwise_singleton _ _
  | case5 x below touch y ys next =>
    obtain ⟨-, later⟩ := List.pairwise_cons.mp ordered
    obtain ⟨after, later⟩ := List.pairwise_cons.mp later
    refine List.pairwise_cons.mpr ⟨fun z mem => ?_, later⟩
    have := after z mem
    dsimp only
    omega
  | case6 x below touch y ys next =>
    obtain ⟨-, later⟩ := List.pairwise_cons.mp ordered
    obtain ⟨after, -⟩ := List.pairwise_cons.mp later
    have := apart y (List.mem_cons_of_mem _ List.mem_cons_self)
    have := all y (List.mem_cons_of_mem _ List.mem_cons_self)
    have := (List.pairwise_cons.mp ordered).1 y List.mem_cons_self
    refine List.pairwise_cons.mpr ⟨fun z mem => ?_, later⟩
    dsimp only
    rcases List.mem_cons.mp mem with rfl | mem
    · omega
    · have := after z mem
      omega
  | case7 x xs below touch ih =>
    obtain ⟨after, later⟩ := List.pairwise_cons.mp ordered
    have := apart x List.mem_cons_self
    have ordered := ih later (fun z mem => all z (List.mem_cons_of_mem _ mem))
      (fun z mem => apart z (List.mem_cons_of_mem _ mem))
    refine List.pairwise_cons.mpr ⟨fun z mem => ?_, ordered⟩
    obtain ⟨w, before, start, -⟩ := freeExtent_extends e xs z mem
    rcases List.mem_cons.mp before with rfl | inside
    · omega
    · have := after w inside
      omega

end

/-! ## First fit (R69) -/

section
variable {p : Nat} {l : List Extent}

theorem allocate_none (small : ∀ x ∈ l, x.count < p) : allocate p l = none := by
  induction l with
  | nil => rfl
  | cons x xs ih =>
    obtain ⟨first, later⟩ := List.forall_mem_cons.mp small
    unfold allocate
    rw [if_neg (by omega), ih later]

/-- What first fit leaves of the extent that it takes its pages from. -/
def Extent.cut (x : Extent) (p : Nat) (rest : List Extent) : List Extent :=
  if x.count = p then rest else { first := x.first + p, count := x.count - p } :: rest

/-- First fit takes its pages from the first extent that holds them. -/
theorem allocate_fits {before rest : List Extent} {x : Extent} (small : ∀ y ∈ before, y.count < p)
    (fits : p ≤ x.count) : allocate p (before ++ x :: rest) = some (x.first, before ++ x.cut p rest) := by
  induction before with
  | nil =>
    rw [List.nil_append, allocate, if_pos fits]
    rfl
  | cons y ys ih =>
    obtain ⟨first, later⟩ := List.forall_mem_cons.mp small
    rw [List.cons_append, allocate, if_neg (by omega), ih later]
    rfl

theorem allocate_some {first : Nat} {after : List Extent} (h : allocate p l = some (first, after)) :
    ∃ before x rest, l = before ++ x :: rest ∧ p ≤ x.count ∧ first = x.first ∧ after = before ++ x.cut p rest := by
  induction l generalizing after with
  | nil => cases h
  | cons x xs ih =>
    unfold allocate at h
    split at h
    · next fits =>
      cases h
      exact ⟨[], x, xs, rfl, fits, rfl, rfl⟩
    · split at h
      · next found =>
        cases h
        obtain ⟨before, y, rest, rfl, fits, rfl, rfl⟩ := ih found
        exact ⟨x :: before, y, rest, rfl, fits, rfl, rfl⟩
      · cases h

section
variable {x : Extent} {rest : List Extent}

theorem mem_cut {y : Extent} (mem : y ∈ x.cut p rest) :
    y ∈ rest ∨ (y = { first := x.first + p, count := x.count - p } ∧ x.count ≠ p) := by
  unfold Extent.cut at mem
  split at mem
  · exact .inl mem
  · next left => exact (List.mem_cons.mp mem).elim (fun e => .inr ⟨e, left⟩) .inl

theorem freeTotal_cut (fits : p ≤ x.count) : freeTotal (x.cut p rest) + p = freeTotal (x :: rest) := by
  unfold Extent.cut
  split <;> simp only [freeTotal_cons] <;> omega

theorem coverCount_cut (fits : p ≤ x.count) (page : Nat) :
    coverCount page (x.cut p rest) + (if x.first ≤ page ∧ page < x.first + p then 1 else 0) =
      coverCount page (x :: rest) := by
  unfold Extent.cut
  split
  · next all =>
    simp only [coverCount_cons, Extent.Holds, all]
  · simp only [coverCount_cons, Extent.Holds]
    split <;> split <;> split <;> omega

end

theorem allocate_ordered {first : Nat} {after : List Extent} (ordered : ExtentsOrdered l)
    (h : allocate p l = some (first, after)) : ExtentsOrdered after := by
  obtain ⟨before, x, rest, rfl, fits, -, rfl⟩ := allocate_some h
  unfold Extent.cut
  split
  · exact ordered.sublist (List.Sublist.append_left (List.sublist_cons_self x rest) before)
  · obtain ⟨early, late, across⟩ := List.pairwise_append.mp ordered
    obtain ⟨after, late⟩ := List.pairwise_cons.mp late
    refine List.pairwise_append.mpr ⟨early, List.pairwise_cons.mpr ⟨fun z mem => ?_, late⟩, fun a mem z mem' => ?_⟩
    · have := after z mem
      dsimp only
      omega
    · rcases List.mem_cons.mp mem' with rfl | mem'
      · have := across a mem x List.mem_cons_self
        dsimp only
        omega
      · exact across a mem z (List.mem_cons_of_mem _ mem')

theorem freeTotal_allocate {first : Nat} {after : List Extent} (h : allocate p l = some (first, after)) :
    freeTotal after + p = freeTotal l := by
  obtain ⟨before, x, rest, rfl, fits, -, rfl⟩ := allocate_some h
  rw [freeTotal_append, freeTotal_append, Nat.add_assoc, freeTotal_cut fits]

theorem coverCount_allocate {first : Nat} {after : List Extent} (h : allocate p l = some (first, after))
    (page : Nat) :
    coverCount page after + (if first ≤ page ∧ page < first + p then 1 else 0) = coverCount page l := by
  obtain ⟨before, x, rest, rfl, fits, rfl, rfl⟩ := allocate_some h
  rw [coverCount_append, coverCount_append, Nat.add_assoc, coverCount_cut fits]

theorem allocate_count {first : Nat} {after : List Extent} (all : ∀ x ∈ l, 0 < x.count)
    (h : allocate p l = some (first, after)) : ∀ y ∈ after, 0 < y.count := by
  obtain ⟨before, x, rest, rfl, fits, -, rfl⟩ := allocate_some h
  intro y mem
  rcases List.mem_append.mp mem with mem | mem
  · exact all y (List.mem_append_left _ mem)
  · rcases mem_cut mem with mem | ⟨rfl, left⟩
    · exact all y (List.mem_append_right _ (List.mem_cons_of_mem _ mem))
    · show 0 < x.count - p
      omega

end

/-- Settles O29: an extent freed into the list, and first fit without and with an extent that holds the pages. -/
theorem freeExtentsKept : Obligations.FreeExtentsKept :=
  ⟨fun e l ordered own all apart => ⟨freeExtent_ordered e l ordered own all apart, freeTotal_freeExtent e l⟩,
    fun _ _ => allocate_none, fun _ _ _ _ ordered h => ⟨allocate_ordered ordered h, freeTotal_allocate h⟩⟩

end Sys2Proof.Machine
end

section
/-! PROOFS. The caller queue holds the lines that wait, and the lines ON_AIR are those with a studio, whatever changes
the phone unit (R133). -/

namespace Sys2Proof.Machine

/-- The queue and the lines of a phone unit agree (R133). -/
def Phone.Exact (p : Phone) : Prop :=
  p.lines.length = 4 ∧ p.queue.Nodup ∧ (∀ i, i ∈ p.queue ↔ 1 ≤ i ∧ i ≤ 4 ∧ (p.line i).state.queues) ∧
    ∀ i, 1 ≤ i → i ≤ 4 → ((p.line i).studio ≠ none ↔ (p.line i).state = .onAir)

theorem callerQueueExact_iff (s : State) : CallerQueueExact s ↔ s.node.phone.Exact := Iff.rfl

section
variable {p q : Phone}

theorem line_place (p : Phone) (i : Nat) : (p.line i).place = p.places.getD (i - 1) (.idle, none) :=
  (List.getD_map p.lines LineRecord.reset LineRecord.place).symm

theorem line_state (p : Phone) (i : Nat) : (p.line i).state = (p.line i).place.1 := rfl

theorem line_studio (p : Phone) (i : Nat) : (p.line i).studio = (p.line i).place.2 := rfl

theorem length_places (p : Phone) : p.places.length = p.lines.length := List.length_map _

/-- The line changed, and every other line. -/
theorem place_of_set {i j : Nat} {x : LineState × Option Party} (lines : q.places = p.places.set (i - 1) x)
    (length : p.lines.length = 4) (line : 1 ≤ i ∧ i ≤ 4) (other : 1 ≤ j) :
    (q.line j).place = if j = i then x else (p.line j).place := by
  rw [line_place, line_place, lines]
  have inside : i - 1 < p.places.length := by
    rw [length_places]
    omega
  split
  · next same =>
    rw [same, List.getD_eq_getElem?_getD, List.getElem?_set_self inside]
    rfl
  · rw [List.getD_eq_getElem?_getD, List.getElem?_set_ne (by omega), ← List.getD_eq_getElem?_getD]

namespace Phone.Exact

theorem of_samePhone (exact : p.Exact) (same : SamePhone p q) : q.Exact := by
  obtain ⟨length, nodup, queue, studio⟩ := exact
  have places : q.places = p.places := same.lines
  have place (i : Nat) : (q.line i).place = (p.line i).place := by rw [line_place, line_place, places]
  refine ⟨?_, same.queue ▸ nodup, fun i => ?_, fun i => ?_⟩
  · rw [← length_places, places, length_places, length]
  · rw [same.queue, line_state, place]
    exact queue i
  · rw [line_state, line_studio, place]
    exact studio i

/-- One line changed: the queue has that line as its new state asks, and every other line as before. -/
theorem of_place_set (exact : p.Exact) {i : Nat} {x : LineState × Option Party} (line : 1 ≤ i ∧ i ≤ 4)
    (lines : q.places = p.places.set (i - 1) x) (nodup : q.queue.Nodup) (own : i ∈ q.queue ↔ x.1.queues)
    (others : ∀ j, j ≠ i → (j ∈ q.queue ↔ j ∈ p.queue)) (studio : x.2 ≠ none ↔ x.1 = .onAir) : q.Exact := by
  obtain ⟨length, -, queue, studios⟩ := exact
  have place {j : Nat} (other : 1 ≤ j) := place_of_set lines length line other
  refine ⟨?_, nodup, fun j => ?_, fun j first last => ?_⟩
  · rw [← length_places, lines, List.length_set, length_places, length]
  · by_cases same : j = i
    · rw [line_state]
      subst same
      rw [place line.1, if_pos rfl, own]
      exact ⟨fun h => ⟨line.1, line.2, h⟩, fun h => h.2.2⟩
    · rw [others j same, queue j, line_state, line_state]
      refine and_congr_right fun first => ?_
      rw [place first, if_neg same]
  · rw [line_state, line_studio, place first]
    split
    · exact studio
    · exact studios j first last

/-- A line of the queue is a line of the part. -/
theorem line_of_mem (exact : p.Exact) {i : Nat} (mem : i ∈ p.queue) : 1 ≤ i ∧ i ≤ 4 := by
  obtain ⟨-, -, queue, -⟩ := exact
  obtain ⟨first, last, -⟩ := (queue i).mp mem
  exact ⟨first, last⟩

theorem of_joins (exact : p.Exact) {i : Nat} {s : LineState} {x : Option Party} (line : 1 ≤ i ∧ i ≤ 4)
    (before : ¬ (p.line i).state.queues) (after : s.queues)
    (studio : x = none ∨ (x = (p.line i).studio ∧ (p.line i).state ≠ .onAir))
    (queue : q.queue.Perm (i :: p.queue)) (lines : q.places = p.places.set (i - 1) (s, x)) : q.Exact := by
  have ⟨_, nodup, waiting, studios⟩ := exact
  have absent : i ∉ p.queue := fun mem => before ((waiting i).mp mem).2.2
  have off : s ≠ .onAir := by rintro rfl; rcases after with h | h <;> cases h
  have none : x = none := studio.elim id fun ⟨own, air⟩ =>
    own.trans (not_not.mp (mt (studios i line.1 line.2).mp air))
  refine exact.of_place_set line lines (queue.nodup_iff.mpr (List.nodup_cons.mpr ⟨absent, nodup⟩)) ?_ ?_ ?_
  · exact iff_of_true (queue.mem_iff.mpr List.mem_cons_self) after
  · intro j other
    rw [queue.mem_iff, List.mem_cons]
    exact or_iff_right other
  · exact iff_of_false (not_not.mpr none) off

theorem of_leaves (exact : p.Exact) {i : Nat} {s : LineState} {x : Option Party}
    (line : i ∈ p.queue ∨ (1 ≤ i ∧ i ≤ 4)) (after : ¬ s.queues) (studio : x ≠ none ↔ s = .onAir)
    (queue : q.queue = p.queue.filter (fun j => decide (j ≠ i)))
    (lines : q.places = p.places.set (i - 1) (s, x)) : q.Exact := by
  refine exact.of_place_set (line.elim exact.line_of_mem id) lines ?_ ?_ ?_ studio
  · rw [queue]
    exact exact.2.1.filter _
  · refine iff_of_false (fun mem => ?_) after
    rw [queue, List.mem_filter] at mem
    exact of_decide_eq_true mem.2 rfl
  · intro j other
    rw [queue, List.mem_filter]
    exact and_iff_left (decide_eq_true other)

theorem of_change (change : PhoneChange p q) (exact : p.Exact) : q.Exact := by
  cases change with
  | same h => exact exact.of_samePhone (h exact.1)
  | rings i s line before after queue lines =>
    have ⟨_, nodup, waiting, studios⟩ := exact
    refine exact.of_place_set line lines (queue ▸ nodup) ?_ (fun j _ => by rw [queue]) ?_
    · rw [queue]
      exact iff_of_false (fun mem => before.1 ((waiting i).mp mem).2.2) after.1
    · exact (studios i line.1 line.2).trans (iff_of_false before.2 after.2)
  | joins i s x line before after studio queue lines => exact exact.of_joins line before after studio queue lines
  | leaves i s x line after studio queue lines => exact exact.of_leaves line after studio queue lines
  | clears queue length lines =>
    have place (i : Nat) (h : i - 1 < q.places.length) : (q.line i).place = (.idle, none) := by
      rw [line_place, List.getD_eq_getElem _ _ h]
      exact lines _ (List.getElem_mem h)
    have four : q.lines.length = 4 := length.elim id fun h => h.trans exact.1
    have inside {i : Nat} (last : i ≤ 4) : i - 1 < q.places.length := by
      rw [length_places]
      omega
    refine ⟨four, queue ▸ List.nodup_nil, fun i => ?_, fun i _ last => ?_⟩
    · rw [queue]
      refine iff_of_false (List.not_mem_nil) fun ⟨_, last, waits⟩ => ?_
      rw [line_state, place i (inside last)] at waits
      rcases waits with h | h <;> cases h
    · rw [line_state, line_studio, place i (inside last)]
      exact iff_of_false (fun h => h rfl) (fun h => by cases h)

theorem of_changes (changes : Relation.ReflTransGen PhoneChange p q) (exact : p.Exact) : q.Exact := by
  induction changes with
  | refl => exact exact
  | tail _ change ih => exact ih.of_change change

end Phone.Exact

end

/-- Settles O6: every step changes the phone unit by the changes of `PhoneChange`, and each keeps the queue exact. -/
theorem callerQueueStaysExact : Obligations.CallerQueueStaysExact :=
  fun s t exact run =>
    (callerQueueExact_iff t).mpr (.of_changes (step_reaches run).phone ((callerQueueExact_iff s).mp exact))

end Sys2Proof.Machine
end

section
/-! PROOFS. The loads and the clips LOADING agree, whatever changes the clip stores (R71, R188). -/

namespace Sys2Proof.Machine

/-- The loads of a station's clip store and its clips LOADING agree (R71). -/
structure Store.Matched (d : Store) : Prop where
  dir : d.dir.length = 256
  few : d.loads.length ≤ 4
  once : (d.loads.map (fun l => l.clip)).Nodup
  loading : ∀ c, (d.clip c).state = .loading ↔ ∃ l ∈ d.loads, l.clip = c
  serial : ∀ l ∈ d.loads, l.serial = (d.clip l.clip).serial

/-- The site's transfer and its clips LOADING agree (R188). -/
structure Site.Matched (x : Site) : Prop where
  dir : x.store.dir.length = 256
  loading : ∀ c, (x.store.clip c).state = .loading ↔ x.transfer.state = .receiving ∧ x.transfer.clip = c

theorem loadsMatchClips_iff (s : State) : LoadsMatchClips s ↔ s.node.store.Matched ∧ s.node.site.Matched :=
  ⟨fun ⟨dir, few, once, loading, serial, site, transfer⟩ => ⟨⟨dir, few, once, loading, serial⟩, ⟨site, transfer⟩⟩,
    fun ⟨⟨dir, few, once, loading, serial⟩, ⟨site, transfer⟩⟩ =>
      ⟨dir, few, once, loading, serial, site, transfer⟩⟩

/-! ## Clips and loads that stand as they were -/

namespace SameClips

variable {d x : Store}

theorem clip_held (same : SameClips d x) (k : Nat) : (x.clip k).held = (d.clip k).held :=
  calc (x.clip k).held = (x.dir.map ClipEntry.held).getD k (ClipEntry.held .reset) := (List.getD_map ..).symm
    _ = (d.dir.map ClipEntry.held).getD k (ClipEntry.held .reset) := by rw [same.dir]
    _ = (d.clip k).held := List.getD_map ..

theorem clip_state (same : SameClips d x) (k : Nat) : (x.clip k).state = (d.clip k).state :=
  (congrArg ClipEntry.state (same.clip_held k) :)

theorem clip_serial (same : SameClips d x) (k : Nat) : (x.clip k).serial = (d.clip k).serial :=
  (congrArg ClipEntry.serial (same.clip_held k) :)

theorem dir_length (same : SameClips d x) : x.dir.length = d.dir.length := by
  simpa only [List.length_map] using congrArg List.length same.dir

theorem loads_length (same : SameClips d x) : x.loads.length = d.loads.length := by
  simpa only [List.length_map] using congrArg List.length same.loads

theorem loads_clips (same : SameClips d x) : x.loads.map (fun l => l.clip) = d.loads.map (fun l => l.clip) := by
  simpa only [List.map_map, Function.comp_def, LoadContext.named] using congrArg (List.map Prod.fst) same.loads

/-- Every load has its like among the loads before. -/
theorem load_before (same : SameClips d x) {l : LoadContext} (mem : l ∈ x.loads) : ∃ k ∈ d.loads, k.named = l.named :=
  List.mem_map.mp (same.loads ▸ List.mem_map_of_mem mem)

end SameClips

/-! ## The loads of a station -/

namespace Store.Matched

variable {d x : Store}

theorem of_sameClips (matched : d.Matched) (same : SameClips d x) : x.Matched := by
  refine ⟨same.dir_length.trans matched.dir, same.loads_length ▸ matched.few, same.loads_clips ▸ matched.once,
    fun c => ?_, fun l mem => ?_⟩
  · rw [same.clip_state, matched.loading, ← List.mem_map, ← List.mem_map, same.loads_clips]
  · obtain ⟨k, before, named⟩ := same.load_before mem
    obtain ⟨clip, serial⟩ := Prod.mk.inj named
    rw [same.clip_serial, ← clip, ← serial]
    exact matched.serial k before

/-- A clip of no load is not LOADING. -/
theorem idle (matched : d.Matched) {c : Nat} (none : ∀ l ∈ d.loads, l.clip ≠ c) : (d.clip c).state ≠ .loading :=
  fun loading => (matched.loading c).mp loading |>.elim fun l ⟨mem, clip⟩ => none l mem clip

/-- A clip whose load ends, and every other clip as before. -/
theorem of_dropped (matched : d.Matched) {c : Nat} (dir : x.dir.length = d.dir.length)
    (loads : x.loads = d.loads.filter (fun l => decide (l.clip ≠ c))) (own : (x.clip c).state ≠ .loading)
    (others : ∀ k, k ≠ c → x.clip k = d.clip k) : x.Matched := by
  refine ⟨dir.trans matched.dir, ?_, ?_, fun k => ?_, fun l mem => ?_⟩
  · rw [loads]
    exact (List.length_filter_le _ _).trans matched.few
  · rw [loads]
    exact matched.once.sublist ((List.filter_sublist).map _)
  · rw [loads]
    by_cases same : k = c
    · refine iff_of_false (same ▸ own) fun ⟨l, mem, clip⟩ => ?_
      exact of_decide_eq_true (List.mem_filter.mp mem).2 (clip.trans same)
    · rw [others k same, matched.loading]
      refine exists_congr fun l => and_congr_left fun clip => ?_
      rw [List.mem_filter, decide_eq_true_eq, clip]
      exact (and_iff_left same).symm
  · obtain ⟨before, other⟩ := List.mem_filter.mp (loads ▸ mem)
    rw [others _ (of_decide_eq_true other)]
    exact matched.serial l before

theorem freed (matched : d.Matched) (c : Nat) : (d.freed c).Matched := by
  refine matched.of_dropped (c := c) (emptyClip_dir_length d c) (congrArg _ (emptyClip_loads d c)) ?_
    fun k other => emptyClip_other other
  rw [show ((d.freed c).clip c).state = .empty from (emptyClip_clip d c c).1.trans (if_pos rfl)]
  decide

/-- A clip of no load is emptied: there is no load to give up. -/
theorem freed_eq_emptyClip {c : Nat} (none : ∀ l ∈ d.loads, l.clip ≠ c) : d.freed c = d.emptyClip c := by
  unfold Store.freed Store.dropLoad
  rw [List.filter_eq_self.mpr fun l mem => decide_eq_true (none l (emptyClip_loads d c ▸ mem))]

theorem emptied (matched : d.Matched) {c : Nat} (before : (d.clip c).state ≠ .loading) : (d.emptyClip c).Matched := by
  rw [← freed_eq_emptyClip fun l mem clip => before ((matched.loading c).mpr ⟨l, mem, clip⟩)]
  exact matched.freed c

/-- A load is opened for a clip that has none. -/
theorem of_opened (matched : d.Matched) {c : Nat} {e : ClipEntry} {l : LoadContext} {rest : List Extent}
    (number : c < 256) (none : ∀ k ∈ d.loads, k.clip ≠ c) (room : d.loads.length < 4) (state : e.state = .loading)
    (clip : l.clip = c) (serial : l.serial = e.serial) :
    Store.Matched { d.setClip c e with free := rest, loads := d.loads ++ [l] } := by
  have entry (k : Nat) : ({ d.setClip c e with free := rest, loads := d.loads ++ [l] } : Store).clip k =
      if k = c ∧ c < d.dir.length then e else d.clip k := clip_setClip d c k e
  have inside : c < d.dir.length := matched.dir ▸ number
  refine ⟨(List.length_set).trans matched.dir, ?_, ?_, fun k => ?_, fun k mem => ?_⟩
  · rw [List.length_append]
    exact room
  · rw [List.map_append, List.nodup_append]
    refine ⟨matched.once, List.nodup_singleton _, fun a mem b single => ?_⟩
    obtain ⟨k, before, rfl⟩ := List.mem_map.mp mem
    have own : b = c := (List.mem_singleton.mp single).trans clip
    exact own ▸ none k before
  · rw [entry]
    by_cases same : k = c
    · rw [if_pos ⟨same, inside⟩]
      exact iff_of_true state ⟨l, List.mem_append_right _ (List.mem_singleton_self l), clip.trans same.symm⟩
    · rw [if_neg fun both => same both.1, matched.loading]
      simp only [List.mem_append, List.mem_singleton, or_and_right, exists_or, exists_eq_left]
      exact (or_iff_left fun own => same (own.symm.trans clip)).symm
  · rw [entry]
    rcases List.mem_append.mp mem with before | own
    · rw [if_neg fun both => none k before both.1]
      exact matched.serial k before
    · rw [List.mem_singleton.mp own, if_pos ⟨clip, inside⟩, serial]

/-- A load marked under its own clip and serial changes no other load. -/
theorem marked_sameClips (matched : d.Matched) {k l : LoadContext} (loading : k ∈ d.loads) (named : l.named = k.named) :
    SameClips d (d.mapLoad l.clip (fun _ => l)) := by
  refine mapLoads_sameClips d fun m mem => ?_
  split
  · next clip =>
    have clips : m.clip = k.clip := clip.trans (Prod.mk.inj named).1
    rw [List.inj_on_of_nodup_map matched.once mem loading clips, named]
  · rfl

/-- A clip that LOADS is read at its place. -/
theorem completed (matched : d.Matched) {c : Nat} {s : ClipState} (state : s ≠ .loading) :
    ((d.setClip c { d.clip c with state := s }).dropLoad c).Matched := by
  have entry (k : Nat) : ((d.setClip c { d.clip c with state := s }).dropLoad c).clip k =
      if k = c ∧ c < d.dir.length then { d.clip c with state := s } else d.clip k := clip_setClip d c k _
  refine matched.of_dropped (c := c) List.length_set rfl ?_ fun k other => ?_
  · rw [entry]
    split
    · exact state
    · next outside =>
      rw [clip_out d c (Nat.not_lt.mp fun inside => outside ⟨rfl, inside⟩)]
      decide
  · rw [entry, if_neg fun both => other both.1]

theorem soft (matched : d.Matched) : d.soft.Matched := by
  refine ⟨d.soft_dir_length.trans matched.dir, Nat.zero_le 4, List.nodup_nil, fun c => ?_, fun l mem => ?_⟩
  · refine iff_of_false ?_ fun ⟨_, mem, _⟩ => List.not_mem_nil mem
    by_cases own : ∃ l ∈ d.loads, l.clip = c
    · rw [Store.soft_clip_ended d own (by rw [(matched.loading c).mpr own]; decide)]
      exact (by decide : ClipState.empty ≠ .loading)
    · have none : ∀ l ∈ d.loads, l.clip ≠ c := fun l mem clip => own ⟨l, mem, clip⟩
      rw [Store.soft_clip_kept d none]
      exact matched.idle none
  · exact absurd mem List.not_mem_nil

end Store.Matched

theorem ofPages_clip (pages c : Nat) : (Store.ofPages pages).clip c = .reset := by
  unfold Store.clip
  rw [List.getD_eq_getElem?_getD]
  exact List.getElem?_getD_replicate_default_eq ..

theorem ofPages_dir_length (pages : Nat) : (Store.ofPages pages).dir.length = 256 := List.length_replicate

namespace Store.Matched

variable {d x : Store}

theorem of_ofPages (pages : Nat) : (Store.ofPages pages).Matched := by
  refine ⟨ofPages_dir_length pages, Nat.zero_le 4, List.nodup_nil, fun c => ?_,
    fun l mem => absurd mem List.not_mem_nil⟩
  rw [ofPages_clip]
  exact iff_of_false (by decide) fun ⟨_, mem, _⟩ => List.not_mem_nil mem

/-- Where a load context is free, or is the clip's own, there is room once the clip's own is given up. -/
theorem freed_room (matched : d.Matched) {c : Nat} (room : d.loads.length < 4 ∨ ∃ k ∈ d.loads, k.clip = c) :
    (d.freed c).loads.length < 4 := by
  have few := matched.few
  show ((d.emptyClip c).loads.filter _).length < 4
  rw [emptyClip_loads]
  rcases room with below | ⟨k, mem, clip⟩
  · exact Nat.lt_of_le_of_lt (List.length_filter_le _ _) below
  · refine Nat.lt_of_lt_of_le (List.length_filter_lt_length_iff_exists.mpr ⟨k, mem, ?_⟩) few
    rw [decide_eq_true_eq]
    exact not_not_intro clip

theorem not_mem_freed {c : Nat} {l : LoadContext} (mem : l ∈ (d.freed c).loads) : l.clip ≠ c :=
  of_decide_eq_true (List.mem_filter.mp mem).2

theorem of_change (change : StoreChange d x) (matched : d.Matched) : x.Matched := by
  cases change with
  | same h => exact matched.of_sameClips h
  | freed c h => exact h ▸ matched.freed c
  | emptied c before h => exact h ▸ matched.emptied before
  | opened c p first rest e l number room pages entry context h =>
    exact h ▸ (matched.freed c).of_opened number (fun _ => not_mem_freed) (matched.freed_room room) entry.1 context.1
      context.2
  | marked k l loading named h => exact matched.of_sameClips (h ▸ matched.marked_sameClips loading named)
  | completed c loading h => exact h ▸ matched.completed (by decide)
  | restarted h => exact h ▸ matched.soft
  | fresh pages h => exact h ▸ of_ofPages pages

theorem of_changes (changes : Relation.ReflTransGen StoreChange d x) (matched : d.Matched) : x.Matched := by
  induction changes with
  | refl => exact matched
  | tail _ change ih => exact ih.of_change change

end Store.Matched

/-! ## The transfer of the site -/

namespace Site.Matched

variable {s x : Site}

theorem of_sameSite (matched : s.Matched) (same : SameSite s x) : x.Matched := by
  refine ⟨same.clips.dir_length.trans matched.dir, fun c => ?_⟩
  rw [same.clips.clip_state, same.state, same.clip]
  exact matched.loading c

/-- No transfer is RECEIVING, and no clip is LOADING. -/
theorem of_idle (dir : x.store.dir.length = 256) (transfer : x.transfer.state ≠ .receiving)
    (idle : ∀ c, (x.store.clip c).state ≠ .loading) : x.Matched :=
  ⟨dir, fun c => iff_of_false (idle c) fun both => transfer both.1⟩

/-- The clip of the transfer emptied: no clip is LOADING. -/
theorem emptied_idle (matched : s.Matched) (c : Nat) :
    ((s.store.emptyClip s.transfer.clip).clip c).state ≠ .loading := by
  rw [(emptyClip_clip _ _ _).1]
  split
  · decide
  · next other => exact fun loading => other ((matched.loading c).mp loading).2.symm

theorem abandoned_dir (matched : s.Matched) : s.abandoned.store.dir.length = 256 := by
  unfold Site.abandoned
  split
  · exact (emptyClip_dir_length _ _).trans matched.dir
  · exact matched.dir

theorem abandoned_idle (matched : s.Matched) (c : Nat) : (s.abandoned.store.clip c).state ≠ .loading := by
  unfold Site.abandoned
  split
  · exact matched.emptied_idle c
  · next other => exact fun loading => other ((matched.loading c).mp loading).1

theorem emptyClip_idle {d : Store} (idle : ∀ c, (d.clip c).state ≠ .loading) (k c : Nat) :
    ((d.emptyClip k).clip c).state ≠ .loading := by
  rw [(emptyClip_clip _ _ _).1]
  split
  · decide
  · exact idle c

theorem of_openLoad (matched : s.Matched) {o : OpenFields} (number : o.clip < 256) : (s.openLoad o).Matched := by
  have dir := matched.abandoned_dir
  have idle := matched.abandoned_idle
  have emptied : (s.abandoned.store.emptyClip o.clip).dir.length = 256 := (emptyClip_dir_length _ _).trans dir
  by_cases good : (o.channels = 1 ∨ o.channels = 2) ∧ o.length ≠ 0
  swap
  · rw [openLoad_badForm good]
    exact of_idle dir (by decide : SiteTransferState.fault ≠ .receiving) idle
  by_cases used : 0 < (s.abandoned.store.clip o.clip).useCount
  · rw [openLoad_inUse good used]
    exact of_idle dir (by decide : SiteTransferState.refused ≠ .receiving) idle
  have free := Nat.eq_zero_of_not_pos used
  cases pages : allocate (pagesNeeded o.channels o.length) (s.abandoned.store.emptyClip o.clip).free with
  | none =>
    rw [openLoad_noSpace good free pages]
    exact of_idle emptied (by decide : SiteTransferState.fault ≠ .receiving) (emptyClip_idle idle _)
  | some found =>
    rw [openLoad_receives good free pages]
    refine ⟨List.length_set.trans emptied, fun c => ?_⟩
    refine Iff.trans (?_ : _ ↔ o.clip = c) ⟨fun clip => ⟨rfl, clip⟩, fun both => both.2⟩
    have entry (e : ClipEntry) : ({ (s.abandoned.store.emptyClip o.clip).setClip o.clip e with
        free := found.2 } : Store).clip c = if c = o.clip ∧ o.clip < (s.abandoned.store.emptyClip o.clip).dir.length
          then e else (s.abandoned.store.emptyClip o.clip).clip c := clip_setClip _ _ _ e
    rw [entry, emptied]
    split
    · next own => exact iff_of_true rfl own.1.symm
    · next other => exact iff_of_false (emptyClip_idle idle _ c) fun own => other ⟨own.symm, number⟩

theorem of_completed (matched : s.Matched) :
    Site.Matched { s with
      store := s.store.setClip s.transfer.clip { s.store.clip s.transfer.clip with state := .ready },
      transfer := { s.transfer with state := .done } } := by
  refine of_idle (List.length_set.trans matched.dir) (by decide : SiteTransferState.done ≠ .receiving) fun c => ?_
  rw [clip_setClip]
  split
  · exact (by decide : ClipState.ready ≠ .loading)
  · next other =>
    intro loading
    have own := ((matched.loading c).mp loading).2.symm
    exact other ⟨own, own ▸ clip_in (by rw [loading]; decide)⟩

theorem of_change (change : SiteChange s x) (matched : s.Matched) : x.Matched := by
  cases change with
  | same h => exact matched.of_sameSite h
  | opened o number h => exact h ▸ matched.of_openLoad number
  | failed _ h =>
    rw [h]
    exact of_idle ((emptyClip_dir_length _ _).trans matched.dir) (by decide : SiteTransferState.fault ≠ .receiving)
      matched.emptied_idle
  | completed _ h => exact h ▸ matched.of_completed
  | fresh pages h =>
    rw [h]
    refine of_idle (ofPages_dir_length pages) (by decide : SiteTransferState.none ≠ .receiving) fun c => ?_
    rw [ofPages_clip]
    decide

theorem of_changes (changes : Relation.ReflTransGen SiteChange s x) (matched : s.Matched) : x.Matched := by
  induction changes with
  | refl => exact matched
  | tail _ change ih => exact ih.of_change change

end Site.Matched

/-- Settles O23: every step changes the clip stores by the changes of `StoreChange` and `SiteChange`, and each keeps
the loads matched. -/
theorem loadsStayMatched : Obligations.LoadsStayMatched := by
  intro s t matched run
  obtain ⟨store, site⟩ := (loadsMatchClips_iff s).mp matched
  have reached := step_reaches run
  exact (loadsMatchClips_iff t).mpr ⟨store.of_changes reached.store, site.of_changes reached.site⟩

end Sys2Proof.Machine
end

section
/-! PROOFS. The free extents and the pages of the clips cover the sample memory once, whatever changes the clip stores
(R67 to R69). -/

namespace Sys2Proof.Machine

/-- A page of a clip that is not EMPTY. -/
abbrev ClipEntry.Holds (e : ClipEntry) (page : Nat) : Prop :=
  e.state ≠ .empty ∧ e.firstPage ≤ page ∧ page < e.firstPage + e.pageCount

/-- How many clips hold a page. -/
def storedCount (page : Nat) (dir : List ClipEntry) : Nat := dir.countP (fun e => decide (e.Holds page))

theorem covered_iff (d : Store) :
    d.Covered ↔ ExtentsOrdered d.free ∧ (∀ e ∈ d.free, 0 < e.count) ∧
      ∀ page, coverCount page d.free + storedCount page d.dir = if page < d.pages then 1 else 0 := Iff.rfl

section
variable {page : Nat}

/-- What the pages of a clip are is read of its state, its first page and its count of pages. -/
theorem storedCount_map {f : ClipEntry → ClipEntry} (h : ∀ e, (f e).Holds page ↔ e.Holds page) (dir : List ClipEntry) :
    storedCount page (dir.map f) = storedCount page dir := by
  unfold storedCount
  rw [List.countP_map]
  exact List.countP_congr fun e _ => by simp only [Function.comp_apply, decide_eq_true_eq, h]

theorem storedCount_of_sameClips {d x : Store} (same : SameClips d x) :
    storedCount page x.dir = storedCount page d.dir :=
  calc storedCount page x.dir = storedCount page (x.dir.map ClipEntry.held) :=
      (storedCount_map (f := ClipEntry.held) (fun _ => Iff.rfl) _).symm
    _ = storedCount page (d.dir.map ClipEntry.held) := by rw [same.dir]
    _ = storedCount page d.dir := storedCount_map (f := ClipEntry.held) (fun _ => Iff.rfl) _

/-- A directory entry replaced: its pages are held once less, and those of the new entry once more. -/
theorem storedCount_set {d : Store} {c : Nat} (inside : c < d.dir.length) (e : ClipEntry) :
    storedCount page (d.dir.set c e) + (if (d.clip c).Holds page then 1 else 0) =
      storedCount page d.dir + if e.Holds page then 1 else 0 := by
  have own : d.clip c = d.dir[c] := List.getD_eq_getElem _ _ inside
  have most : (if (d.clip c).Holds page then 1 else 0) ≤ storedCount page d.dir := by
    have := List.boole_getElem_le_countP (p := fun e : ClipEntry => decide (e.Holds page)) inside
    simpa only [own, decide_eq_true_eq, storedCount] using this
  unfold storedCount at most ⊢
  rw [List.countP_set inside]
  simp only [← own, decide_eq_true_eq]
  omega

theorem storedCount_pos {d : Store} {c : Nat} (holds : (d.clip c).Holds page) : 0 < storedCount page d.dir := by
  have inside : c < d.dir.length := clip_in holds.1
  refine List.countP_pos_iff.mpr ⟨d.clip c, ?_, decide_eq_true holds⟩
  rw [Store.clip, List.getD_eq_getElem _ _ inside]
  exact List.getElem_mem inside

theorem coverCount_pos {l : List Extent} {e : Extent} (mem : e ∈ l) (holds : e.Holds page) : 0 < coverCount page l :=
  List.countP_pos_iff.mpr ⟨e, mem, decide_eq_true holds⟩

end

namespace Store.Covered

variable {d x : Store}

theorem of_sameClips (covered : d.Covered) (same : SameClips d x) : x.Covered := by
  obtain ⟨ordered, counts, pages⟩ := (covered_iff d).mp covered
  refine (covered_iff x).mpr ⟨same.free ▸ ordered, same.free ▸ counts, fun page => ?_⟩
  rw [same.free, same.pages, storedCount_of_sameClips same]
  exact pages page

/-- The pages of a clip lie apart from every free extent. -/
theorem apart (covered : d.Covered) {c : Nat} (stored : (d.clip c).state ≠ .empty) (some : (d.clip c).pageCount ≠ 0) :
    ∀ e ∈ d.free, (d.clip c).firstPage + (d.clip c).pageCount ≤ e.first ∨ e.first + e.count ≤ (d.clip c).firstPage := by
  obtain ⟨-, counts, pages⟩ := (covered_iff d).mp covered
  intro e mem
  refine Decidable.byContradiction fun overlap => ?_
  have := counts e mem
  have once := pages (max e.first (d.clip c).firstPage)
  have free := coverCount_pos (page := max e.first (d.clip c).firstPage) mem (by unfold Extent.Holds; omega)
  have held := storedCount_pos (page := max e.first (d.clip c).firstPage) (c := c) ⟨stored, by omega, by omega⟩
  split at once <;> omega

/-- The pages of an extent and of a clip whose change leaves the sum of the two as it was. -/
theorem of_counts (covered : d.Covered) {free : List Extent} (ordered : ExtentsOrdered free)
    (counts : ∀ e ∈ free, 0 < e.count) (own : x.free = free) (pages : x.pages = d.pages)
    (sum : ∀ page, coverCount page free + storedCount page x.dir = coverCount page d.free + storedCount page d.dir) :
    x.Covered := by
  refine (covered_iff x).mpr ⟨own ▸ ordered, own ▸ counts, fun page => ?_⟩
  rw [own, pages, sum]
  exact ((covered_iff d).mp covered).2.2 page

theorem emptyClip (covered : d.Covered) (c : Nat) : (d.emptyClip c).Covered := by
  by_cases empty : (d.clip c).state = .empty
  · rw [emptyClip_of_empty empty]
    exact covered
  obtain ⟨ordered, counts, -⟩ := (covered_iff d).mp covered
  have inside := clip_in empty
  have dir (page : Nat) : storedCount page (d.dir.set c (d.clip c).toEmpty) +
      (if (d.clip c).Holds page then 1 else 0) = storedCount page d.dir := by
    rw [storedCount_set inside, if_neg fun holds : (d.clip c).toEmpty.Holds page => holds.1 rfl, Nat.add_zero]
  unfold Store.emptyClip
  rw [if_neg empty]
  by_cases none : (d.clip c).pageCount = 0
  · refine covered.of_counts ordered counts (if_pos none) rfl fun page => ?_
    have own := dir page
    rw [if_neg fun holds : (d.clip c).Holds page => by obtain ⟨_, _, _⟩ := holds; omega] at own
    exact congrArg _ own
  · refine covered.of_counts
      (freeExtent_ordered _ _ ordered (Nat.pos_of_ne_zero none) counts (covered.apart empty none))
      (freeExtent_count _ _ (Nat.pos_of_ne_zero none) counts) (if_neg none) rfl fun page => ?_
    have own := dir page
    rw [coverCount_freeExtent, ← own, Nat.add_assoc, Nat.add_comm (storedCount page _)]
    simp only [ClipEntry.Holds, Extent.Holds, ne_eq, empty, not_false_eq_true, true_and]
    rfl

theorem freed (covered : d.Covered) (c : Nat) : (d.freed c).Covered := covered.emptyClip c

/-- First fit gives pages to an EMPTY clip. -/
theorem allocated (covered : d.Covered) {c p first : Nat} {rest : List Extent} {e : ClipEntry}
    (number : c < d.dir.length) (empty : (d.clip c).state = .empty) (pages : allocate p d.free = some (first, rest))
    (state : e.state ≠ .empty) (place : e.firstPage = first) (count : e.pageCount = p) :
    Store.Covered { d.setClip c e with free := rest } := by
  obtain ⟨ordered, counts, -⟩ := (covered_iff d).mp covered
  refine covered.of_counts (allocate_ordered ordered pages) (allocate_count counts pages) rfl rfl fun page => ?_
  have dir := storedCount_set (page := page) number e
  have free := coverCount_allocate pages page
  rw [if_neg fun holds : (d.clip c).Holds page => holds.1 empty] at dir
  simp only [ClipEntry.Holds, state, ne_eq, not_false_eq_true, true_and, place, count] at dir
  show coverCount page rest + storedCount page (d.dir.set c e) = _
  omega

/-- The loads hold no pages. -/
theorem of_loads (covered : d.Covered) (loads : List LoadContext) : Store.Covered { d with loads := loads } := covered

/-- A clip that is not EMPTY takes another state that is not EMPTY. -/
theorem setState (covered : d.Covered) {c : Nat} {s : ClipState} (stored : (d.clip c).state ≠ .empty)
    (state : s ≠ .empty) : (d.setClip c { d.clip c with state := s }).Covered := by
  obtain ⟨ordered, counts, -⟩ := (covered_iff d).mp covered
  refine covered.of_counts ordered counts rfl rfl fun page => congrArg _ ?_
  have dir := storedCount_set (page := page) (clip_in stored) { d.clip c with state := s }
  simp only [ClipEntry.Holds, stored, state, ne_eq, not_false_eq_true, true_and] at dir
  exact Nat.add_right_cancel dir

theorem endLoads (covered : d.Covered) (ls : List LoadContext) : (d.endLoads ls).Covered := by
  induction ls generalizing d with
  | nil => exact covered
  | cons l ls ih => exact ih (covered.emptyClip l.clip)

theorem soft (covered : d.Covered) : d.soft.Covered := by
  have ended := covered.endLoads d.loads
  obtain ⟨ordered, counts, -⟩ := (covered_iff _).mp ended
  refine ended.of_counts ordered counts rfl rfl fun page => congrArg _ ?_
  rw [Store.soft_dir]
  exact storedCount_map (f := fun e => { e with useCount := 0 }) (fun _ => Iff.rfl) _

theorem of_ofPages (pages : Nat) : (Store.ofPages pages).Covered := by
  have dir (page : Nat) : storedCount page (Store.ofPages pages).dir = 0 := by
    refine List.countP_eq_zero.mpr fun e mem => ?_
    rw [List.eq_of_mem_replicate mem, decide_eq_true_eq]
    exact fun holds => holds.1 rfl
  have free : (Store.ofPages pages).free = if pages = 0 then [] else [{ first := 0, count := pages }] := rfl
  rw [covered_iff, free]
  by_cases none : pages = 0
  · rw [if_pos none]
    refine ⟨.nil, fun _ mem => absurd mem List.not_mem_nil, fun page => ?_⟩
    rw [dir, coverCount_nil]
    exact (if_neg (none ▸ Nat.not_lt_zero page)).symm
  · rw [if_neg none]
    refine ⟨List.pairwise_singleton _ _, fun e mem => ?_, fun page => ?_⟩
    · rw [List.mem_singleton.mp mem]
      exact Nat.pos_of_ne_zero none
    · rw [dir, coverCount_cons, coverCount_nil]
      simp only [Extent.Holds, Nat.zero_le, true_and, Nat.zero_add, Nat.add_zero]
      rfl

/-- The clip of a load is not EMPTY: the loads are matched. -/
theorem of_change (change : StoreChange d x) (matched : d.Matched) (covered : d.Covered) : x.Covered := by
  cases change with
  | same h => exact covered.of_sameClips h
  | freed c h => exact h ▸ covered.freed c
  | emptied c _ h => exact h ▸ covered.emptyClip c
  | opened c p first rest e l number room pages entry context h =>
    obtain ⟨state, place, count⟩ := entry
    have empty : ((d.freed c).clip c).state = .empty := (emptyClip_clip d c c).1.trans (if_pos rfl)
    have inside : c < (d.freed c).dir.length := (matched.freed c).dir ▸ number
    exact h ▸ ((covered.freed c).allocated inside empty pages (by rw [state]; decide) place count).of_loads _
  | marked k l loading named h => exact covered.of_sameClips (h ▸ matched.marked_sameClips loading named)
  | completed c loading h =>
    exact h ▸ (covered.setState (by rw [(matched.loading c).mpr loading]; decide) (by decide)).of_loads _
  | restarted h => exact h ▸ covered.soft
  | fresh pages h => exact h ▸ of_ofPages pages

theorem of_changes (changes : Relation.ReflTransGen StoreChange d x) (matched : d.Matched) (covered : d.Covered) :
    x.Covered := by
  induction changes with
  | refl => exact covered
  | tail before change ih => exact ih.of_change change (matched.of_changes before)

end Store.Covered

/-! ## The clip store of the site -/

section
variable {s x : Site}

theorem covered_abandoned (covered : s.store.Covered) : s.abandoned.store.Covered := by
  unfold Site.abandoned
  split
  · exact covered.emptyClip _
  · exact covered

theorem covered_openLoad (matched : s.Matched) (covered : s.store.Covered) {o : OpenFields} (number : o.clip < 256) :
    (s.openLoad o).store.Covered := by
  have abandoned := covered_abandoned covered
  by_cases good : (o.channels = 1 ∨ o.channels = 2) ∧ o.length ≠ 0
  swap
  · rw [openLoad_badForm good]
    exact abandoned
  by_cases used : 0 < (s.abandoned.store.clip o.clip).useCount
  · rw [openLoad_inUse good used]
    exact abandoned
  have free := Nat.eq_zero_of_not_pos used
  have emptied := abandoned.emptyClip o.clip
  cases pages : allocate (pagesNeeded o.channels o.length) (s.abandoned.store.emptyClip o.clip).free with
  | none =>
    rw [openLoad_noSpace good free pages]
    exact emptied
  | some found =>
    rw [openLoad_receives good free pages]
    have inside : o.clip < (s.abandoned.store.emptyClip o.clip).dir.length := by
      rw [emptyClip_dir_length, matched.abandoned_dir]
      exact number
    exact emptied.allocated inside ((emptyClip_clip _ _ _).1.trans (if_pos rfl)) pages
      (by decide : ClipState.loading ≠ .empty) rfl rfl

theorem covered_siteChange (change : SiteChange s x) (matched : s.Matched) (covered : s.store.Covered) :
    x.store.Covered := by
  cases change with
  | same h => exact covered.of_sameClips h.clips
  | opened o number h => exact h ▸ covered_openLoad matched covered number
  | failed _ h => exact h ▸ covered.emptyClip _
  | completed receiving h =>
    have loading := (matched.loading s.transfer.clip).mpr ⟨receiving, rfl⟩
    exact h ▸ covered.setState (by rw [loading]; decide) (by decide)
  | fresh pages h => exact h ▸ Store.Covered.of_ofPages pages

theorem covered_siteChanges (changes : Relation.ReflTransGen SiteChange s x) (matched : s.Matched)
    (covered : s.store.Covered) : x.store.Covered := by
  induction changes with
  | refl => exact covered
  | tail before change ih => exact covered_siteChange change (matched.of_changes before) ih

end

/-- Settles O27: every step changes the clip stores by the changes of `StoreChange` and `SiteChange`, and each keeps
every page covered once where the loads are matched. -/
theorem pagesStayCoveredOnce : Obligations.PagesStayCoveredOnce := by
  intro s t matched covered run
  obtain ⟨store, site⟩ := (loadsMatchClips_iff s).mp matched
  obtain ⟨own, sites⟩ := covered
  have reached := step_reaches run
  exact ⟨own.of_changes reached.store store, covered_siteChanges reached.site site sites⟩

end Sys2Proof.Machine
end

section
/-! PROOFS. CLIP_OPEN and CLIP_DELETE (R69 to R71, R78). -/

namespace Sys2Proof.Machine

/-- The count of pages of the largest free extent is the greatest of the counts. -/
theorem largestExtent_count (l : List Extent) :
    (largestExtent l).elim 0 Extent.count = (l.map Extent.count).foldl max 0 := by
  rw [List.foldl_eq_foldr]
  induction l with
  | nil => rfl
  | cons x xs ih =>
    rw [List.map_cons, List.foldr_cons, ← ih, largestExtent]
    cases largestExtent xs with
    | none => exact (Nat.max_zero x.count).symm
    | some y =>
      dsimp only
      split <;> simp only [Option.elim_some] <;> omega

section
variable {d : Store} {opener : Nat} {tag : Byte} {o : OpenArgs}

theorem OpenArgs.good_iff (o : OpenArgs) :
    o.good = true ↔ (o.channels = 1 ∨ o.channels = 2) ∧ 1 ≤ o.length ∧ o.length ≤ 16777215 := by
  simp only [OpenArgs.good, Bool.and_eq_true, Bool.or_eq_true, decide_eq_true_eq, and_assoc, Nat.lt_succ_iff]

theorem loadOf_isNone (d : Store) (c : Nat) : (d.loadOf c).isNone = true ↔ ∀ l ∈ d.loads, l.clip ≠ c := by
  simp only [Store.loadOf, Option.isNone_iff_eq_none, List.find?_eq_none, decide_eq_true_eq]

/-- A load given up by an OPEN is counted. -/
def Store.countsLost (d : Store) (c : Nat) (k : StoreCounters) : StoreCounters :=
  if (d.clip c).state = .loading then { k with abandoned := satInc k.abandoned } else k

theorem openClip_badField (bad : ¬ o.good = true) : d.openClip opener tag o = (.badField, .none, d) := by
  rw [Store.openClip, if_pos (by rw [Bool.not_eq_true] at bad; rw [bad]; rfl)]

variable (good : o.good = true)
include good

theorem openClip_inUse (used : 0 < (d.clip o.clip).useCount) : d.openClip opener tag o = (.inUse, .none, d) := by
  simp only [Store.openClip, good, Bool.not_true, Bool.false_eq_true, if_false, used, if_true]

variable (free : (d.clip o.clip).useCount = 0)
include free

theorem openClip_busy (full : 4 ≤ d.loads.length ∧ ∀ l ∈ d.loads, l.clip ≠ o.clip) :
    d.openClip opener tag o = (.busy, .none, d) := by
  rw [← loadOf_isNone] at full
  simp only [Store.openClip, good, Bool.not_true, Bool.false_eq_true, if_false, free, Nat.lt_irrefl]
  exact if_pos full

variable (room : ¬ (4 ≤ d.loads.length ∧ ∀ l ∈ d.loads, l.clip ≠ o.clip))
include room

theorem openClip_noSpace (none_ : allocate (pagesNeeded o.channels o.length) (d.freed o.clip).free = none) :
    d.openClip opener tag o =
      (.noSpace,
        .noSpace (pagesNeeded o.channels o.length) (((d.freed o.clip).free.map Extent.count).foldl max 0),
        { d.freed o.clip with
          counters :=
            d.countsLost o.clip
              { (d.freed o.clip).counters with noSpace := satInc (d.freed o.clip).counters.noSpace } }) := by
  rw [← largestExtent_count]
  rw [← loadOf_isNone] at room
  unfold Store.freed at none_ ⊢
  simp only [Store.openClip, good, Bool.not_true, Bool.false_eq_true, if_false, free, Nat.lt_irrefl, room, none_,
    Store.countsLost, decide_eq_true_eq]
  cases largestExtent _ <;> rfl

theorem openClip_opened {first : Nat} {rest : List Extent}
    (found : allocate (pagesNeeded o.channels o.length) (d.freed o.clip).free = some (first, rest)) :
    d.openClip opener tag o =
      (.ok, .opened o.clip (((d.clip o.clip).serial + 1) % 256),
        { d.freed o.clip with
          dir :=
            (d.freed o.clip).dir.set o.clip
              ((d.clip o.clip).opened o first (pagesNeeded o.channels o.length)),
          free := rest,
          loads :=
            (d.freed o.clip).loads ++
              [{ clip := o.clip, opener := opener, tag := tag, serial := ((d.clip o.clip).serial + 1) % 256,
                 crc := crcInit, idleAge := 0 }],
          counters := d.countsLost o.clip (d.freed o.clip).counters }) := by
  rw [← loadOf_isNone] at room
  unfold Store.freed at found ⊢
  simp only [Store.openClip, good, Bool.not_true, Bool.false_eq_true, if_false, free, Nat.lt_irrefl, room, found,
    Store.countsLost, decide_eq_true_eq]
  rfl

end

section
variable {d : Store} {c : Nat}

theorem deleteClip_notFound (empty : (d.clip c).state = .empty) : d.deleteClip c = (.notFound, d) := by
  simp only [Store.deleteClip, empty]

theorem deleteClip_inUse (stored : (d.clip c).state ≠ .empty) (used : 0 < (d.clip c).useCount) :
    d.deleteClip c = (.inUse, d) := by
  cases state : (d.clip c).state with
  | empty => exact absurd state stored
  | loading => simp only [Store.deleteClip, state, used, if_true]
  | ready => simp only [Store.deleteClip, state, used, if_true]

variable (free : (d.clip c).useCount = 0)
include free

theorem deleteClip_ready (ready : (d.clip c).state = .ready) : d.deleteClip c = (.ok, d.emptyClip c) := by
  simp only [Store.deleteClip, ready, free, Nat.lt_irrefl, if_false]

theorem deleteClip_loading (loading : (d.clip c).state = .loading) :
    d.deleteClip c =
      (.ok,
        { d.freed c with
          counters :=
            { (d.freed c).counters with abandoned := satInc (d.freed c).counters.abandoned } }) := by
  simp only [Store.deleteClip, loading, free, Nat.lt_irrefl, if_false]
  rfl

end

/-- Settles O26: the five outcomes of CLIP_OPEN and the four of CLIP_DELETE. -/
theorem clipOpenAndDeleteDecided : Obligations.ClipOpenAndDeleteDecided := by
  refine ⟨fun s src dst tag a asked studio args => ?_, fun s src dst tag a asked studio args => ?_⟩
  · rw [← heard_store s.node]
    intro clip channels length st e gives good full pages freed lost
    let o := openArgs a
    have given {r : Result} {d : ResultData} {x : Store} (h : st.openClip src tag o = (r, d, x)) : gives r d x :=
      exec_owner (c := .clipOpen src dst tag a) rfl (by decide) asked studio args
        (congrArg (fun r : Result × ResultData × Store =>
          ({ result := r.1, data := r.2.1, node := { s.node.heard with store := r.2.2 } } : Reply)) h)
    have isGood : o.good = true ↔ good := o.good_iff
    have count : pagesNeeded o.channels o.length = pages := by
      rw [pagesNeeded_eq, Nat.mul_comm]
      rfl
    refine ⟨fun bad => given (openClip_badField (mt isGood.mp bad)),
      fun ok used => given (openClip_inUse (isGood.mpr ok) used),
      fun ok free full => given (openClip_busy (isGood.mpr ok) free full), fun ok free room small => ?_,
      fun ok free room before x after split small fits => ?_⟩
    · have none_ := allocate_none small
      rw [← count] at none_ ⊢
      exact given (openClip_noSpace (isGood.mpr ok) free room none_)
    · intro serial
      have found : allocate pages freed.free = some (x.first, before ++ x.cut pages after) := by
        rw [split]
        exact allocate_fits small fits
      rw [← count] at found ⊢
      exact given (openClip_opened (isGood.mpr ok) free room found)
  · rw [← heard_store s.node]
    intro clip st e gives
    have given {r : Result} {x : Store} (h : st.deleteClip clip = (r, x)) : gives r x :=
      exec_owner (c := .clipDelete src dst tag a) rfl (by decide) asked studio args
        (congrArg (fun r : Result × Store =>
          ({ result := r.1, data := .none, node := { s.node.heard with store := r.2 } } : Reply)) h)
    exact ⟨fun empty => given (deleteClip_notFound empty), fun stored used => given (deleteClip_inUse stored used),
      fun ready free => given (deleteClip_ready free ready),
      fun loading free => given (deleteClip_loading free loading)⟩

end Sys2Proof.Machine
end

section
/-! PROOFS. CLIPSEG and the end of a load (R72 to R76). -/

namespace Sys2Proof.Machine

/-! ## A segment judged -/

/-- The form of a CLIPSEG (R72). -/
abbrev SegmentForm (p : List Byte) : Prop :=
  7 ≤ p.length ∧ 1 ≤ byteAt p 5 ∧ byteAt p 5 ≤ 128 ∧ byteAt p 6 ≤ 1

theorem clipWord_first (firstPage channels k : Nat) :
    clipWord firstPage channels k 0 = firstPage * 4096 + k * channels := Nat.add_zero _

/-- The part with the counters of its clip store replaced. -/
def Node.storeCounts (n : Node) (k : StoreCounters) : Node := { n with store := { n.store with counters := k } }

section
variable {p : List Byte} {n : Node}

theorem segmentForm_iff : SegmentForm p ↔ 7 ≤ p.length ∧ 1 ≤ byteAt p 5 ∧ byteAt p 5 ≤ 128 ∧ byteAt p 6 < 2 := by
  unfold SegmentForm
  rw [Nat.lt_succ_iff]

theorem clipSegment_badForm (bad : ¬ SegmentForm p) :
    clipSegment p n =
      (n.storeCounts { n.store.counters with malformed := satInc n.store.counters.malformed }, none) :=
  if_pos (mt segmentForm_iff.mpr bad)

section
variable (form : SegmentForm p)
include form

theorem clipSegment_stray
    (stray : (n.store.clip (byteAt p 0)).state ≠ .loading ∨ byteAt p 1 ≠ (n.store.clip (byteAt p 0)).serial ∨
      n.store.loadOf (byteAt p 0) = none) :
    clipSegment p n = (n.storeCounts { n.store.counters with stray := satInc n.store.counters.stray }, none) := by
  refine (if_neg (not_not_intro (segmentForm_iff.mp form))).trans ?_
  cases load : n.store.loadOf (byteAt p 0) with
  | none => rfl
  | some l =>
    refine if_pos fun ⟨loading, serial⟩ => ?_
    rcases stray with other | other | none_
    · exact other loading
    · exact other serial
    · exact Option.some_ne_none l (load.symm.trans none_)

variable {l : LoadContext} (loading : (n.store.clip (byteAt p 0)).state = .loading)
  (serial : byteAt p 1 = (n.store.clip (byteAt p 0)).serial) (load : n.store.loadOf (byteAt p 0) = some l)
include loading serial load

theorem clipSegment_badLength
    (bad : p.length ≠ 7 + byteAt p 5 * (n.store.clip (byteAt p 0)).channels * 3) :
    clipSegment p n =
      (n.storeCounts { n.store.counters with malformed := satInc n.store.counters.malformed }, none) := by
  refine (if_neg (not_not_intro (segmentForm_iff.mp form))).trans ?_
  rw [load]
  exact (if_neg (not_not_intro ⟨loading, serial⟩)).trans (if_pos bad)

/-- A segment that reaches its load makes the load young, and is judged by its offset. -/
theorem clipSegment_judged
    (length : p.length = 7 + byteAt p 5 * (n.store.clip (byteAt p 0)).channels * 3) :
    clipSegment p n =
      judgeSegment { l with idleAge := 0 } p
        { n with store := n.store.mapLoad (byteAt p 0) (fun _ => { l with idleAge := 0 }) } := by
  refine (if_neg (not_not_intro (segmentForm_iff.mp form))).trans ?_
  rw [load]
  exact (if_neg (not_not_intro ⟨loading, serial⟩)).trans (if_neg (not_not_intro length))

end

section
variable {l : LoadContext} {e : ClipEntry} (entry : n.store.clip l.clip = e)
include entry

theorem judgeSegment_duplicate (old : fieldAt p 2 3 < e.received) :
    judgeSegment l p n =
      (n.storeCounts { n.store.counters with duplicate := satInc n.store.counters.duplicate }, none) :=
  if_pos (entry ▸ old)

theorem judgeSegment_gap (beyond : e.received < fieldAt p 2 3) : judgeSegment l p n = (failLoad l .gap n, none) := by
  subst entry
  exact (if_neg (Nat.lt_asymm beyond)).trans (if_pos beyond)

variable (next : fieldAt p 2 3 = e.received)
include next

theorem judgeSegment_overrun (beyondEnd : e.length < e.received + byteAt p 5) :
    judgeSegment l p n = (failLoad l .overrun n, none) := by
  subst entry
  exact (if_neg next.not_lt).trans ((if_neg next.not_gt).trans (if_pos beyondEnd))

/-- A segment in order is written, and LAST closes the load. -/
theorem judgeSegment_written {c : Nat} (own : l.clip = c) (last : byteAt p 6 ≤ 1)
    (fits : e.received + byteAt p 5 ≤ e.length) :
    let written : LoadContext := { l with crc := crcUpdate l.crc (p.drop 7) }
    let after : Node :=
      { n with
        store :=
          (n.store.setClip c { e with received := e.received + byteAt p 5 }).mapLoad c (fun _ => written) }
    judgeSegment l p n =
      (if byteAt p 6 = 1 then closeLoad written after else after,
        some
          { first := e.firstPage * 4096 + fieldAt p 2 3 * e.channels,
            words := (samplesOf (p.drop 7)).map (fun x => x.signExtend 32) }) := by
  intro written after
  have isLast : bitAt (byteAt p 6) 0 = decide (byteAt p 6 = 1) := by
    unfold bitAt
    rw [Nat.testBit_zero, Nat.mod_eq_of_lt (Nat.lt_succ_of_le last)]
  subst entry own
  refine (if_neg next.not_lt).trans ((if_neg next.not_gt).trans ((if_neg (Nat.not_lt.mpr fits)).trans ?_))
  simp only [isLast, decide_eq_true_eq, clipWord_first]
  rfl

end

end

/-! ## The row CLIPSEG -/

theorem exec_clipseg {src dst : Nat} {p : List Byte} {s : State} (reached : Reached src dst p.length s)
    (studio : s.node.cfg.roles.studio = true) {m : Node} {w : Option SegmentWrite}
    (judged : clipSegment p s.node.heard = (m, w)) :
    exec (.clipseg src dst p) s = .next (settle { s with mem := applySegment w s.mem, node := m }) := by
  have delivered : deliver 7 src dst p s.node.heard = (m, w) := by
    simp only [deliver, heard_cfg, studio, if_true, judged]
  refine congrArg Host.Outcome.next ((onPacket_reached reached rfl).trans ?_)
  rw [delivered]

/-! ## The end of a load -/

section
variable {l : LoadContext} {n : Node}

theorem closeLoad_completes (whole : (n.store.clip l.clip).received = (n.store.clip l.clip).length)
    (crc : ~~~l.crc = (n.store.clip l.clip).expectedCrc) : closeLoad l n = completeLoad l n :=
  (if_pos whole).trans (if_pos crc)

theorem closeLoad_crc (whole : (n.store.clip l.clip).received = (n.store.clip l.clip).length)
    (crc : ~~~l.crc ≠ (n.store.clip l.clip).expectedCrc) : closeLoad l n = failLoad l .crc n :=
  (if_pos whole).trans (if_neg crc)

theorem closeLoad_short (short : (n.store.clip l.clip).received ≠ (n.store.clip l.clip).length) :
    closeLoad l n = failLoad l .short n := if_neg short

end

theorem loadTimeout_due (n : Node) : stageDue .loadTimeout n = true ↔ ∃ l ∈ n.store.loads, 2000 ≤ l.idleAge := by
  simp only [stageDue, List.any_eq_true, LoadContext.expired, decide_eq_true_eq]

/-- Settles O28: the segments by form, load and offset, LOAD_TIMEOUT at its place, and the ends of a load. -/
theorem clipLoadGoesOn : Obligations.ClipLoadGoesOn := by
  refine ⟨fun s src dst p reached studio => ?_, fun s rest place due => ?_, fun l n => ?_⟩
  · rw [← heard_store s.node]
    intro clip st e off count result keep form
    have given {m : Node} {w : Option SegmentWrite} (h : clipSegment p s.node.heard = (m, w)) :=
      exec_clipseg reached studio h
    refine ⟨fun bad => given (clipSegment_badForm bad), fun good stray => given (clipSegment_stray good stray),
      fun l good loading serial load => ⟨fun bad => ?_, fun length => ?_⟩⟩
    · exact given (clipSegment_badLength good loading serial load bad)
    · intro young st1 n1
      have judged := clipSegment_judged good loading serial load length
      have own : young.clip = clip := (loadOf_some load).2
      have entry : n1.store.clip young.clip = e := congrArg st.clip own
      have judged : clipSegment p s.node.heard = judgeSegment young p n1 := judged
      refine ⟨fun old => ?_, fun beyond => ?_, fun next beyondEnd => ?_, fun next fits => ?_⟩
      · exact given (judged.trans (judgeSegment_duplicate entry old))
      · exact given (judged.trans (judgeSegment_gap entry beyond))
      · exact given (judged.trans (judgeSegment_overrun entry next beyondEnd))
      · intro crc written st2 n2
        exact given (judged.trans (judgeSegment_written entry next own good.2.2.2 fits))
  · exact exec_atStage rfl place ((loadTimeout_due s.node).mpr due) rfl
  · exact ⟨closeLoad_completes, closeLoad_crc, fun short => closeLoad_short short.ne, rfl, fun _ => rfl⟩

end Sys2Proof.Machine
end

section
/-! PROOFS. The requests of a call but for CALL_TAKE (R131, R134, R140, R141). -/

namespace Sys2Proof.Machine

/-! ## The line that NEXT names (R131) -/

/-- For how many blocks a line has rung, by the phone unit's block count (log 19). -/
def Phone.rungFor (p : Phone) (i : Nat) : Nat := (p.blockCount - (p.line i).rangAt.getD 0).toNat

/-- A line has rung longer than another, or as long with a number that is not above the other's. -/
def Phone.RungBy (p : Phone) (j k : Nat) : Prop :=
  p.rungFor k < p.rungFor j ∨ (p.rungFor k = p.rungFor j ∧ j ≤ k)

/-- A line whose rang-at is set, no more than half the range of the block count ago. -/
def Phone.Timed (p : Phone) (i : Nat) : Prop := (p.line i).rangAt ≠ none ∧ p.rungFor i ≤ 2147483647

section
variable {p : Phone}

theorem rungBy_refl (j : Nat) : p.RungBy j j := .inr ⟨rfl, Nat.le_refl j⟩

theorem rungBy_trans {i j k : Nat} (h : p.RungBy i j) (h' : p.RungBy j k) : p.RungBy i k := by
  unfold Phone.RungBy at *
  omega

/-- Of two block counts passed within half the range, the earlier is the one passed longer ago. -/
theorem earlier_iff_longer {now a b : Count32} (ha : (now - a).toNat ≤ 2147483647)
    (hb : (now - b).toNat ≤ 2147483647) : earlier a b = true ↔ (now - b).toNat < (now - a).toNat := by
  unfold earlier
  simp only [Bool.and_eq_true, decide_eq_true_eq]
  bv_omega

theorem rangBefore_iff {i j : Nat} (hi : p.Timed i) (hj : p.Timed j) :
    p.rangBefore i j = true ↔ p.rungFor j < p.rungFor i := by
  obtain ⟨setI, lateI⟩ := hi
  obtain ⟨setJ, lateJ⟩ := hj
  obtain ⟨a, rangI⟩ := Option.ne_none_iff_exists'.mp setI
  obtain ⟨b, rangJ⟩ := Option.ne_none_iff_exists'.mp setJ
  unfold Phone.rungFor Phone.rangBefore at *
  rw [rangI] at lateI ⊢
  rw [rangJ] at lateJ ⊢
  exact earlier_iff_longer lateI lateJ

/-- Of lines in rising order, the choice made one after another is the one that has rung longest. -/
theorem rungFirst_longest {l : List Nat} {b j : Nat} (found : l.foldl p.rungFirst (some b) = some j)
    (rising : (b :: l).Pairwise (· < ·)) (timed : ∀ k ∈ b :: l, p.Timed k) : ∀ k ∈ b :: l, p.RungBy j k := by
  induction l generalizing b with
  | nil =>
    cases found
    intro k mem
    rw [List.mem_singleton.mp mem]
    exact rungBy_refl _
  | cons x l ih =>
    obtain ⟨aboveB, later⟩ := List.pairwise_cons.mp rising
    obtain ⟨timedB, timedX, timedL⟩ := List.forall_mem_cons.mp timed |>.imp id List.forall_mem_cons.mp
    have longer := rangBefore_iff timedX timedB
    have above : b < x := aboveB x List.mem_cons_self
    rw [List.foldl_cons, Phone.rungFirst] at found
    split at found
    · next first =>
      have best := ih found later (List.forall_mem_cons.mpr ⟨timedX, timedL⟩)
      refine List.forall_mem_cons.mpr ⟨rungBy_trans (best x List.mem_cons_self) (.inl (longer.mp first)), best⟩
    · next last =>
      have rest := List.pairwise_cons.mpr
        ⟨fun k mem => aboveB k (List.mem_cons_of_mem x mem), (List.pairwise_cons.mp later).2⟩
      have best := ih found rest (List.forall_mem_cons.mpr ⟨timedB, timedL⟩)
      obtain ⟨own, others⟩ := List.forall_mem_cons.mp best
      have overX : p.RungBy b x := by
        have := mt longer.mpr last
        unfold Phone.RungBy
        omega
      exact List.forall_mem_cons.mpr ⟨own, List.forall_mem_cons.mpr ⟨rungBy_trans own overX, others⟩⟩

theorem rungFirst_ne_none (l : List Nat) (b : Nat) : l.foldl p.rungFirst (some b) ≠ none := by
  induction l generalizing b with
  | nil => exact Option.some_ne_none b
  | cons x l ih =>
    rw [List.foldl_cons, Phone.rungFirst]
    split <;> exact ih _

theorem nextRinging_eq_none :
    p.nextRinging = none ↔ ∀ j, ¬ (1 ≤ j ∧ j ≤ 4 ∧ (p.line j).state = .ringing) := by
  simp only [← mem_ringing]
  rw [nextRinging_eq, ← List.eq_nil_iff_forall_not_mem]
  cases lineNumbers.filter (fun i => decide ((p.line i).state = .ringing)) with
  | nil => exact iff_of_true rfl rfl
  | cons b l => exact iff_of_false (rungFirst_ne_none l b) (List.cons_ne_nil b l)

theorem nextRinging_longest {j : Nat} (found : p.nextRinging = some j)
    (timed : ∀ k, 1 ≤ k ∧ k ≤ 4 ∧ (p.line k).state = .ringing → p.Timed k) :
    ∀ k, 1 ≤ k ∧ k ≤ 4 ∧ (p.line k).state = .ringing → p.RungBy j k := by
  simp only [← mem_ringing] at timed ⊢
  have rising : lineNumbers.Pairwise (· < ·) := by decide
  replace rising := rising.filter (fun i => decide ((p.line i).state = .ringing))
  rw [nextRinging_eq] at found
  cases ringing : lineNumbers.filter (fun i => decide ((p.line i).state = .ringing)) with
  | nil => exact fun k mem => absurd mem List.not_mem_nil
  | cons b l =>
    rw [ringing] at found rising timed
    exact rungFirst_longest found rising timed

end

/-! ## The decisions -/

section
variable {n : Node} {i : Nat}

theorem decideAnswer_beyond (beyond : 4 < i) : decideAnswer i n = .refuse .badField n := if_pos beyond

theorem decideAnswer_noneRings (none_ : n.phone.nextRinging = none) : decideAnswer 0 n = .refuse .notFound n := by
  simp only [decideAnswer, Nat.not_lt_zero, if_false, if_true, none_]

/-- What CALL_ANSWER decides for the line that its argument names. -/
def answerNamed (i : Nat) (n : Node) : Reply :=
  if (n.lineRec i).state = .ringing then
    .ok (.lineAnswered i) (answerLine i (fun c => { c with answers := satInc c.answers }) n)
  else .refuse .notReady n

theorem decideAnswer_next (next : n.phone.nextRinging = some i) : decideAnswer 0 n = answerNamed i n := by
  simp only [decideAnswer, Nat.not_lt_zero, if_false, if_true, next]
  rfl

theorem decideAnswer_line (line : 1 ≤ i ∧ i ≤ 4) : decideAnswer i n = answerNamed i n := by
  simp only [decideAnswer, if_neg (Nat.not_lt.mpr line.2), if_neg (Nat.ne_of_gt line.1)]
  rfl

theorem decideHold_beyond {who : Party} (beyond : 4 < i) : decideHold who i n = .refuse .badField n := if_pos beyond

section
variable {who : Party} (within : i ≤ 4)
include within

theorem decideHold_notReady (off : i = 0 ∨ (n.lineRec i).state ≠ .onAir) :
    decideHold who i n = .refuse .notReady n := (if_neg (Nat.not_lt.mpr within)).trans (if_pos off)

variable (line : 1 ≤ i) (onAir : (n.lineRec i).state = .onAir)
include line onAir

theorem decideHold_inUse (other : (n.lineRec i).studio ≠ some who) : decideHold who i n = .refuse .inUse n :=
  (if_neg (Nat.not_lt.mpr within)).trans
    ((if_neg (not_or.mpr ⟨Nat.ne_of_gt line, not_not_intro onAir⟩)).trans (if_pos other))

theorem decideHold_holds (own : (n.lineRec i).studio = some who) :
    decideHold who i n =
      .ok .none (mapPhoneCounters (fun c => { c with holds := satInc c.holds }) (returnHeld i n)) :=
  (if_neg (Nat.not_lt.mpr within)).trans
    ((if_neg (not_or.mpr ⟨Nat.ne_of_gt line, not_not_intro onAir⟩)).trans (if_neg (not_not_intro own)))

end

theorem decideDrop_beyond (beyond : 4 < i) : decideDrop i n = .refuse .badField n := if_pos beyond

section
variable (within : i ≤ 4)
include within

theorem decideDrop_notFound (off : i = 0 ∨ (n.lineRec i).state = .idle) :
    decideDrop i n = .refuse .notFound n := (if_neg (Nat.not_lt.mpr within)).trans (if_pos off)

theorem decideDrop_drops (line : 1 ≤ i) (busy : (n.lineRec i).state ≠ .idle) :
    decideDrop i n =
      .ok .none (mapPhoneCounters (fun c => { c with drops := satInc c.drops }) (clearLine i .dropped n)) :=
  (if_neg (Nat.not_lt.mpr within)).trans (if_neg (not_or.mpr ⟨Nat.ne_of_gt line, busy⟩))

end

end

/-- Settles O41: the line that NEXT names, and the outcomes of the four requests. -/
theorem callRequestsDecided : Obligations.CallRequestsDecided := by
  intro s src dst tag a asked phone
  rw [← heard_phone s.node]
  intro n p i l gives inc counted
  refine ⟨?_, fun args => ?_, fun args => ?_, fun args => ?_, fun args => ?_⟩
  · intro ringing age
    exact ⟨nextRinging_eq_none, fun j found => ⟨nextRinging_ringing found, nextRinging_longest found⟩⟩
  · intro answer takes
    have given {m : Reply} (h : decideAnswer i n = m) : answer m.result m.data m.node :=
      exec_owner (c := .callAnswer src dst tag a) rfl (by decide) asked phone args h
    have named {j : Nat} (h : decideAnswer i n = answerNamed j n) :
        ((p.line j).state = .ringing → takes j) ∧ ((p.line j).state ≠ .ringing → answer .notReady .none n) :=
      ⟨fun ringing => given (h.trans (if_pos ringing)), fun other => given (h.trans (if_neg other))⟩
    refine ⟨fun beyond => given (decideAnswer_beyond beyond), fun zero none_ => ?_, fun j zero next => ?_,
      fun first last => named (decideAnswer_line ⟨first, last⟩)⟩
    · exact given ((congrArg (decideAnswer · n) zero).trans (decideAnswer_noneRings none_))
    · exact named ((congrArg (decideAnswer · n) zero).trans (decideAnswer_next next))
  · intro screen len bad
    have given {m : Reply} (h : ownCallScreen a n = m) : exec (.callScreen src dst tag a) s =
        .next (answered src 12 tag m s) :=
      exec_owner (c := .callScreen src dst tag a) rfl (by decide) asked phone args h
    refine ⟨fun h => given (if_pos h), fun good off => given ((if_neg good).trans (if_pos off)),
      fun good idle ringing => given ((if_neg good).trans (if_neg (not_or.mpr ⟨idle, ringing⟩)))⟩
  · intro hold
    have given {m : Reply} (h : decideHold (.station src) i n = m) : exec (.callHold src dst tag a) s =
        .next (answered src 14 tag m s) :=
      exec_owner (c := .callHold src dst tag a) rfl (by decide) asked phone args h
    exact ⟨fun beyond => given (decideHold_beyond beyond),
      fun zero => given (decideHold_notReady (by omega) (.inl zero)),
      fun _ last off => given (decideHold_notReady last (.inr off)),
      fun first last onAir other => given (decideHold_inUse last first onAir other),
      fun first last onAir own => given (decideHold_holds last first onAir own)⟩
  · intro drop
    have given {m : Reply} (h : decideDrop i n = m) : exec (.callDrop src dst tag a) s =
        .next (answered src 15 tag m s) :=
      exec_owner (c := .callDrop src dst tag a) rfl (by decide) asked phone args h
    exact ⟨fun beyond => given (decideDrop_beyond beyond),
      fun zero => given (decideDrop_notFound (by omega) (.inl zero)),
      fun _ last idle => given (decideDrop_notFound last (.inr idle)),
      fun first last busy => given (decideDrop_drops last first busy)⟩

end Sys2Proof.Machine
end

section
/-! PROOFS. CALL_TAKE (R136, R137). -/

namespace Sys2Proof.Machine

theorem mem_lineNumbers {i : Nat} : i ∈ lineNumbers ↔ 1 ≤ i ∧ i ≤ 4 := by
  simp only [lineNumbers, List.mem_cons, List.not_mem_nil, or_false]
  omega

theorem any_lineNumbers {f : Nat → Bool} : lineNumbers.any f = true ↔ ∃ i, 1 ≤ i ∧ i ≤ 4 ∧ f i = true := by
  simp only [List.any_eq_true, mem_lineNumbers, and_assoc]

theorem addListen_phone (station index : Nat) (p : Purpose) (n : Node) :
    (addListen station index p n).2.phone = n.phone := by rw [addListen_frame]

/-! ## The line that a take names -/

section
variable {p : Phone} {i : Nat}

theorem nextCaller_screened (found : p.queue.find? (fun j => (p.line j).screened) = some i) :
    p.nextCaller = some i := by
  simp only [Phone.nextCaller, found]

theorem nextCaller_head (none_ : ∀ j ∈ p.queue, (p.line j).screened = false) : p.nextCaller = p.queue.head? := by
  have absent : p.queue.find? (fun j => (p.line j).screened) = none :=
    List.find?_eq_none.mpr fun j mem => Bool.eq_false_iff.mp (none_ j mem)
  simp only [Phone.nextCaller, absent]

theorem servedOn_iff {who : Party} {index : Nat} :
    p.servedOn i who index = true ↔
      (p.line i).state = .onAir ∧ (p.line i).studio = some who ∧ (p.line i).mmIndex = some index := by
  simp only [Phone.servedOn, Bool.and_eq_true, decide_eq_true_eq, and_assoc]

end

/-! ## The decisions -/

/-- A take refused, and counted. -/
def refusesTake (r : Result) (n : Node) : Reply :=
  .refuse r (mapPhoneCounters (fun c => { c with takesRefused := satInc c.takesRefused }) n)

section
variable {who : Party} {line index : Nat} {n : Node}

theorem decideTake_badField (bad : 4 < line ∨ (index ≠ 6 ∧ index ≠ 7)) :
    decideTake who line index n = refusesTake .badField n := if_pos bad

variable (good : ¬ (4 < line ∨ (index ≠ 6 ∧ index ≠ 7)))
include good

theorem decideTake_notFound (none_ : (if line = 0 then n.phone.nextCaller else some line) = none) :
    decideTake who line index n = refusesTake .notFound n := by
  refine (if_neg good).trans ?_
  rw [none_]
  rfl

theorem decideTake_named {i : Nat} (named : (if line = 0 then n.phone.nextCaller else some line) = some i) :
    decideTake who line index n = takeLine i who index n := by
  refine (if_neg good).trans ?_
  rw [named]

end

section
variable {who : Party} {i index : Nat} {n : Node}

section
variable (onAir : (n.phone.line i).state = .onAir)
include onAir

theorem takeLine_elsewhere (other : (n.phone.line i).studio ≠ some who) :
    takeLine i who index n = refusesTake .takenElsewhere n := (if_pos onAir).trans (if_pos other)

variable (own : (n.phone.line i).studio = some who)
include own

theorem takeLine_again (same : (n.phone.line i).mmIndex = some index) :
    takeLine i who index n = .ok (takenData i (n.phone.line i)) n :=
  (if_pos onAir).trans ((if_neg (not_not_intro own)).trans (if_pos same))

theorem takeLine_otherIndex (other : (n.phone.line i).mmIndex ≠ some index) :
    takeLine i who index n = refusesTake .inUse n :=
  (if_pos onAir).trans ((if_neg (not_not_intro own)).trans (if_neg other))

end

theorem takeLine_notReady (off : (n.phone.line i).state = .idle ∨ (n.phone.line i).state = .ringing) :
    takeLine i who index n = refusesTake .notReady n := by
  have notAir : (n.phone.line i).state ≠ .onAir := by
    intro onAir
    rw [onAir] at off
    rcases off with h | h <;> cases h
  exact (if_neg notAir).trans (if_pos off)

section
variable (waits : (n.phone.line i).state.queues)
include waits

theorem queues_ne_onAir : (n.phone.line i).state ≠ .onAir := by
  intro onAir
  rw [onAir] at waits
  rcases waits with h | h <;> cases h

theorem queues_not_off : ¬ ((n.phone.line i).state = .idle ∨ (n.phone.line i).state = .ringing) := by
  rintro (off | off) <;> rw [off] at waits <;> rcases waits with h | h <;> cases h

/-- The requester has another line on the air under the index (R136, check 8). -/
theorem takeLine_servedOther (served : ∃ j, 1 ≤ j ∧ j ≤ 4 ∧ j ≠ i ∧ n.phone.servedOn j who index = true) :
    takeLine i who index n = refusesTake .inUse n := by
  have any : lineNumbers.any (fun j => decide (j ≠ i) && n.phone.servedOn j who index) = true := by
    simpa only [any_lineNumbers, Bool.and_eq_true, decide_eq_true_eq] using served
  exact (if_neg (queues_ne_onAir waits)).trans ((if_neg (queues_not_off waits)).trans (if_pos any))

variable {k : Nat} (alone : ∀ j, 1 ≤ j → j ≤ 4 → j ≠ i → ¬ n.phone.servedOn j (.station k) index = true)
include alone

theorem takeLine_asks :
    takeLine i (.station k) index n =
      match addListen k index .mixminus n with
      | (.added e, m) => .ok (takenData i (n.phone.line i)) (makeTake i (.station k) index (some e) m)
      | (.refused _, m) => refusesTake .full m := by
  have none_ : ¬ lineNumbers.any (fun j => decide (j ≠ i) && n.phone.servedOn j (.station k) index) = true := by
    simp only [any_lineNumbers, Bool.and_eq_true, decide_eq_true_eq]
    exact fun ⟨j, first, last, other, served⟩ => alone j first last other served
  exact (if_neg (queues_ne_onAir waits)).trans ((if_neg (queues_not_off waits)).trans (if_neg none_))

theorem takeLine_full {why : AddFailure} (refused : n.streams.addOutcome k index = .refused why) :
    takeLine i (.station k) index n = refusesTake .full n := by
  rw [takeLine_asks waits alone, addListen_refused refused]

theorem takeLine_taken {e : Nat} (added : n.streams.addOutcome k index = .added e) :
    takeLine i (.station k) index n =
      .ok (takenData i (n.phone.line i))
        (makeTake i (.station k) index (some e) (addListen k index .mixminus n).2) := by
  rw [takeLine_asks waits alone, addListen_added added]

end

/-- The line of a take across the bus. -/
def LineRecord.taken (l : LineRecord) (k index e : Nat) : LineRecord :=
  { l with
    state := .onAir, studio := some (.station k), mmIndex := some index, mmEntry := some e,
    watch := some { age := 0, met := false }, holdLater := false }

/-- What a take across the bus makes of the part whose MIXMINUS entry has been added (R137). -/
theorem makeTake_across {p : Phone} {k e : Nat} {m : Node} (phone : m.phone = p) :
    makeTake i (.station k) index (some e) m =
      judgeHoldFeed
        (mapPhoneCounters (fun c => { c with takes := satInc c.takes })
          (startOut i 0
            { m with
              phone :=
                { p with
                  lines := p.lines.set (i - 1) ((p.line i).taken k index e),
                  queue := p.queue.filter (fun j => decide (j ≠ i)) } })) := by
  subst phone
  rfl

end

/-- Settles O42: the checks of CALL_TAKE one after another, and the take made. -/
theorem callTakeDecided : Obligations.CallTakeDecided := by
  intro s src dst tag a asked phone args
  rw [← heard_phone s.node, ← heard_streams s.node]
  intro n p line index inc gives refused who serves named
  have given {m : Reply} (h : decideTake who line index n = m) : gives m.result m.data m.node :=
    exec_owner (c := .callTake src dst tag a) rfl (by decide) asked phone args h
  have served (j : Nat) : p.servedOn j who index = true ↔ serves j := servedOn_iff
  refine ⟨fun bad => given (decideTake_badField bad), fun six zero empty => ?_, fun i six name => ?_⟩
  · have none_ : (if line = 0 then n.phone.nextCaller else some line) = none := by
      rw [if_pos zero, nextCaller_head (by rw [empty]; exact fun j mem => absurd mem List.not_mem_nil), empty]
      rfl
    exact given (decideTake_notFound (by omega) none_)
  · have isNamed : (if line = 0 then n.phone.nextCaller else some line) = some i := by
      rcases name with ⟨zero, screened | ⟨none_, head⟩⟩ | ⟨first, _, own⟩
      · rw [if_pos zero, nextCaller_screened screened]
      · rw [if_pos zero, nextCaller_head none_, head]
      · rw [if_neg (by omega), own]
    have within : line ≤ 4 := name.elim (fun h => by omega) (fun h => h.2.1)
    have good : ¬ (4 < line ∨ (index ≠ 6 ∧ index ≠ 7)) := by omega
    have judged {m : Reply} (h : takeLine i who index n = m) : gives m.result m.data m.node :=
      given ((decideTake_named good isNamed).trans h)
    intro l
    refine ⟨fun onAir other => judged (takeLine_elsewhere onAir other),
      fun ⟨onAir, own, same⟩ => judged (takeLine_again onAir own same),
      fun onAir own other => judged (takeLine_otherIndex onAir own other),
      fun off => judged (takeLine_notReady off), fun waits => ⟨fun other => ?_, fun alone => ?_⟩⟩
    · simp only [← served] at other
      exact judged (takeLine_servedOther waits other)
    · simp only [← served] at alone
      refine ⟨fun why full => judged (takeLine_full waits alone full), fun k added => ?_⟩
      intro m taken
      have made := judged (takeLine_taken waits alone added)
      rw [makeTake_across (addListen_phone src index .mixminus n)] at made
      exact made

end Sys2Proof.Machine
end

section
/-! PROOFS. What changes the lines of the phone unit (R130 to R135, R138, R139) and the caller channels (R145, R147). -/

namespace Sys2Proof.Machine

/-! ## The place in the caller queue (R133) -/

section
variable {p : Phone} {i : Nat}

/-- A line is put before the first line that it stands before. -/
theorem insert_split (p : Phone) (i : Nat) (q : List Nat) :
    ∃ pre post, q = pre ++ post ∧ (∀ j ∈ pre, ¬ p.before i j = true) ∧
      (∀ k, post.head? = some k → p.before i k = true) ∧ p.insert i q = pre ++ i :: post := by
  induction q with
  | nil => exact ⟨[], [], rfl, fun _ mem => absurd mem List.not_mem_nil, (fun _ h => by cases h), rfl⟩
  | cons x q ih =>
    rw [Phone.insert]
    split
    · next here =>
      refine ⟨[], x :: q, rfl, fun _ mem => absurd mem List.not_mem_nil, fun k head => ?_, rfl⟩
      cases head
      exact here
    · next later =>
      obtain ⟨pre, post, rfl, before, after, placed⟩ := ih
      exact ⟨x :: pre, post, rfl, List.forall_mem_cons.mpr ⟨later, before⟩, after, congrArg (x :: ·) placed⟩

/-- Of two lines answered, the one answered earlier stands before, the lower number among equals. -/
theorem before_iff {j : Nat} (hi : (p.line i).answeredAt ≠ none) (hj : (p.line j).answeredAt ≠ none) :
    p.before i j = true ↔
      (1 ≤ ((p.line j).answeredAt.getD 0 - (p.line i).answeredAt.getD 0).toNat ∧
          ((p.line j).answeredAt.getD 0 - (p.line i).answeredAt.getD 0).toNat ≤ 2147483647) ∨
        ((p.line i).answeredAt.getD 0 = (p.line j).answeredAt.getD 0 ∧ i < j) := by
  obtain ⟨a, answeredI⟩ := Option.ne_none_iff_exists'.mp hi
  obtain ⟨b, answeredJ⟩ := Option.ne_none_iff_exists'.mp hj
  simp only [Phone.before, answeredI, answeredJ, earlier, Bool.or_eq_true, Bool.and_eq_true, decide_eq_true_eq,
    Option.getD_some]

end

/-! ## The release of a caller channel (R147) -/

section
variable {n : Node} {ch : Nat}

theorem removeListen?_withTake (e : Option Nat) (t : TakePath) (n : Node) :
    removeListen? e { n with take := t } = { removeListen? e n with take := t } := by
  cases e with
  | none => rfl
  | some i =>
    cases valid : (n.streams.entry i).valid with
    | true =>
      exact (removeListen_valid (n := { n with take := t }) valid).trans
        (congrArg (fun x : Node => { x with take := t }) (removeListen_valid valid).symm)
    | false =>
      exact (removeListen_invalid (n := { n with take := t }) valid).trans
        (congrArg (fun x : Node => { x with take := t }) (removeListen_invalid valid).symm)

theorem removeListen?_take (e : Option Nat) (n : Node) : (removeListen? e n).take = n.take := by
  cases e with
  | none => rfl
  | some i => exact (congrArg Node.take (removeListen_frame i n)).trans rfl

theorem stopOut_take (i : Nat) (n : Node) : (stopOut i n).take = n.take :=
  (congrArg Node.take (stopOut_frame i n)).trans rfl

theorem channel_setChannel (t : TakePath) (ch : Nat) (r : TakeRecord) : (t.setChannel ch r).channel ch = r := by
  unfold TakePath.setChannel TakePath.channel
  split <;> rfl

theorem setChannel_counters (t : TakePath) (ch : Nat) (r : TakeRecord) :
    (t.setChannel ch r).counters = t.counters := by
  unfold TakePath.setChannel
  split <;> rfl

/-- A channel replaced twice, its counters in between. -/
theorem setChannel_setChannel (t : TakePath) (ch : Nat) (r r' : TakeRecord) (k : TakeCounters) :
    ({ t.setChannel ch r with counters := k } : TakePath).setChannel ch r' =
      { t.setChannel ch r' with counters := k } := by
  unfold TakePath.setChannel
  split <;> rfl

theorem releaseComplete_releasing (state : (n.take.channel ch).state = .releasing) :
    releaseComplete ch n = setTake ch .reset (removeListen? (n.take.channel ch).entry n) := if_pos state

theorem releaseComplete_else (state : (n.take.channel ch).state ≠ .releasing) : releaseComplete ch n = n :=
  if_neg state

/-- The release asked of the mixer and the caller stream stopped. -/
def releaseAsked (ch : Nat) (pending : Option CallerRequest) (n : Node) : Node :=
  stopOut (ch + 5) { n with mixer := n.mixer.setCaller ch { n.mixer.caller ch with pending := pending } }

theorem releaseAsked_take (pending : Option CallerRequest) : (releaseAsked ch pending n).take = n.take :=
  stopOut_take _ _

/-- A channel RELEASING, and its release counted. -/
def releaseBegun (ch : Nat) (r : TakeRecord) (n : Node) : Node :=
  mapTakeCounters (fun c => { c with releases := satInc c.releases }) (setTake ch { r with state := .releasing } n)

theorem releaseBegun_eq (r : TakeRecord) :
    releaseBegun ch r n =
      { n with
        take :=
          { n.take.setChannel ch { r with state := .releasing } with
            counters :=
              { (n.take.setChannel ch { r with state := .releasing }).counters with
                releases := satInc n.take.counters.releases } } } := by
  unfold releaseBegun mapTakeCounters
  simp only [setTake_take, setChannel_counters]
  rfl

/-- The release of a channel of an inactive caller is complete at once (R52, R147). -/
theorem releaseComplete_begun (r : TakeRecord) :
    releaseComplete ch (releaseBegun ch r n) =
      { removeListen? r.entry n with
        take :=
          { n.take.setChannel ch .reset with
            counters := { n.take.counters with releases := satInc n.take.counters.releases } } } := by
  have own : (releaseBegun ch r n).take.channel ch = { r with state := .releasing } := channel_setChannel _ _ _
  rw [releaseComplete_releasing (congrArg TakeRecord.state own), own, releaseBegun_eq, removeListen?_withTake]
  unfold setTake
  rw [setChannel_setChannel, setChannel_counters]

theorem releaseChannel_else (state : (n.take.channel ch).state ≠ .onAir) : releaseChannel ch n = n := if_neg state

section
variable (state : (n.take.channel ch).state = .onAir) {pending : Option CallerRequest}
include state

theorem releaseChannel_busy (asked : releaseCaller ch n =
      ({ n with mixer := n.mixer.setCaller ch { n.mixer.caller ch with pending := pending } }, false)) :
    releaseChannel ch n = releaseBegun ch (n.take.channel ch) (releaseAsked ch pending n) := by
  refine (if_pos state).trans ?_
  rw [asked]
  rfl

theorem releaseChannel_idle (asked : releaseCaller ch n =
      ({ n with mixer := n.mixer.setCaller ch { n.mixer.caller ch with pending := pending } }, true)) :
    releaseChannel ch n =
      releaseComplete ch (releaseBegun ch (n.take.channel ch) (releaseAsked ch pending n)) := by
  refine (if_pos state).trans ?_
  rw [asked]
  rfl

end

end

section
variable {n : Node} {ch : Nat}

theorem releaseCaller_inactive (inactive : (n.mixer.caller ch).state = .inactive) :
    releaseCaller ch n =
      ({ n with mixer := n.mixer.setCaller ch { n.mixer.caller ch with pending := none } }, true) := by
  simp only [releaseCaller, inactive]

theorem releaseCaller_else (busy : (n.mixer.caller ch).state ≠ .inactive) :
    releaseCaller ch n =
      ({ n with
          mixer :=
            n.mixer.setCaller ch
              { n.mixer.caller ch with
                pending := if (n.mixer.caller ch).state = .active then some .release else none } },
        false) := by
  cases state : (n.mixer.caller ch).state with
  | inactive => exact absurd state busy
  | active => simp only [releaseCaller, state, if_true]
  | releasing => simp only [releaseCaller, state, reduceCtorEq, if_false]

end

/-! ## The hold feed (R135) -/

section
variable {n : Node}

theorem holdNeeded_iff (n : Node) :
    n.holdNeeded = true ↔
      n.cfg.roles.phone = true ∧ n.phone.queue ≠ [] ∧ n.cfg.roles.link = false ∧ n.bus.linkStation ≠ none := by
  simp only [Node.holdNeeded, Bool.and_eq_true, Bool.not_eq_true', List.isEmpty_eq_false_iff, ne_eq, and_assoc,
    Option.isSome_iff_ne_none]

theorem addHold_added {k e : Nat} (station : n.bus.linkStation = some k) (added : n.streams.addOutcome k 5 = .added e) :
    addHold n =
      { (addListen k 5 .onair n).2 with
        phone := { (addListen k 5 .onair n).2.phone with holdEntry := some e } } := by
  unfold addHold
  rw [station, Option.getD_some, addListen_added added]

theorem addHold_refused {k : Nat} {why : AddFailure} (station : n.bus.linkStation = some k)
    (refused : n.streams.addOutcome k 5 = .refused why) :
    addHold n = mapPhoneCounters (fun c => { c with holdFeedRefusals := satInc c.holdFeedRefusals }) n := by
  unfold addHold
  rw [station, Option.getD_some, addListen_refused refused]

theorem judgeHoldFeed_none (none_ : n.phone.holdEntry = none) :
    judgeHoldFeed n = if n.holdNeeded then addHold n else n := by
  unfold judgeHoldFeed
  rw [none_]

section
variable {k : Nat} (some_ : n.phone.holdEntry = some k)
include some_

theorem judgeHoldFeed_drops (unneeded : ¬ n.holdNeeded = true) : judgeHoldFeed n = dropHold n := by
  unfold judgeHoldFeed
  rw [some_]
  exact if_pos (Bool.not_eq_true' _ ▸ Bool.eq_false_iff.mpr unneeded)

theorem judgeHoldFeed_kept (needed : n.holdNeeded = true) :
    judgeHoldFeed n =
      if some (n.streams.entry k).station = n.bus.linkStation then n else addHold (dropHold n) := by
  unfold judgeHoldFeed
  rw [some_]
  exact if_neg (by rw [needed]; decide)

end
end

/-! ## The counts and the watches of a boundary (R130, R132, R138, R145) -/

section
variable {n : Node}

theorem slotHeard_iff {entry : Option Nat} :
    n.slotHeard entry = true ↔
      ∃ k, entry = some k ∧
        ((n.streams.slot k).lastSeq ≠ none ∨ (n.streams.slot k).state = .running ∨
          (n.streams.slot k).state = .refilling ∨ (n.streams.slot k).state = .ended) := by
  cases entry with
  | none => exact iff_of_false Bool.false_ne_true fun ⟨k, h, _⟩ => by cases h
  | some k =>
    have timed (s : SlotState) : s.timed = true ↔ s = .running ∨ s = .refilling := by cases s <;> decide
    simp only [Node.slotHeard, Bool.or_eq_true, decide_eq_true_eq, timed, Option.isSome_iff_ne_none,
      Option.some.injEq, exists_eq_left', or_assoc]

theorem Watch.step_met {w : Watch} {heard : Bool} (h : w.met = true ∨ heard = true) :
    w.step heard = { w with met := true } := by
  obtain ⟨age, met⟩ := w
  cases met with
  | true => rfl
  | false => rw [h.resolve_left Bool.false_ne_true]; rfl

theorem Watch.step_unheard {w : Watch} {heard : Bool} (unmet : w.met = false) (h : ¬ heard = true) :
    w.step heard = { w with age := w.age + 1 } := by
  unfold Watch.step
  rw [unmet, if_neg Bool.false_ne_true, if_neg h]

end

section
variable {n : Node}

theorem phoneCounts_phone (phone : n.cfg.roles.phone = true) :
    phoneCounts n =
      { n with
        phone :=
          { n.phone with
            blockCount := n.phone.blockCount + 1,
            lines :=
              lineNumbers.map (fun i => (n.phone.line i).count (pinAt n.pins.ring i) (pinAt n.pins.loop i)) } } := by
  unfold phoneCounts
  rw [phone]
  rfl

theorem phoneCounts_other (phone : n.cfg.roles.phone = false) :
    phoneCounts n = { n with phone := { n.phone with blockCount := n.phone.blockCount + 1 } } := by
  unfold phoneCounts
  rw [phone]
  rfl

theorem takeWatches_line (i : Nat) (h : i < n.phone.lines.length) (h' : i < (takeWatches n).phone.lines.length) :
    (takeWatches n).phone.lines[i] =
      { n.phone.lines[i] with
        watch := n.phone.lines[i].watch.map (fun w => w.step (n.slotHeard n.phone.lines[i].mmEntry)) } :=
  List.getElem_map _

/-- The watch of a channel moves on while the channel is ON_AIR. -/
def TakeRecord.turned (n : Node) (r : TakeRecord) : TakeRecord :=
  if r.state = .onAir then { r with watch := r.watch.map (fun w => w.step (n.slotHeard r.entry)) } else r

theorem callerWatches_eq (n : Node) :
    callerWatches n = { n with take := { n.take with ch1 := n.take.ch1.turned n, ch2 := n.take.ch2.turned n } } := rfl

/-- What a watch of an entry is after a boundary. -/
theorem watch_steps (w : Option Watch) (entry : Option Nat) :
    (w = none → w.map (fun v => v.step (n.slotHeard entry)) = none) ∧
      ∀ v, w = some v →
        (v.met = true ∨ n.slotHeard entry = true →
          w.map (fun v => v.step (n.slotHeard entry)) = some { v with met := true }) ∧
        (v.met = false → ¬ n.slotHeard entry = true →
          w.map (fun v => v.step (n.slotHeard entry)) = some { v with age := v.age + 1 }) := by
  refine ⟨fun none_ => by rw [none_]; rfl, fun v some_ => ⟨fun met => ?_, fun unmet unheard => ?_⟩⟩
  · rw [some_, Option.map_some, Watch.step_met met]
  · rw [some_, Option.map_some, Watch.step_unheard unmet unheard]

end

/-- Settles O43: the changes of a line and of a channel, the hold feed, the counts of a boundary, and its events in
turn. -/
theorem phoneLinesChange : Obligations.PhoneLinesChange := by
  refine ⟨fun n i f why => ?_, fun n ch => ?_, fun n => ?_, fun mem n => ?_, fun s rest => ?_⟩
  · intro p l put without offAir
    refine ⟨rfl, rfl, rfl, ?_⟩
    intro answered at_ stands
    obtain ⟨pre, post, queue, before, after, placed⟩ := insert_split p i p.queue
    have mem {j : Nat} (h : j ∈ pre ∨ post.head? = some j) : (p.line j).answeredAt ≠ none := by
      refine answered j (.inr ?_)
      rw [queue]
      exact List.mem_append.mpr (h.imp id List.mem_of_mem_head?)
    have own := answered i (.inl rfl)
    refine ⟨pre, post, queue, fun j h => mt (before_iff own (mem (.inl h))).mpr (before j h),
      fun k h => (before_iff own (mem (.inr h))).mp (after k h), ?_⟩
    rw [← placed]
    rfl
  · intro r
    refine ⟨releaseChannel_else, fun onAir inactive => ?_, fun onAir busy => ?_⟩
    · intro y free
      have kept : y.take = n.take := (removeListen?_take _ _).trans (releaseAsked_take none)
      rw [releaseChannel_idle onAir (releaseCaller_inactive inactive), releaseComplete_begun, releaseAsked_take, kept]
      rfl
    · intro pending
      exact (releaseChannel_busy onAir (releaseCaller_else busy)).trans (releaseBegun_eq r)
  · intro needed dropped
    have isNeeded : n.holdNeeded = true ↔ needed := holdNeeded_iff n
    refine ⟨fun k station => ⟨fun e added => addHold_added station added,
        fun why refused => addHold_refused station refused⟩,
      fun none_ not => ?_, fun none_ need => ?_, fun k some_ not => judgeHoldFeed_drops some_ (mt isNeeded.mp not),
      fun k some_ need => ⟨fun same => ?_, fun other => ?_⟩⟩
    · rw [judgeHoldFeed_none none_, if_neg (mt isNeeded.mp not)]
    · rw [judgeHoldFeed_none none_, if_pos (isNeeded.mpr need)]
    · rw [judgeHoldFeed_kept some_ (isNeeded.mpr need), if_pos same]
    · rw [judgeHoldFeed_kept some_ (isNeeded.mpr need), if_neg other]
      rfl
  · intro p counts heard watches turned met turn
    have isHeard (entry : Option Nat) : n.slotHeard entry = true ↔ heard entry := slotHeard_iff
    have stepped (w : Option Watch) (entry : Option Nat) :
        watches w (w.map (fun v => v.step (n.slotHeard entry))) entry := by
      unfold watches
      simp only [← isHeard]
      exact watch_steps w entry
    have turns (r : TakeRecord) : turned r (r.turned n) := by
      unfold TakeRecord.turned
      split
      · next onAir => exact ⟨_, fun off => absurd onAir off, fun _ => stepped r.watch r.entry, rfl⟩
      · next off => exact ⟨r.watch, fun _ => rfl, fun onAir => absurd onAir off, rfl⟩
    refine ⟨?_, rfl, List.length_map _, fun i h h' => ⟨_, stepped _ _, takeWatches_line i h h'⟩, rfl, turns _, turns _⟩
    cases phone : n.cfg.roles.phone with
    | true => exact (phoneCounts_phone phone).trans rfl
    | false => exact phoneCounts_other phone
  · intro n inc counted inTurn rings gaveUp hungUp failed unheard ring giveUp callerFails callerEnds
    refine ⟨fun place due => ?_, fun place due => ?_, fun place due => ?_, fun place due => ?_, fun place due => ?_⟩
    · exact exec_atStage rfl place (any_lineNumbers.mpr due) rfl
    · exact exec_atStage rfl place (any_lineNumbers.mpr due) rfl
    · exact exec_atStage rfl place (any_lineNumbers.mpr due) rfl
    · exact exec_atStage rfl place (any_lineNumbers.mpr due) rfl
    · exact exec_atStage rfl place (Bool.or_eq_true_iff.mpr due) rfl

end Sys2Proof.Machine
end

section
/-! PROOFS. The outcomes of takes and drops across the bus (R145 to R147). -/

namespace Sys2Proof.Machine

/-! ## The answer to a take (R145, R146) -/

/-- The line that the OK answer to a take names; a free one where the answer carries none (log 5). -/
def answeredLine (data : List Byte) (n : Node) : Nat :=
  match data with
  | b :: _ => b.toNat
  | [] => Config.unstatedAnswerLine n.fresh

/-- What becomes of a channel in TAKING with the outcome of listening to its line. -/
def takeHeard (ch line : Nat) (r : TakeRecord) : AddOutcome × Node → Node
  | (.added i, m) =>
    startOut (ch + 5) line
      (activateCaller ch (.entry i)
        (setTake ch
          { r with
            state := .onAir, line := some line, entry := some i, tag := none,
            watch := some { age := 0, met := false } } m))
  | (.refused _, m) =>
    mapTakeCounters (fun c => { c with abandoned := satInc c.abandoned }) (setTake ch .reset m)

section
variable {ch key src result : Nat} {data : List Byte} {n : Node}

theorem takeAnswered_else (state : (n.take.channel ch).state ≠ .taking) :
    takeAnswered ch key src result data n = n := if_pos state

theorem takeTimedOut_else (state : (n.take.channel ch).state ≠ .taking) : takeTimedOut ch key n = n := if_pos state

variable (taking : (n.take.channel ch).state = .taking)
include taking

theorem takeTimedOut_taking :
    takeTimedOut ch key n =
      refuseKey key (n.cfg.keyFn key) .timeout
        (mapTakeCounters (fun c => { c with timeouts := satInc c.timeouts }) (setTake ch .reset n)) :=
  if_neg (not_not_intro taking)

theorem takeAnswered_refused (refused : result ≠ 0) :
    takeAnswered ch key src result data n =
      refuseKey key (n.cfg.keyFn key) (.code result)
        (mapTakeCounters (fun c => { c with refusedByPhone := satInc c.refusedByPhone }) (setTake ch .reset n)) :=
  (if_neg (not_not_intro taking)).trans (if_neg refused)

variable (ok : result = 0)
include ok

theorem takeAnswered_ok :
    takeAnswered ch key src result data n =
      takeHeard ch (answeredLine data n) (n.take.channel ch)
        (addListen src (answeredLine data n) .caller { n with fresh := n.fresh + 1 }) := by
  refine (if_neg (not_not_intro taking)).trans ((if_pos ok).trans ?_)
  cases data <;> rfl

theorem takeAnswered_added {i : Nat} (added : n.streams.addOutcome src (answeredLine data n) = .added i) :
    takeAnswered ch key src result data n =
      startOut (ch + 5) (answeredLine data n)
        (activateCaller ch (.entry i)
          (setTake ch
            { n.take.channel ch with
              state := .onAir, line := some (answeredLine data n), entry := some i, tag := none,
              watch := some { age := 0, met := false } }
            (addListen src (answeredLine data n) .caller { n with fresh := n.fresh + 1 }).2)) := by
  have asked := addListen_added (n := { n with fresh := n.fresh + 1 }) (p := .caller) added
  rw [takeAnswered_ok taking ok, asked]
  rfl

theorem takeAnswered_abandoned {why : AddFailure}
    (refused : n.streams.addOutcome src (answeredLine data n) = .refused why) :
    takeAnswered ch key src result data n =
      mapTakeCounters (fun c => { c with abandoned := satInc c.abandoned })
        (setTake ch .reset { n with fresh := n.fresh + 1 }) := by
  have asked := addListen_refused (n := { n with fresh := n.fresh + 1 }) (p := .caller) refused
  rw [takeAnswered_ok taking ok, asked]
  rfl

end

/-! ## The answer to a drop (R147) -/

section
variable {ch key result : Nat} {tag : Byte} {n : Node}

theorem awaits_iff {r : TakeRecord} : r.awaits tag = true ↔ tag ∈ r.drops := List.contains_iff_mem

theorem dropFailed_unasked (unasked : tag ∉ (n.take.channel ch).drops) (why : KeyResult) :
    dropFailed ch key tag why n = refuseKey key (n.cfg.keyFn key) why n := if_neg (mt awaits_iff.mp unasked)

theorem dropFailed_asked (asked : tag ∈ (n.take.channel ch).drops) (why : KeyResult) :
    dropFailed ch key tag why n =
      releaseChannel ch
        (setTake ch ((n.take.channel ch).giveUp tag) (refuseKey key (n.cfg.keyFn key) why n)) :=
  if_pos (awaits_iff.mpr asked)

theorem dropAnswered_ok :
    dropAnswered ch key tag 0 n =
      if tag ∈ (n.take.channel ch).drops then setTake ch ((n.take.channel ch).giveUp tag) n else n := by
  simp only [← awaits_iff]
  exact if_pos rfl

theorem dropAnswered_failed (failed : result ≠ 0) :
    dropAnswered ch key tag result n = dropFailed ch key tag (.code result) n := if_neg failed

end

/-! ## The end of a CALLER slot (R147) -/

section
variable {n : Node}

/-- What a channel's release leaves of the take records: the channel's own changes alone. -/
theorem releaseChannel_take (ch : Nat) (n : Node) :
    (releaseChannel ch n).take = n.take ∨
      ∃ r k, (releaseChannel ch n).take = { n.take.setChannel ch r with counters := k } := by
  by_cases onAir : (n.take.channel ch).state = .onAir
  swap
  · exact .inl (by rw [releaseChannel_else onAir])
  by_cases inactive : (n.mixer.caller ch).state = .inactive
  · right
    rw [releaseChannel_idle onAir (releaseCaller_inactive inactive), releaseComplete_begun, releaseAsked_take]
    exact ⟨_, _, rfl⟩
  · right
    rw [releaseChannel_busy onAir (releaseCaller_else inactive), releaseBegun_eq, releaseAsked_take]
    exact ⟨_, _, rfl⟩

theorem releaseChannel_first (n : Node) : (releaseChannel 1 n).take.channel 2 = n.take.channel 2 := by
  rcases releaseChannel_take 1 n with same | ⟨r, k, changed⟩
  · rw [same]
  · rw [changed]
    rfl

/-- The end of a slot at one channel. -/
def slotEndsAt (slot : SlotReport) (ch : Nat) (n : Node) : Node :=
  if (n.take.channel ch).entry = some slot.entry then releaseChannel ch n else n

theorem callerSlotEnded_eq (slot : SlotReport) (n : Node) :
    callerSlotEnded slot n = slotEndsAt slot 2 (slotEndsAt slot 1 n) := rfl

theorem slotEndsAt_own {slot : SlotReport} {ch : Nat} (own : (n.take.channel ch).entry = some slot.entry) :
    slotEndsAt slot ch n = releaseChannel ch n := if_pos own

theorem slotEndsAt_other {slot : SlotReport} {ch : Nat} (other : (n.take.channel ch).entry ≠ some slot.entry) :
    slotEndsAt slot ch n = n := if_neg other

theorem callerSlotEnded_one {ch : Nat} {slot : SlotReport} (channel : ch = 1 ∨ ch = 2)
    (own : (n.take.channel ch).entry = some slot.entry)
    (other : (n.take.channel (3 - ch)).entry ≠ some slot.entry) : callerSlotEnded slot n = releaseChannel ch n := by
  rw [callerSlotEnded_eq]
  rcases channel with rfl | rfl
  · rw [slotEndsAt_own own, slotEndsAt_other (releaseChannel_first n ▸ other)]
  · rw [slotEndsAt_other (ch := 1) other, slotEndsAt_own own]

end

/-- Settles O44: what answers and timeouts of takes and drops do, and what ends a channel. -/
theorem takeAndDropOutcomes : Obligations.TakeAndDropOutcomes := by
  intro n ch key channel r inc counted free
  refine ⟨fun src result data => ⟨takeAnswered_else, takeAnswered_refused, fun taking ok => ?_⟩, takeTimedOut_else,
    takeTimedOut_taking, fun tag => ?_, fun why => rfl, releaseComplete_releasing, releaseComplete_else,
    fun slot => callerSlotEnded_one channel⟩
  · intro line x
    have isLine : answeredLine data n = line := by
      cases data <;> rfl
    rw [← isLine]
    exact ⟨fun i added => takeAnswered_added taking ok added,
      fun why refused => takeAnswered_abandoned taking ok refused⟩
  · intro left told
    refine
      ⟨fun unasked =>
        ⟨dropFailed_unasked unasked _, dropAnswered_ok.trans (if_neg unasked), fun result failed => ?_⟩,
      fun asked => ⟨dropFailed_asked asked _, dropAnswered_ok.trans (if_pos asked), fun result failed => ?_⟩⟩
    · exact (dropAnswered_failed failed).trans (dropFailed_unasked unasked _)
    · exact (dropAnswered_failed failed).trans (dropFailed_asked asked _)

end Sys2Proof.Machine
end
